-- ==== Sys2Proof/Word.lean ====
section
/-! DEFINITION. The byte and the text of the MC-540: the only words the manual treats as bits.
Every other quantity of the manual is a whole number with a range (00_scope.md, Quantities), a name
out of a listing, or a record of such. -/

namespace Sys2Proof

/-- One byte of the host link or of a radio block (R192, R206). -/
abbrev Byte := BitVec 8

/-- A text: ASCII characters, one byte each (00_scope.md, Characters; R204). -/
abbrev Text := List Byte

/-- A code of decimal digits, the digits as the characters 30h to 39h (R178, R204). -/
abbrev Digits := List Byte

/-- A byte written as a number. -/
abbrev byte (n : Nat) : Byte := BitVec.ofNat 8 n

end Sys2Proof
end

