-- ==== Sys2Proof/Config.lean ====
section
/-! DEFINITION. What the manual leaves open (free values, opaque: no proof can see them) and the fixed
durations and capacities it states. Each free value is named in a row of notes/assumptions. -/

namespace Sys2Proof

/-- FREE VALUE. The world's draw, 0 to 15 after reduction, for a slot that the part reaches on its own
clock (R32: "Which slot the chance falls on, if any, is the world's choice"). Log entry 4. -/
opaque Config.slotDraw : Nat → Nat

/-- FREE VALUE. Which of several steps that are due at one instant is taken first
(00_scope.md, Order of events; R60, R73, R85, R102, R189, R199). Log entry 3. -/
opaque Config.firstStep : Nat → Nat

/-- FREE VALUE. Whether a part second of a remaining time reported in whole seconds is counted
(the manual gives no rounding of "seconds left" in R45, R120, R175, R183). Log entry 8. -/
opaque Config.roundsUp : Nat → Bool

/-- FREE VALUE. What becomes of a nonvolatile write in progress when the reset pin, not a power loss,
resets the part: 0 the old content stands, 1 torn, any other number the new content. Log entry 9. -/
opaque Config.writeAtResetPin : Nat → Nat

/-- FREE VALUE. The number sent for a number that lies beyond the largest its field holds, an uptime
second past 4,294,967,295 for one (R204 and R202 state no result there). Log entry 10. -/
opaque Config.beyondField : Nat → Nat → Nat

/-- FREE VALUE. The payload of a frame with an unrecognised tag that comes while another frame is followed: the
command carries the tag alone (R193, R194, R197). Log entry 11. -/
opaque Config.unknownPayload : Nat → List Byte

namespace Config

/-- One cycle, in milliseconds (R9: "exactly 1,200 ms"). -/
abbrev cycleMs : Nat := 1200
/-- The window opens this long before the expected header instant and first closes this long after (R9). -/
abbrev windowMs : Nat := 30
/-- One stretch of the window (R9). -/
abbrev stretchMs : Nat := 20
/-- Stretches of one window (R9). -/
abbrev maxStretches : Nat := 5
/-- Consecutive misses that lose the channel (R10). -/
abbrev missesToSearch : Nat := 4
/-- Cycle numbers are counted modulo this (R2, R10). -/
abbrev cycleNumbers : Nat := 4096
/-- A slot n begins 150 + 100 n ms after the header instant (R1). -/
abbrev slotBeginMs (n : Nat) : Nat := 150 + 100 * n
/-- A slot lasts 90 ms (R1). -/
abbrev slotLengthMs : Nat := 90
/-- The debounce of keys and ignition (R58). -/
abbrev debounceMs : Nat := 30
/-- The PANIC hold that arms (R62). -/
abbrev panicMs : Nat := 1500
/-- The hold that makes a key STUCK (R63). -/
abbrev stuckMs : Nat := 30000
/-- The park timer's mark (R16). -/
abbrev parkMs : Nat := 60000
/-- The host-reset pulse (R21). -/
abbrev hostResetMs : Nat := 50
/-- SEARCH time before the first beacon (R44). -/
abbrev beaconAfterMs : Nat := 20000
/-- Spacing of the beacons (R44). -/
abbrev beaconEveryMs : Nat := 15000
/-- A fix is STALE at this age (R53). -/
abbrev fixStaleMs : Nat := 30000
/-- A fix is LOST at this age (R53). -/
abbrev fixLostMs : Nat := 120000
/-- The no-answer instant, seconds after the expiry (R68, R85). -/
abbrev noAnswerS : Nat := 15
/-- The resume window (R102). -/
abbrev resumeMs : Nat := 20000
/-- Hold-off of a trip report that failed (R127). -/
abbrev holdOffMs : Nat := 60000
/-- The totals period (R132). -/
abbrev totalsPeriodMs : Nat := 300000
/-- The longest nonvolatile write (R138). -/
abbrev writeMs : Nat := 20
/-- The lockout of CODE ENTER (R189). -/
abbrev lockoutMs : Nat := 60000
/-- The gap that abandons a frame is any above this (R194). -/
abbrev gapMs : Nat := 20
/-- Attempts at which an entry fails (R37). -/
abbrev maxAttempts : Nat := 5
/-- Cycles a LONG entry waits for its grant (R39). -/
abbrev maxGrantWait : Nat := 6
/-- The largest fare (R112). -/
abbrev maxFare : Nat := 999999
/-- Largest value of a count of 12 digits (R129, R131). -/
abbrev maxTotal : Nat := 999999999999
/-- Largest value of 2 bytes. -/
abbrev max16 : Nat := 65535
/-- Largest value of 4 bytes. -/
abbrev max32 : Nat := 4294967295
/-- Records of the trip log (R124). -/
abbrev logSize : Nat := 32
/-- Entries of the offer board (R72). -/
abbrev boardSize : Nat := 8
/-- Records of the inbox (R147). -/
abbrev inboxSize : Nat := 16

end Config

end Sys2Proof
end

