-- ==== Sys2Proof/Syntax.lean ====
section
/-! DEFINITION. The commands of the MC-540: one constructor of Instr for each row of spec/opcode_table.json,
with its operands. Operands that cross the host link or the radio port stand as the numbers their bytes
spell (R204, R206, R207), so that a value outside its range can be written and is refused or discarded by
the command's own meaning; the pins and the slots have closed types. -/

namespace Sys2Proof

/-- The six panel keys (04, opening). -/
inductive Key where
  | hire | stop | free | extra | accept | panic
deriving DecidableEq, Repr

/-- The debounced inputs: the keys and the ignition line (R58). -/
inductive Input where
  | key (k : Key)
  | ignition
deriving DecidableEq, Repr

/-- The payload of a host request: of the size its layout implies, with its fields, or of the wrong
size, with the bytes that it holds (R197 item 2, R204). -/
inductive Payload (α : Type) where
  | fields (a : α)
  | wrongSize (bytes : List Byte)
deriving DecidableEq, Repr

/-- One slot entry of a header's slot map: its high four bits and its low twelve (R206). -/
structure SlotField where
  kind : Nat
  address : Nat
deriving DecidableEq, Repr

/-- One pair of a header's heard list (R3, R206). -/
structure HeardPair where
  slot : Nat
  address : Nat
deriving DecidableEq, Repr

/-- A block whose first byte is 01h, field by field; checkOk says that its length and check are right (R206). -/
structure HeaderBlock where
  checkOk : Bool
  fleetCode : Nat
  cycle : Nat
  dayType : Nat
  second : Nat
  persistence : Nat
  statusInterval : Nat
  offersPaused : Bool
  slots : List SlotField
  heard : List HeardPair
deriving DecidableEq, Repr

/-- What every downlink item block carries before its fields (R207): checkOk says that the block's length
and check are right, encodingOk that every field byte lies inside its encoding (R204, R207). -/
structure ItemHead where
  checkOk : Bool
  encodingOk : Bool
  target : Nat
  value : Nat
deriving DecidableEq, Repr

/-- The fields of an OFFER item (R5). -/
structure OfferFields where
  number : Nat
  cls : Nat
  nextJob : Nat
  pickup : Nat
  timeToLive : Nat
  text : Option Text
  estimate : Option Nat
deriving DecidableEq, Repr

/-- The fields of a TEXT item (R5). -/
structure TextFields where
  number : Nat
  priority : Nat
  text : Text
  replies : List Nat
deriving DecidableEq, Repr

/-- Operands of POSITION. -/
structure PositionArgs where
  easting : Nat
  northing : Nat
  quality : Nat
deriving DecidableEq, Repr

/-- One rectangle of a ZONE LOAD, with the fields of R49. -/
structure RectArgs where
  west : Nat
  south : Nat
  east : Nat
  north : Nat
  zone : Nat
  area : Nat
  adjacent : List Nat
deriving DecidableEq, Repr

/-- Operands of ZONE READ. -/
structure ZoneReadArgs where
  first : Nat
  count : Nat
deriving DecidableEq, Repr

/-- Operands of TIME SET. -/
structure TimeArgs where
  dayType : Nat
  second : Nat
deriving DecidableEq, Repr

/-- The selector of TRIP READ: its position NUMBER 0, AFTER 1, OLDEST 2, NEWEST 3, and the sequence
number of the first two (0 with the others). -/
structure TripSelector where
  which : Nat
  number : Nat
deriving DecidableEq, Repr

/-- Operands of MESSAGE REPLY. -/
structure ReplyArgs where
  number : Nat
  code : Nat
deriving DecidableEq, Repr

/-- The value of a SETTING WRITE, in the encoding of the setting it names (R204). -/
inductive SettingValue where
  | number (n : Nat)
  | code (d : Digits)
deriving DecidableEq, Repr

/-- Operands of SETTING WRITE: the setting by its position in the request's list, and its value. -/
structure SettingArgs where
  setting : Nat
  value : SettingValue
deriving DecidableEq, Repr

/-- Operands of CANNED WRITE. -/
structure CannedArgs where
  number : Nat
  text : Text
deriving DecidableEq, Repr

/-- Operands of TARIFF WRITE. -/
structure TariffArgs where
  number : Nat
  valid : Nat
  flagFall : Nat
  increment : Nat
  distanceStep : Nat
  timeStep : Nat
  included : Nat
  mode : Nat
  extra : Nat
deriving DecidableEq, Repr

/-- Operands of BANDS WRITE; the count is the length of the list of tariffs. -/
structure BandsArgs where
  row : Nat
  first : Nat
  tariffs : List Nat
deriving DecidableEq, Repr

/-- The selector of SETTING READ: positions 0 to 11 the settings of SETTING WRITE, 12 TARIFF, 13 BANDS,
14 CANNED, 15 STORE; operand is the number or row of positions 12 to 14 (0 with the others). -/
structure SettingSelector where
  which : Nat
  operand : Nat
deriving DecidableEq, Repr

/-- One byte of the host link as its receiver samples it: a broken byte had its stop bit low (R192). -/
structure LineByte where
  value : Byte
  broken : Bool
deriving DecidableEq, Repr

/-- The commands: one constructor for each row of spec/opcode_table.json, in the table's order. -/
inductive Instr where
  | powerOn
  | powerLoss
  | cycleHeader (h : HeaderBlock)
  | windowOpen
  | windowStretch
  | missedHeader
  | offer (head : ItemHead) (o : OfferFields)
  | withdraw (head : ItemHead) (number : Nat)
  | award (head : ItemHead) (number : Nat)
  | lost (head : ItemHead) (number : Nat)
  | text (head : ItemHead) (t : TextFields)
  | page (head : ItemHead)
  | emergAck (head : ItemHead)
  | standDown (head : ItemHead)
  | remoteReset (head : ItemHead)
  | hostResetPulseEnd
  | slotStart (slot : Fin 10) (draw : Fin 16)
  | transmissionEnd
  | claimDeadline (number : Nat)
  | statusTimerExpiry
  | emergencyBeacon
  | parkTimer60s
  | enterSparse
  | timeOfDaySecond
  | voiceReqAsserted
  | voiceReqReleased
  | position (p : Payload PositionArgs)
  | fixStale
  | fixLost
  | zoneLoad (p : Payload (List RectArgs))
  | zonePoint (p : Payload Nat)
  | zoneClear (p : Payload Unit)
  | zoneRead (p : Payload ZoneReadArgs)
  | zoneStatus (p : Payload Unit)
  | inputRawChange (i : Input) (high : Bool)
  | firstRecognisedLevel (i : Input)
  | keyPress (k : Key)
  | keyRelease (k : Key)
  | panicArming
  | keyStuck (k : Key)
  | ignitionChange
  | odometerPulse
  | panelStatus (p : Payload Nat)
  | offerExpiry (number : Nat)
  | noAnswer (number : Nat)
  | offerFocus (p : Payload Nat)
  | offerTake (p : Payload Nat)
  | offerDismiss (p : Payload Nat)
  | assignmentAbandon (p : Payload Unit)
  | boardRead (p : Payload Unit)
  | resumeWindowClose
  | meterSecond
  | meterKey (p : Payload Nat)
  | shiftOpen (p : Payload Nat)
  | shiftClose (p : Payload Unit)
  | meterStatus (p : Payload Unit)
  | timeSet (p : Payload TimeArgs)
  | tripReportPlacement
  | reportHoldOffEnd (number : Nat)
  | totalsPeriodEnd
  | storeWriteStart
  | storeWriteComplete
  | tripRead (p : Payload TripSelector)
  | totalsRead (p : Payload Unit)
  | totalsReinit (p : Payload Unit)
  | receiptPlacement
  | inboxRead (p : Payload Nat)
  | messageMark (p : Payload Nat)
  | messageReply (p : Payload ReplyArgs)
  | messageDelete (p : Payload Nat)
  | sendCanned (p : Payload Nat)
  | sendText (p : Payload Text)
  | uplinkStatus (p : Payload Unit)
  | reportTimerExpiry
  | emergencyRaise (p : Payload Unit)
  | emergencyCancel (p : Payload Digits)
  | emergencyStatus (p : Payload Unit)
  | alertClear (p : Payload Unit)
  | settingWrite (p : Payload SettingArgs)
  | cannedWrite (p : Payload CannedArgs)
  | tariffWrite (p : Payload TariffArgs)
  | bandsWrite (p : Payload BandsArgs)
  | settingRead (p : Payload SettingSelector)
  | commit (p : Payload Unit)
  | revert (p : Payload Unit)
  | codeEnter (p : Payload Digits)
  | lockoutEnd
  | levelDrop (p : Payload Unit)
  | fetchEvent (p : Payload Unit)
  | restart (p : Payload Unit)
  | identify (p : Payload Unit)
  | linkStatus (p : Payload Unit)
  | unknownRequest (t0 t1 t2 t3 : Byte)
  | badFrame (bytes : List LineByte)
  | earlyFrame (bytes : List LineByte)
  | frameAbandon
  | replyComplete
deriving DecidableEq, Repr

end Sys2Proof
end

