-- ==== Sys2Proof/WellFormed.lean ====
section
/-! DEFINITION. Well-formed commands: each operand fits the field that carries it, and a request's payload the
frame (R193, R204, R206, R207).
The meanings do not rest on it: a value a field can hold and a rule refuses is refused by the meaning. -/

namespace Sys2Proof

/-- A number of one byte. -/
abbrev fits8 (n : Nat) : Bool := decide (n < 256)
/-- A number of two bytes. -/
abbrev fits16 (n : Nat) : Bool := decide (n < 65536)
/-- A number of four bytes. -/
abbrev fits32 (n : Nat) : Bool := decide (n < 4294967296)
/-- A text whose length fits its length byte. -/
abbrev fitsText (t : Text) : Bool := decide (t.length < 256)
/-- A list whose count fits its count byte, each item one byte. -/
abbrev fitsList (l : List Nat) : Bool := decide (l.length < 256) && l.all fits8

/-- A payload of so many bytes fits one frame (R193). -/
abbrev fitsFrame (n : Nat) : Bool := decide (n ≤ 240)
/-- Bytes that fit the payload of one frame (R193). -/
abbrev fitsPayload (b : List Byte) : Bool := fitsFrame b.length

/-- A payload is well formed when its fields are, one of the wrong size when it fits a frame. -/
def Payload.wf {α : Type} (f : α → Bool) : Payload α → Bool
  | .fields a => f a
  | .wrongSize b => fitsPayload b

/-- A header block's fields fit R206: ten slot entries of four and twelve bits, at most 255 pairs. -/
def HeaderBlock.wf (h : HeaderBlock) : Bool :=
  fits8 h.fleetCode && fits16 h.cycle && fits8 h.dayType && decide (h.second < 16777216)
    && fits8 h.persistence && fits16 h.statusInterval && decide (h.slots.length = 10)
    && h.slots.all (fun f => decide (f.kind < 16) && decide (f.address < 4096))
    && decide (h.heard.length < 256)
    && h.heard.all (fun p => decide (p.slot < 16) && decide (p.address < 4096))

/-- An item head's fields fit R207. -/
def ItemHead.wf (i : ItemHead) : Bool := fits8 i.target && fits16 i.value

/-- An OFFER's fields fit R207. -/
def OfferFields.wf (o : OfferFields) : Bool :=
  fits16 o.number && fits8 o.cls && fits8 o.nextJob && fits8 o.pickup && fits8 o.timeToLive
    && (o.text.map fun t => fitsText t).getD true && (o.estimate.map fun n => fits32 n).getD true

/-- A TEXT's fields fit R207. -/
def TextFields.wf (t : TextFields) : Bool :=
  fits16 t.number && fits8 t.priority && fitsText t.text && fitsList t.replies

/-- A rectangle's fields fit R204. -/
def RectArgs.wf (r : RectArgs) : Bool :=
  fits32 r.west && fits32 r.south && fits32 r.east && fits32 r.north && fits8 r.zone && fits8 r.area
    && fitsList r.adjacent

/-- A tariff's fields fit R204. -/
def TariffArgs.wf (t : TariffArgs) : Bool :=
  fits8 t.number && fits8 t.valid && fits32 t.flagFall && fits16 t.increment && fits16 t.distanceStep
    && fits16 t.timeStep && fits16 t.included && fits8 t.mode && fits16 t.extra

/-- A setting's value fits the encoding of the setting named: a code for positions 2, 3, 4 and 11, two bytes
for the unit address and the pulse constant, one byte for the others. -/
def SettingArgs.wf (a : SettingArgs) : Bool :=
  fits8 a.setting &&
    match a.value with
    | .code d => [2, 3, 4, 11].contains a.setting && fitsText d && fitsFrame (2 + d.length)
    | .number n =>
        if [0, 7].contains a.setting then fits16 n
        else !([2, 3, 4, 11].contains a.setting) && fits8 n

/-- A command whose operands fit their fields. -/
def Instr.wf : Instr → Bool
  | .cycleHeader h => h.wf
  | .offer head o => head.wf && o.wf
  | .withdraw head n | .award head n | .lost head n => head.wf && fits16 n
  | .text head t => head.wf && t.wf
  | .page head | .emergAck head | .standDown head | .remoteReset head => head.wf
  | .claimDeadline n | .offerExpiry n | .noAnswer n | .reportHoldOffEnd n => fits16 n
  | .position p => p.wf fun a => fits32 a.easting && fits32 a.northing && fits8 a.quality
  | .zoneLoad p => p.wf fun l =>
      decide (l.length < 256) && l.all RectArgs.wf && fitsFrame (1 + (l.map fun r => 19 + r.adjacent.length).sum)
  | .zoneRead p => p.wf fun a => fits8 a.first && fits8 a.count
  | .timeSet p => p.wf fun a => fits8 a.dayType && fits32 a.second
  | .tripRead p => p.wf fun a => fits8 a.which && fits16 a.number
  | .zonePoint p | .panelStatus p | .meterKey p | .sendCanned p => p.wf fun n => fits8 n
  | .offerFocus p | .offerTake p | .offerDismiss p | .shiftOpen p | .inboxRead p | .messageMark p
  | .messageDelete p => p.wf fun n => fits16 n
  | .messageReply p => p.wf fun a => fits16 a.number && fits8 a.code
  | .sendText p | .emergencyCancel p | .codeEnter p => p.wf fun t => fitsText t && fitsFrame (1 + t.length)
  | .settingWrite p => p.wf SettingArgs.wf
  | .cannedWrite p => p.wf fun a => fits8 a.number && fitsText a.text && fitsFrame (2 + a.text.length)
  | .tariffWrite p => p.wf TariffArgs.wf
  | .bandsWrite p => p.wf fun a =>
      fits8 a.row && fits8 a.first && fitsList a.tariffs && fitsFrame (3 + a.tariffs.length)
  | .settingRead p => p.wf fun a => fits8 a.which && fits8 a.operand
  | .zoneClear p | .zoneStatus p | .assignmentAbandon p | .boardRead p | .shiftClose p | .meterStatus p
  | .totalsRead p | .totalsReinit p | .uplinkStatus p | .emergencyRaise p | .emergencyStatus p | .alertClear p
  | .commit p | .revert p | .levelDrop p | .fetchEvent p | .restart p | .identify p | .linkStatus p =>
      p.wf fun _ => true
  | .powerOn | .powerLoss | .windowOpen | .windowStretch | .missedHeader | .hostResetPulseEnd
  | .slotStart _ _ | .transmissionEnd | .statusTimerExpiry | .emergencyBeacon | .parkTimer60s
  | .enterSparse | .timeOfDaySecond | .voiceReqAsserted | .voiceReqReleased | .fixStale | .fixLost
  | .inputRawChange _ _ | .firstRecognisedLevel _ | .keyPress _
  | .keyRelease _ | .panicArming | .keyStuck _ | .ignitionChange | .odometerPulse
  | .unknownRequest _ _ _ _ | .resumeWindowClose | .meterSecond | .tripReportPlacement
  | .totalsPeriodEnd | .storeWriteStart | .storeWriteComplete | .receiptPlacement | .reportTimerExpiry | .lockoutEnd
  | .badFrame _ | .earlyFrame _ | .frameAbandon | .replyComplete => true

end Sys2Proof
end

