-- ==== Sys2Proof/Decode.lean ====
section
/-! DEFINITION. From bytes to commands: the check of frames and blocks (R193, R206), the fields of request
payloads (R204), whole request frames (R193, R197), and the header and item blocks of the downlink
(R206, R207). Total on any bytes. The rows of spec/opcode_table.json give no bits, so decodeTableWord
spells no command. -/

namespace Sys2Proof

/-- The command that a word spells by the table's bits: no row of the table gives bits. -/
def decodeTableWord (_nbits _w : Nat) : Option Instr := none

/-! ### The check (R193, R206) -/

/-- One bit of the CRC-16: polynomial 1021h. -/
def crcBit (c : BitVec 16) : BitVec 16 :=
  if c.msb then (c <<< 1) ^^^ 0x1021#16 else c <<< 1

/-- One byte of the CRC-16, most significant bit first. -/
def crcByte (c : BitVec 16) (b : Byte) : BitVec 16 :=
  crcBit (crcBit (crcBit (crcBit (crcBit (crcBit (crcBit (crcBit (c ^^^ (b.setWidth 16 <<< 8)))))))))

/-- The CRC-16 over bytes: initial value FFFFh, no final inversion. -/
def crc16 (bytes : List Byte) : BitVec 16 := bytes.foldl crcByte 0xFFFF#16

/-- The two check bytes, high byte first. -/
def checkBytes (bytes : List Byte) : List Byte :=
  [((crc16 bytes) >>> 8).setWidth 8, (crc16 bytes).setWidth 8]

/-! ### Fields of payloads (R204) -/

/-- A number of `width` bytes, most significant first, onto an accumulator. -/
def takeNumber : Nat → Nat → List Byte → Option (Nat × List Byte)
  | 0, acc, rest => some (acc, rest)
  | _ + 1, _, [] => none
  | width + 1, acc, b :: rest => takeNumber width (acc * 256 + b.toNat) rest

/-- `n` bytes as they stand. -/
def takeBytes : Nat → List Byte → Option (List Byte × List Byte)
  | 0, rest => some ([], rest)
  | _ + 1, [] => none
  | n + 1, b :: rest => (takeBytes n rest).map fun r => (b :: r.1, r.2)

/-- A text or a code: one byte of length, then the characters. -/
def takeText (bytes : List Byte) : Option (Text × List Byte) :=
  match bytes with
  | [] => none
  | n :: rest => takeBytes n.toNat rest

/-- `n` items, each read by `item`. -/
def takeItems {α : Type} (item : List Byte → Option (α × List Byte)) :
    Nat → List Byte → Option (List α × List Byte)
  | 0, rest => some ([], rest)
  | n + 1, bytes =>
      match item bytes with
      | none => none
      | some (a, rest) => (takeItems item n rest).map fun r => (a :: r.1, r.2)

/-- A list: one byte of count, then its items. -/
def takeList {α : Type} (item : List Byte → Option (α × List Byte)) (bytes : List Byte) :
    Option (List α × List Byte) :=
  match bytes with
  | [] => none
  | n :: rest => takeItems item n.toNat rest

/-- One byte as a number. -/
def take1 (bytes : List Byte) : Option (Nat × List Byte) := takeNumber 1 0 bytes
/-- Two bytes as a number. -/
def take2 (bytes : List Byte) : Option (Nat × List Byte) := takeNumber 2 0 bytes
/-- Four bytes as a number. -/
def take4 (bytes : List Byte) : Option (Nat × List Byte) := takeNumber 4 0 bytes

/-- A payload read whole: any byte left over makes it of the wrong size (R197, R204). -/
def wholePayload {α : Type} (item : List Byte → Option (α × List Byte)) (bytes : List Byte) : Payload α :=
  match item bytes with
  | some (a, []) => .fields a
  | _ => .wrongSize bytes

/-- The payload of a request without operands. -/
def emptyPayload (bytes : List Byte) : Payload Unit :=
  match bytes with
  | [] => .fields ()
  | _ :: _ => .wrongSize bytes

/-- POSITION's operands: easting and northing in 4 bytes, quality in 1. -/
def takePosition (b : List Byte) : Option (PositionArgs × List Byte) := do
  let (e, b) ← take4 b
  let (n, b) ← take4 b
  let (q, b) ← take1 b
  return (⟨e, n, q⟩, b)

/-- One rectangle: four bounds of 4 bytes, zone, area, adjacent list (R49). -/
def takeRect (b : List Byte) : Option (RectArgs × List Byte) := do
  let (w, b) ← take4 b
  let (s, b) ← take4 b
  let (e, b) ← take4 b
  let (n, b) ← take4 b
  let (z, b) ← take1 b
  let (a, b) ← take1 b
  let (l, b) ← takeList take1 b
  return (⟨w, s, e, n, z, a, l⟩, b)

/-- ZONE READ's operands. -/
def takeZoneRead (b : List Byte) : Option (ZoneReadArgs × List Byte) := do
  let (f, b) ← take1 b
  let (c, b) ← take1 b
  return (⟨f, c⟩, b)

/-- TIME SET's operands: day type in 1 byte, second of day in 4. -/
def takeTime (b : List Byte) : Option (TimeArgs × List Byte) := do
  let (d, b) ← take1 b
  let (s, b) ← take4 b
  return (⟨d, s⟩, b)

/-- TRIP READ's selector. -/
def takeTripSelector (b : List Byte) : Option (TripSelector × List Byte) := do
  let (w, b) ← take1 b
  if w < 2 then
    let (n, b) ← take2 b
    return (⟨w, n⟩, b)
  else return (⟨w, 0⟩, b)

/-- MESSAGE REPLY's operands. -/
def takeReply (b : List Byte) : Option (ReplyArgs × List Byte) := do
  let (n, b) ← take2 b
  let (c, b) ← take1 b
  return (⟨n, c⟩, b)

/-- SETTING WRITE's operands: the value takes the encoding of the setting it names (R204). -/
def takeSetting (b : List Byte) : Option (SettingArgs × List Byte) := do
  let (w, b) ← take1 b
  if [2, 3, 4, 11].contains w then
    let (d, b) ← takeText b
    return (⟨w, .code d⟩, b)
  else if [0, 7].contains w then
    let (n, b) ← take2 b
    return (⟨w, .number n⟩, b)
  else
    let (n, b) ← take1 b
    return (⟨w, .number n⟩, b)

/-- CANNED WRITE's operands. -/
def takeCanned (b : List Byte) : Option (CannedArgs × List Byte) := do
  let (n, b) ← take1 b
  let (t, b) ← takeText b
  return (⟨n, t⟩, b)

/-- TARIFF WRITE's operands: F in 4 bytes; U, Ds, Ts, Di and X in 2 (R106, R204). -/
def takeTariff (b : List Byte) : Option (TariffArgs × List Byte) := do
  let (n, b) ← take1 b
  let (v, b) ← take1 b
  let (f, b) ← take4 b
  let (u, b) ← take2 b
  let (ds, b) ← take2 b
  let (ts, b) ← take2 b
  let (di, b) ← take2 b
  let (m, b) ← take1 b
  let (x, b) ← take2 b
  return (⟨n, v, f, u, ds, ts, di, m, x⟩, b)

/-- BANDS WRITE's operands. -/
def takeBands (b : List Byte) : Option (BandsArgs × List Byte) := do
  let (r, b) ← take1 b
  let (f, b) ← take1 b
  let (l, b) ← takeList take1 b
  return (⟨r, f, l⟩, b)

/-- SETTING READ's selector. -/
def takeSelector (b : List Byte) : Option (SettingSelector × List Byte) := do
  let (w, b) ← take1 b
  if 12 ≤ w ∧ w ≤ 14 then
    let (n, b) ← take1 b
    return (⟨w, n⟩, b)
  else return (⟨w, 0⟩, b)

/-! ### Requests (R193, R197) -/

/-- The tags of requests as numbers of four ASCII bytes, each with the command its payload spells
(chapter 11, Requests and where they are specified). -/
def requestTable : List (Nat × (List Byte → Instr)) :=
  [ (0x4C535441, fun b => .linkStatus (emptyPayload b)),
    (0x55515354, fun b => .uplinkStatus (emptyPayload b)),
    (0x504F534E, fun b => .position (wholePayload takePosition b)),
    (0x5A4C4F44, fun b => .zoneLoad (wholePayload (takeList takeRect) b)),
    (0x5A504E54, fun b => .zonePoint (wholePayload take1 b)),
    (0x5A434C52, fun b => .zoneClear (emptyPayload b)),
    (0x5A524544, fun b => .zoneRead (wholePayload takeZoneRead b)),
    (0x5A535441, fun b => .zoneStatus (emptyPayload b)),
    (0x50535441, fun b => .panelStatus (wholePayload take1 b)),
    (0x42524544, fun b => .boardRead (emptyPayload b)),
    (0x4F54414B, fun b => .offerTake (wholePayload take2 b)),
    (0x4F444953, fun b => .offerDismiss (wholePayload take2 b)),
    (0x4F464F43, fun b => .offerFocus (wholePayload take2 b)),
    (0x4141424E, fun b => .assignmentAbandon (emptyPayload b)),
    (0x4D535441, fun b => .meterStatus (emptyPayload b)),
    (0x4D4B4559, fun b => .meterKey (wholePayload take1 b)),
    (0x534F504E, fun b => .shiftOpen (wholePayload take2 b)),
    (0x53434C53, fun b => .shiftClose (emptyPayload b)),
    (0x54534554, fun b => .timeSet (wholePayload takeTime b)),
    (0x54524544, fun b => .tripRead (wholePayload takeTripSelector b)),
    (0x54544F54, fun b => .totalsRead (emptyPayload b)),
    (0x54494E49, fun b => .totalsReinit (emptyPayload b)),
    (0x49524544, fun b => .inboxRead (wholePayload take2 b)),
    (0x4D4D524B, fun b => .messageMark (wholePayload take2 b)),
    (0x4D52504C, fun b => .messageReply (wholePayload takeReply b)),
    (0x4D44454C, fun b => .messageDelete (wholePayload take2 b)),
    (0x5343414E, fun b => .sendCanned (wholePayload take1 b)),
    (0x53545854, fun b => .sendText (wholePayload takeText b)),
    (0x45524149, fun b => .emergencyRaise (emptyPayload b)),
    (0x4543414E, fun b => .emergencyCancel (wholePayload takeText b)),
    (0x45535441, fun b => .emergencyStatus (emptyPayload b)),
    (0x41434C52, fun b => .alertClear (emptyPayload b)),
    (0x43454E54, fun b => .codeEnter (wholePayload takeText b)),
    (0x4C445250, fun b => .levelDrop (emptyPayload b)),
    (0x53575254, fun b => .settingWrite (wholePayload takeSetting b)),
    (0x53524544, fun b => .settingRead (wholePayload takeSelector b)),
    (0x54575254, fun b => .tariffWrite (wholePayload takeTariff b)),
    (0x42575254, fun b => .bandsWrite (wholePayload takeBands b)),
    (0x43575254, fun b => .cannedWrite (wholePayload takeCanned b)),
    (0x434D4954, fun b => .commit (emptyPayload b)),
    (0x52565254, fun b => .revert (emptyPayload b)),
    (0x46455654, fun b => .fetchEvent (emptyPayload b)),
    (0x52535452, fun b => .restart (emptyPayload b)),
    (0x49444E54, fun b => .identify (emptyPayload b)) ]

/-- The command that a tag and a payload spell: UNKNOWN_REQUEST where the tag is not recognised (R197). -/
def decodeRequest (t0 t1 t2 t3 : Byte) (payload : List Byte) : Instr :=
  let key := ((t0.toNat * 256 + t1.toNat) * 256 + t2.toNat) * 256 + t3.toNat
  match requestTable.find? (fun row => row.1 == key) with
  | some row => row.2 payload
  | none => .unknownRequest t0 t1 t2 t3

/-- The command that the tag and payload bytes of a good frame spell; none when they are fewer than four. -/
def decodeBody (body : List Byte) : Option Instr :=
  match body with
  | t0 :: t1 :: t2 :: t3 :: payload => some (decodeRequest t0 t1 t2 t3 payload)
  | _ => none

/-- A frame around a body: lead byte, length, body, check (R193). -/
def frameBytes (body : List Byte) : List Byte :=
  let covered := byte body.length :: body
  0x5A#8 :: covered ++ checkBytes covered

/-- The command of a whole good frame (R193); none for bytes that are no good frame. -/
def decodeFrame (bytes : List Byte) : Option Instr :=
  match bytes with
  | lead :: len :: rest =>
      if lead = 0x5A#8 ∧ 4 ≤ len.toNat ∧ len.toNat ≤ 244 then
        match takeBytes len.toNat rest with
        | some (body, check) => if check = checkBytes (len :: body) then decodeBody body else none
        | none => none
      else none
  | _ => none

/-! ### Downlink blocks (R206, R207) -/

/-- A slot entry: kind in its high four bits, address in its low twelve. -/
def takeSlot (b : List Byte) : Option (SlotField × List Byte) := do
  let (n, b) ← take2 b
  return (⟨n / 4096, n % 4096⟩, b)

/-- A heard pair: slot in its high four bits, address in its low twelve. -/
def takePair (b : List Byte) : Option (HeardPair × List Byte) := do
  let (n, b) ← take2 b
  return (⟨n / 4096, n % 4096⟩, b)

/-- The fields of a header after its block type, the check being right or wrong as given. -/
def takeHeader (checkOk : Bool) (b : List Byte) : Option (HeaderBlock × List Byte) := do
  let (fleet, b) ← take1 b
  let (cycle, b) ← take2 b
  let (day, b) ← take1 b
  let (second, b) ← takeNumber 3 0 b
  let (persistence, b) ← take1 b
  let (interval, b) ← take2 b
  let (flags, b) ← take1 b
  let (slots, b) ← takeItems takeSlot 10 b
  let (heard, b) ← takeList takePair b
  return (⟨checkOk, fleet, cycle, day, second, persistence, interval, flags % 2 == 1, slots, heard⟩, b)

/-- A header block whose check fails, whatever else it holds. -/
def brokenHeader : HeaderBlock := ⟨false, 0, 0, 0, 0, 0, 0, false, [], []⟩

/-- The check of a block: its last two bytes are the CRC of those before them. -/
def blockCheck (bytes : List Byte) : Bool :=
  decide (2 ≤ bytes.length) &&
    bytes.drop (bytes.length - 2) == checkBytes (bytes.take (bytes.length - 2))

/-- A header block: its length must be 35 + 2n and its check right (R206). -/
def decodeHeader (bytes : List Byte) : HeaderBlock :=
  match takeHeader (blockCheck bytes) (bytes.drop 1) with
  | some (h, [_, _]) => h
  | _ => brokenHeader

/-- An optional text of an item: presence byte, then the text. The Bool says that the field lies inside its
encoding: presence 0 or 1, and an absent text of length 0 (R204). An absent text with characters keeps the length
that its length byte implies and lies outside its encoding (R207; DESIGN CHOICE, log entry 54). -/
def takeOptText (b : List Byte) : Option ((Bool × Option Text) × List Byte) := do
  let (p, b) ← take1 b
  let (t, b) ← takeText b
  return ((p == 1 || (p == 0 && t.isEmpty), if p = 1 then some t else none), b)

/-- An optional number of 4 bytes: presence byte, then the number, all 0 when absent (R204). -/
def takeOptNumber (b : List Byte) : Option ((Bool × Option Nat) × List Byte) := do
  let (p, b) ← take1 b
  let (n, b) ← take4 b
  return ((p == 1 || (p == 0 && n == 0), if p = 1 then some n else none), b)

/-- The fields of an OFFER and whether each lies inside its encoding. -/
def takeOffer (b : List Byte) : Option ((Bool × OfferFields) × List Byte) := do
  let (number, b) ← take2 b
  let (cls, b) ← take1 b
  let (next, b) ← take1 b
  let (pickup, b) ← take1 b
  let (ttl, b) ← take1 b
  let (text, b) ← takeOptText b
  let (estimate, b) ← takeOptNumber b
  return ((text.1 && estimate.1, ⟨number, cls, next, pickup, ttl, text.2, estimate.2⟩), b)

/-- The fields of a TEXT. -/
def takeTextItem (b : List Byte) : Option (TextFields × List Byte) := do
  let (number, b) ← take2 b
  let (priority, b) ← take1 b
  let (text, b) ← takeText b
  let (replies, b) ← takeList take1 b
  return (⟨number, priority, text, replies⟩, b)

/-- The command of an item block's fields by its kind, positions 0 to 8 (R207). An item of unknown kind is
one that R5 discards whatever it holds: it stands as a PAGE outside its encoding. -/
def decodeItemKind (kind : Nat) (ok : Bool) (target value : Nat) (fields : List Byte) : Instr :=
  let head : ItemHead := ⟨ok, true, target, value⟩
  let short : ItemHead := ⟨false, true, target, value⟩
  let plain (c : ItemHead → Instr) : Instr := if fields = [] then c head else c short
  let numbered (c : ItemHead → Nat → Instr) : Instr :=
    match take2 fields with
    | some (n, []) => c head n
    | _ => c short 0
  match kind with
  | 0 =>
      match takeOffer fields with
      | some ((enc, o), []) => .offer ⟨ok, enc, target, value⟩ o
      | _ => .offer short ⟨0, 0, 0, 0, 0, none, none⟩
  | 1 => numbered .withdraw
  | 2 => numbered .award
  | 3 => numbered .lost
  | 4 =>
      match takeTextItem fields with
      | some (t, []) => .text head t
      | _ => .text short ⟨0, 0, [], []⟩
  | 5 => plain .page
  | 6 => plain .emergAck
  | 7 => plain .standDown
  | 8 => plain .remoteReset
  | _ => .page ⟨ok, false, target, value⟩

/-- The shortest item block: type, target, target value, kind and check (R207). -/
def itemBlockMin : Nat := 7

/-- An item block; one shorter than a block without fields fails its check (R207). -/
def decodeItem (bytes : List Byte) : Option Instr := do
  let (target, b) ← take1 (bytes.drop 1)
  let (value, b) ← take2 b
  let (kind, b) ← take1 b
  let ok := decide (itemBlockMin ≤ bytes.length) && blockCheck bytes
  return decodeItemKind kind ok target value (b.take (b.length - 2))

/-- The command of a downlink block: first byte 01h a cycle header, 02h an item; any other block fails its
check and spells nothing (R206). -/
def decodeBlock (bytes : List Byte) : Option Instr :=
  match bytes with
  | [] => none
  | first :: _ =>
      if first = 0x01#8 then some (.cycleHeader (decodeHeader bytes))
      else if first = 0x02#8 then decodeItem bytes
      else none

end Sys2Proof
end

