-- ==== Sys2Proof/Machine/State.lean ====
section
/-! DEFINITION. The state of the MC-540 as plain data, block by block in the order of the manual's
chapters, and its value after reset. INVENTORY.md lists every field with the rule that names it. -/

namespace Sys2Proof.Machine

/-! ### Names of the manual's listings -/

/-- Kinds of the pending-event set, most urgent first (R199). -/
inductive EventKind where
  | emergency | award | offerClosed | offerNew | message | uplinkResult
  | meter | key | zone | link | store | fault
deriving DecidableEq, Repr

/-- Result codes of replies, in the order of their table (R198, R205). -/
inductive Result where
  | ok | badFrame | unknown | badArg | refused | level | locked | busy | full
  | notFound | keysOnly | alreadyOpen | pending
deriving DecidableEq, Repr

/-- Tags of replies (R197): the recognised requests, "????" of a bad frame, or an unrecognised tag as sent. -/
inductive Tag where
  | lsta | uqst | posn | zlod | zpnt | zclr | zred | zsta | psta | bred | otak | odis | ofoc | aabn
  | msta | mkey | sopn | scls | tset | tred | ttot | tini | ired | mmrk | mrpl | mdel | scan | stxt
  | erai | ecan | esta | aclr | cent | ldrp | swrt | sred | twrt | bwrt | cwrt | cmit | rvrt
  | fevt | rstr | idnt
  | bad
  | other (t0 t1 t2 t3 : Byte)
deriving DecidableEq, Repr

/-- Sync states (chapter 1, Sync tracking). -/
inductive Sync where | search | locked | coast
deriving DecidableEq, Repr
/-- Watch modes (R15). -/
inductive Watch where | full | sparse
deriving DecidableEq, Repr
/-- Voice states (R18, R19). -/
inductive Voice where | idle | pending | granted | held | blocked
deriving DecidableEq, Repr
/-- Day types (R13). -/
inductive DayType where | workday | restday
deriving DecidableEq, Repr
/-- Sources of the time of day (R13, R14). -/
inductive TimeSource where | header | host
deriving DecidableEq, Repr
/-- Kinds of uplink entries, in the listing of R24. -/
inductive EntryKind where
  | status | claim | decline | receipt | canned | freetext | tripReport | emergency
deriving DecidableEq, Repr
/-- Classes of uplink entries, highest first (R25). -/
inductive EntryClass where | emergency | claim | control | traffic
deriving DecidableEq, Repr
/-- Origins of uplink entries, in the listing of R24. -/
inductive EntryOrigin where | offerBoard | messageInbox | host | scheduler | tripLog | emergencyController
deriving DecidableEq, Repr
/-- States of uplink entries (R24). -/
inductive EntryState where | waiting | requesting | awaitGrant | sent
deriving DecidableEq, Repr
/-- The scheduler's answer to a placement (R26). -/
inductive Placement where | placed | sameItem | atCap
deriving DecidableEq, Repr
/-- Fix qualities of a fix taken (R47). -/
inductive Quality where | twoD | threeD
deriving DecidableEq, Repr
/-- Fix conditions (R53). -/
inductive FixCondition where | fresh | stale | lost
deriving DecidableEq, Repr
/-- Tariff areas (R49, R54). -/
inductive Area where | inner | outer
deriving DecidableEq, Repr
/-- Key states (R59). -/
inductive KeyState where | unsettled | up | down | heldAtStart | stuck
deriving DecidableEq, Repr
/-- Ignition states (R64). -/
inductive Ignition where | unsettled | on | off
deriving DecidableEq, Repr
/-- Refusal reasons of keys (R61, R96). -/
inductive Reason where
  | state | uncalibrated | totalsFault | noOffer | alreadyOpen | emergency | noAddress
deriving DecidableEq, Repr
/-- Offer classes, lowest first (R68, R72). -/
inductive OfferClass where | street | booked | priority
deriving DecidableEq, Repr
/-- Target kinds (R5, R68). -/
inductive Target where | all | zone | unit
deriving DecidableEq, Repr
/-- States of a board entry (R69). -/
inductive OfferState where | presented | claiming | awaitingAward | awarded | closed
deriving DecidableEq, Repr
/-- Origins of a claim (R68). -/
inductive ClaimOrigin where | key | host
deriving DecidableEq, Repr
/-- Outcomes of a closed entry (R68). -/
inductive OfferOutcome where
  | expired | withdrawn | declined | dropped | suppressed | claimFailed | lost | noAnswer | hired | abandoned
deriving DecidableEq, Repr
/-- Meter states (R95). -/
inductive MeterState where | off | free | hired | stopped
deriving DecidableEq, Repr
/-- The four keys that work the meter (R95, R105). -/
inductive MeterKey where | hire | stop | free | extra
deriving DecidableEq, Repr
/-- Tariff modes (R106, R110). -/
inductive TariffMode where | single | double
deriving DecidableEq, Repr
/-- Report states of a trip record (R125). -/
inductive ReportState where | unreported | inQueue | reported | notReportable
deriving DecidableEq, Repr
/-- Names of the two stored copies (R132, R186). -/
inductive Copy where | a | b
deriving DecidableEq, Repr
/-- Message priorities (R143). -/
inductive Priority where | normal | urgent
deriving DecidableEq, Repr
/-- Read states (R144). -/
inductive ReadState where | unread | read | replied
deriving DecidableEq, Repr
/-- Receipt states (R144). -/
inductive ReceiptState where | none | due | queued | sent | failed
deriving DecidableEq, Repr
/-- What MESSAGE REPLY says of its code (R150). -/
inductive ReplyRoute where | merged | new | outstanding
deriving DecidableEq, Repr
/-- Emergency states (R158). -/
inductive EmState where | idle | active | acknowledged | covert
deriving DecidableEq, Repr
/-- Sources of an arming that the driver or the host gives (R159). -/
inductive ArmSource where | panel | host
deriving DecidableEq, Repr
/-- The last end shown to the host (R175). -/
inductive LastEnd where | none | cancel | standDown
deriving DecidableEq, Repr
/-- Kinds of the emergency mark (R171). -/
inductive MarkKind where | none | active | covert
deriving DecidableEq, Repr
/-- Alert modes (R169). -/
inductive AlertMode where | off | follow | latched
deriving DecidableEq, Repr
/-- Commit states (R184). -/
inductive CommitState where | none | pending | writing
deriving DecidableEq, Repr
/-- Reception states of the frame receiver (R194). -/
inductive RxPhase where | hunt | length | body | check
deriving DecidableEq, Repr
/-- Use of a slot (R2, R29). -/
inductive SlotUse where
  | idle
  | contention
  | emergContention
  | grant (address : Nat)
deriving DecidableEq, Repr

/-! ### Records -/

/-- A day type with a second of day, 0 to 86,399 (R13). -/
structure TimeOfDay where
  day : DayType
  second : Nat
deriving DecidableEq, Repr

/-- The running time of day: its source and the instant its second of day last advanced or was set (R13). -/
structure RunningTime where
  time : TimeOfDay
  source : TimeSource
  since : Nat
deriving DecidableEq, Repr

/-- The flags of a trip (R117, R123). -/
structure TripFlags where
  trial : Bool
  interrupted : Bool
  saturated : Bool
  emergency : Bool
  timeUnknown : Bool
deriving DecidableEq, Repr

/-- The trip in progress (chapter 6, opening). -/
structure Trip where
  hireTime : Option TimeOfDay
  seconds : Nat
  pulses : Nat
  fare : Nat
  acc : Int
  tariffAtHire : Nat
  tariff : Nat
  tariffsUsed : List Nat
  extrasCount : Nat
  extrasTotal : Nat
  implausible : Nat
  zoneAtHire : Nat
  offer : Option Nat
  flags : TripFlags
  stopAt : Option Nat
deriving DecidableEq, Repr

/-- A trip record of the log (R123). -/
structure TripRecord where
  seq : Nat
  shift : Nat
  driver : Nat
  hireTime : Option TimeOfDay
  duration : Nat
  pulses : Nat
  distance : Nat
  tariffAtHire : Nat
  tariffsUsed : List Nat
  fare : Nat
  extrasCount : Nat
  extrasTotal : Nat
  zoneAtHire : Nat
  zoneAtClose : Nat
  offer : Option Nat
  implausible : Nat
  flags : TripFlags
  report : ReportState
deriving DecidableEq, Repr

/-- One field of a reply or of an uplink item, by the kinds of R204. A list stands as its count followed
by its items' fields, an optional field as its presence followed by its fields (zero when absent). -/
inductive Field where
  /-- a whole number whose range ends at `largest` -/
  | num (largest n : Nat)
  /-- the signed accumulator -/
  | signed (i : Int)
  /-- one name of a listing, by its position -/
  | name (position : Nat)
  /-- yes or no, set or clear, on or off, driven or released -/
  | flag (b : Bool)
  /-- a set, bit 0 first -/
  | set (members : List Bool)
  /-- a time of day, none when UNKNOWN -/
  | time (t : Option TimeOfDay)
  /-- a text with its length byte -/
  | text (t : Text)
  /-- the count of a list, or a presence byte -/
  | count (n : Nat)
deriving DecidableEq, Repr

/-- A reply: the tag of its request, its result code and its content (R197, R198). -/
structure Reply where
  tag : Tag
  result : Result
  content : List Field
deriving DecidableEq, Repr

/-- The fix carried by an EMERGENCY item (R48, R162). -/
structure ReportedFix where
  easting : Nat
  northing : Nat
  quality : Quality
  age : Nat
deriving DecidableEq, Repr

/-- An uplink item (R7). -/
inductive UplinkItem where
  /-- cab state OFF 0, FREE 1, FREE_ASSIGNED 2, HIRED 3, STOPPED 4; zone; assignment offer number (R43) -/
  | status (cab zone : Nat) (offer : Option Nat)
  | claim (number : Nat)
  | decline (number : Nat)
  | slotReq
  | receipt (number code : Nat)
  | canned (number : Nat)
  | freetext (text : Text)
  | tripReport (r : TripRecord)
  | emergency (fix : Option ReportedFix) (zone : Nat) (meter : MeterState) (fare : Nat) (duress : Bool)
deriving DecidableEq, Repr

/-! ### Channel receiver and radio port (chapter 1) -/

/-- A transmission under way on the radio port: sender address, item and the instant it began (R7). -/
structure Transmission where
  sender : Nat
  item : UplinkItem
  start : Nat
deriving DecidableEq, Repr

/-- The channel receiver and sync tracker. -/
structure Receiver where
  /-- sync state (R8 to R12) -/
  sync : Sync
  /-- uptime instant at which SEARCH was entered (R8) -/
  searchSince : Nat
  /-- instant the current cycle is dated from: the last header instant, or the last predicted instant where
  that header was missed (R1, R17) -/
  cycleStart : Nat
  /-- expected instant of the next header; none in SEARCH (R9) -/
  expected : Option Nat
  /-- cycles that the prediction spans (R10) -/
  span : Nat
  /-- the window for the expected header is open (R9) -/
  windowOpen : Bool
  /-- stretches made of the open window (R9) -/
  stretches : Nat
  /-- stretch count of the last header taken (R9, R22) -/
  lastStretch : Nat
  /-- count of consecutive missed headers (R10) -/
  misses : Nat
  /-- current cycle number; none before the first header (R3, R22) -/
  cycle : Option Nat
  /-- current slot map; none where the cycle has none (R1, R10) -/
  slotMap : Option (List SlotUse)
  /-- heard list of the last header taken (R3) -/
  heard : List HeardPair
  /-- the first slot of the cycle not yet begun, 0 to 10 (R1) -/
  nextSlot : Nat
  /-- items of the current cycle may be taken (R4) -/
  itemsOpen : Bool
  /-- item blocks received after the header (R4) -/
  itemCount : Nat
  /-- the unit address by which the listened cycles in force were chosen (R15, R179) -/
  listenAddress : Nat
  /-- the current cycle is one of the listened cycles so chosen (R15) -/
  cycleListened : Bool
  /-- persistence kept (R3) -/
  persistence : Nat
  /-- status interval kept, seconds (R3) -/
  statusInterval : Nat
  /-- offers-paused flag kept (R3) -/
  offersPaused : Bool
  /-- the time of day; none while UNKNOWN (R13) -/
  time : Option RunningTime
  /-- watch mode (R15 to R17) -/
  watch : Watch
  /-- the last return to FULL left every condition of SPARSE watch holding, and none has changed since: no test of
  them is due (R16) -/
  sparseHeld : Bool
  /-- park timer: the instant of its last start; none while stopped (R16) -/
  parkSince : Option Nat
  /-- the park timer's 60 s mark has been made since its last start (R16) -/
  parkMarked : Bool
  /-- parked-status mark (R16) -/
  parkedStatus : Bool
  /-- state of the voice handshake (R19); VOICE_GRANT is asserted exactly in GRANTED -/
  voice : Voice
  /-- level of the VOICE_REQ pin -/
  voiceReq : Bool
  /-- the transmission under way, if any; the transmitter key is on exactly while there is one (R7) -/
  transmission : Option Transmission
deriving DecidableEq, Repr

/-! ### Uplink scheduler (chapter 2) -/

/-- The slot, cycle and unit address of a transmission, and its instant (R24, R34, R41). -/
structure SentAs where
  slot : Nat
  cycle : Nat
  address : Nat
  instant : Nat
deriving DecidableEq, Repr

/-- Content fixed at placement (R24). -/
inductive EntryContent where
  | none
  | code (c : Nat)
  | canned (n : Nat)
  | text (t : Text)
  | summary (r : TripRecord)
deriving DecidableEq, Repr

/-- An uplink entry (R24). Class, size and origin follow from the kind. -/
structure Entry where
  kind : EntryKind
  /-- 0 for STATUS and EMERGENCY, which have no key -/
  key : Nat
  content : EntryContent
  state : EntryState
  attempts : Nat
  /-- uptime second, for CLAIM -/
  deadline : Option Nat
  placed : Nat
  sentAs : Option SentAs
  /-- 1 to 6 while AWAIT_GRANT -/
  grantWait : Option Nat
deriving DecidableEq, Repr

/-- A result of a host message (R45). -/
structure HostResult where
  ticket : Nat
  kind : EntryKind
  delivered : Bool
deriving DecidableEq, Repr

/-- The uplink scheduler. -/
structure Scheduler where
  /-- the uplink queue, in rank order (R25) -/
  queue : List Entry
  /-- the outstanding slot request: kind and key of the LONG entry it names (R32, R34) -/
  slotReq : Option (EntryKind × Nat)
  /-- a contention transmission has been made in this cycle (R32) -/
  contentionUsed : Bool
  /-- status timer: the instant of its last start (R41) -/
  statusSince : Nat
  /-- STATUS regeneration mark (R42) -/
  regenerate : Bool
  /-- fill record (R31) -/
  fill : Option SentAs
  /-- instant of the most recent 60 s parked mark (R41) -/
  parkMark : Option Nat
  /-- beacon timer: the instant of the last beacon of this SEARCH; none before the first (R44) -/
  lastBeacon : Option Nat
  /-- host-result list, oldest first (R45) -/
  results : List HostResult
  /-- next ticket number (R45) -/
  nextTicket : Nat
deriving DecidableEq, Repr

/-! ### Zone locator (chapter 3) -/

/-- The newest fix (R47). -/
structure Fix where
  easting : Nat
  northing : Nat
  quality : Quality
  instant : Nat
deriving DecidableEq, Repr

/-- One rectangle of the zone table (R49). -/
structure Rect where
  west : Nat
  south : Nat
  east : Nat
  north : Nat
  zone : Nat
  area : Area
  adjacent : List Nat
deriving DecidableEq, Repr

/-- The zone record (R52). -/
structure ZoneRecord where
  zone : Nat
  position : Nat
  area : Area
  adjacent : List Nat
deriving DecidableEq, Repr

/-- The zone locator. The zone table is a setting. -/
structure Locator where
  fix : Option Fix
  loadPointer : Nat
  zone : Nat
  record : Option ZoneRecord
  condition : FixCondition
  candidate : Option Nat
deriving DecidableEq, Repr

/-! ### Panel scanner (chapter 4) -/

/-- One debounced key: raw level (true is down) with the instant it last changed, key state and the start
of its hold (R58, R59). -/
structure KeyLine where
  raw : Bool
  rawSince : Nat
  state : KeyState
  holdSince : Option Nat
deriving DecidableEq, Repr

/-- The six keys. -/
structure KeyLines where
  hire : KeyLine
  stop : KeyLine
  free : KeyLine
  extra : KeyLine
  accept : KeyLine
  panic : KeyLine
deriving DecidableEq, Repr

/-- The last-key record: the reason is none for a press that was taken (R61). -/
structure LastKey where
  key : Key
  refused : Option Reason
  second : Nat
deriving DecidableEq, Repr

/-- The panel scanner. -/
structure Panel where
  keys : KeyLines
  /-- PANIC arming mark of the current hold (R62) -/
  panicArmed : Bool
  /-- raw level of the ignition line (true is on) and the instant it last changed (R58) -/
  ignitionRaw : Bool
  ignitionSince : Nat
  ignition : Ignition
  /-- pulse tally (R65) -/
  tally : Nat
  /-- calibration pulse count and its restart instant (R65) -/
  calibration : Nat
  calibrationSince : Nat
  lastKey : Option LastKey
deriving DecidableEq, Repr

/-! ### Offer board (chapter 5) -/

/-- A board entry (R68). Arrival order is the entry's place in the board's list; the no-answer instant is
the expiry plus 15 s. -/
structure Offer where
  number : Nat
  cls : OfferClass
  nextJob : Bool
  target : Target
  pickup : Nat
  arrival : Nat
  expiry : Nat
  text : Option Text
  estimate : Option Nat
  state : OfferState
  origin : Option ClaimOrigin
  outcome : Option OfferOutcome
deriving DecidableEq, Repr

/-- The offer board. -/
structure Board where
  /-- the non-empty entries, in arrival order -/
  entries : List Offer
  /-- numbers of the CLOSED entries, in close order (R70) -/
  closeOrder : List Nat
  focus : Option Nat
  overflow : Nat
deriving DecidableEq, Repr

/-! ### Settings (chapter 10) -/

/-- One tariff (R106). -/
structure Tariff where
  valid : Bool
  flagFall : Nat
  increment : Nat
  distanceStep : Nat
  timeStep : Nat
  included : Nat
  mode : TariffMode
  extra : Nat
deriving DecidableEq, Repr

/-- The four tariffs. -/
structure Tariffs where
  t1 : Tariff
  t2 : Tariff
  t3 : Tariff
  t4 : Tariff
deriving DecidableEq, Repr

/-- The metrology class of settings (R178, R180). -/
structure Metrology where
  pulseConstant : Nat
  tariffs : Tariffs
  /-- WORKDAY row of the band table, 48 entries -/
  workday : List Nat
  /-- RESTDAY row of the band table, 48 entries -/
  restday : List Nat
  lockTariff : Bool
  outOfArea : Nat
deriving DecidableEq, Repr

/-- Every setting of R178. -/
structure Settings where
  address : Nat
  fleetCode : Nat
  accessCode : Digits
  cancelCode : Digits
  duressCode : Digits
  alertMode : AlertMode
  resetReachesHost : Bool
  /-- canned-text table, 32 entries -/
  canned : List Text
  /-- zone table, 64 positions -/
  zones : List (Option Rect)
  metrology : Metrology
  keysOnly : Bool
  calibrationCode : Digits
deriving DecidableEq, Repr

/-- The settings store. -/
structure Store where
  working : Settings
  stored : Settings
  /-- newest generation and the copy that holds it (R184, R186) -/
  generation : Nat
  holder : Option Copy
  commit : CommitState
  /-- copy loaded at power-on (R187) -/
  loaded : Option Copy
  /-- access level 0, 1 or 2 (R188) -/
  level : Nat
  /-- code-failure count 0 to 3 (R189) -/
  failures : Nat
  /-- lockout end, an uptime instant (R189) -/
  lockoutEnd : Option Nat
deriving DecidableEq, Repr

/-! ### Meter engine (chapter 6) -/

/-- The meter engine. The derived values of R107 are functions of the working metrology settings. -/
structure Meter where
  state : MeterState
  /-- meter second timer: the instant of its last restart (R108) -/
  secondSince : Nat
  trip : Option Trip
  /-- checkpoint count (R118) -/
  checkpointCount : Nat
  /-- the resume window is open (R102) -/
  resumeOpen : Bool
deriving DecidableEq, Repr

/-! ### Trip log, totals and store writer (chapter 7) -/

/-- Six counts kept alike by the shift and for life (R129, R131). -/
structure Sums where
  trips : Nat
  fare : Nat
  extras : Nat
  hiredDistance : Nat
  totalDistance : Nat
  hiredSeconds : Nat
deriving DecidableEq, Repr

/-- The shift totals (R129). -/
structure ShiftTotals where
  shift : Nat
  driver : Nat
  opening : Option TimeOfDay
  sums : Sums
  trialTrips : Nat
  overwritten : Nat
deriving DecidableEq, Repr

/-- The totals record (chapter 7, The totals record and its two copies). -/
structure Totals where
  shift : ShiftTotals
  life : Sums
  shiftOpen : Bool
  remainder : Nat
  marker : Option Nat
deriving DecidableEq, Repr

/-- A non-empty log position with its record and hold-off instant (R124, R127). -/
structure LogEntry where
  position : Nat
  record : TripRecord
  holdOff : Option Nat
deriving DecidableEq, Repr

/-- The trip log and totals unit. -/
structure Accounts where
  /-- the log, oldest record first -/
  log : List LogEntry
  nextSeq : Nat
  totals : Totals
  /-- newest generation and the copy that holds it (R132) -/
  generation : Nat
  holder : Option Copy
  /-- copy loaded at power-on (R141) -/
  loaded : Option Copy
  fault : Bool
  /-- changed-since-written mark (R132) -/
  changed : Bool
  /-- a taken TOTALS REINIT has not completed (R134) -/
  reinit : Bool
  /-- totals timer: the start of the current period (R132) -/
  periodSince : Nat
  /-- the last close (R135) -/
  lastClose : Option TripRecord
deriving DecidableEq, Repr

/-- The open trip of a checkpoint (R135). -/
structure OpenTrip where
  trip : Trip
  state : MeterState
  shift : Nat
  driver : Nat
  pulseConstant : Nat
deriving DecidableEq, Repr

/-- The checkpoint record: EMPTY when openTrip is none (R119, R135). -/
structure Checkpoint where
  openTrip : Option OpenTrip
  lastClose : Option TripRecord
deriving DecidableEq, Repr

/-- A settings copy (R186). -/
structure SettingsCopy where
  generation : Nat
  settings : Settings
deriving DecidableEq, Repr

/-- A totals copy (R132). -/
structure TotalsCopy where
  generation : Nat
  totals : Totals
deriving DecidableEq, Repr

/-- A report mark as stored: the record it belongs to and its report state (R125, R138). -/
structure StoredReport where
  seq : Nat
  report : ReportState
deriving DecidableEq, Repr

/-- A stored log position and its report mark; `torn` says that its check fails (R136, R139). -/
structure StoredPosition where
  torn : Bool
  record : Option TripRecord
  report : Option StoredReport
deriving DecidableEq, Repr

/-- The nonvolatile memory. A copy or record that is none fails its check, or was never written. -/
structure Nonvolatile where
  settingsA : Option SettingsCopy
  settingsB : Option SettingsCopy
  totalsA : Option TotalsCopy
  totalsB : Option TotalsCopy
  /-- 32 positions -/
  log : List StoredPosition
  checkpoint : Option Checkpoint
  mark : Option MarkKind
deriving DecidableEq, Repr

/-- An item being written, with the content it had when its write began (R138). -/
inductive WriteItem where
  | mark (k : MarkKind)
  | checkpoint (c : Checkpoint)
  | record (position : Nat) (r : TripRecord)
  | totals (copy : Copy) (c : TotalsCopy)
  | report (position : Nat) (r : StoredReport)
  | settings (copy : Copy) (c : SettingsCopy)
deriving DecidableEq, Repr

/-- A write in progress: the item and the instant it began (R138). -/
structure Writing where
  item : WriteItem
  start : Nat
deriving DecidableEq, Repr

/-- The store writer: IDLE when writing is none, and its dirty marks (R138). -/
structure Writer where
  writing : Option Writing
  markDirty : Bool
  checkpointDirty : Bool
  /-- log positions whose record is dirty -/
  recordsDirty : List Nat
  totalsDirty : Bool
  /-- log positions whose report mark is dirty -/
  reportsDirty : List Nat
  settingsDirty : Bool
deriving DecidableEq, Repr

/-! ### Message inbox (chapter 8) -/

/-- A message record (R143). Arrival order is the record's place in the inbox's list. -/
structure Message where
  number : Nat
  target : Target
  priority : Priority
  text : Text
  replies : List Nat
  arrival : Option TimeOfDay
  read : ReadState
  receipt : ReceiptState
  receiptCode : Nat
  chosen : Option Nat
  outstanding : Bool
deriving DecidableEq, Repr

/-- The message inbox. -/
structure Inbox where
  messages : List Message
  fullCount : Nat
  refused : Bool
deriving DecidableEq, Repr

/-! ### Emergency controller (chapter 9) -/

/-- The source set (R159). -/
structure Sources where
  panel : Bool
  host : Bool
  resumed : Bool
deriving DecidableEq, Repr

/-- The emergency controller. The alert line follows R169; the write-pending state is that the mark is dirty
or being written (R171). -/
structure Emergency where
  state : EmState
  /-- acknowledged flag, which has meaning in COVERT -/
  acknowledged : Bool
  sources : Sources
  onset : Option Nat
  /-- report timer: none while stopped (R163) -/
  reportSince : Option Nat
  lastEnd : LastEnd
  latch : Bool
  /-- the mark as the controller means it to be stored (R171) -/
  mark : MarkKind
deriving DecidableEq, Repr

/-! ### Host link (chapter 11) -/

/-- The frame receiver (R194). -/
structure FrameReceiver where
  phase : RxPhase
  /-- the frame being received began while a reply was owed (R196) -/
  early : Bool
  /-- a broken byte has marked the frame bad (R192) -/
  broken : Bool
  /-- the length byte -/
  length : Nat
  /-- bytes of tag and payload collected, in order -/
  body : List Byte
  /-- check bytes collected -/
  check : List Byte
  /-- instant of its last byte -/
  lastByte : Nat
  /-- RESTART has marked the receiver for reset (R201) -/
  resetMarked : Bool
deriving DecidableEq, Repr

/-- A reply owed: its content and the instant its request was judged (R196). -/
structure Owed where
  reply : Reply
  since : Nat
deriving DecidableEq, Repr

/-- The host link. ATTN is asserted exactly while the event set is non-empty (R199). -/
structure Link where
  rx : FrameReceiver
  owed : Option Owed
  /-- pending-event set, in order of urgency (R199) -/
  events : List EventKind
  earlyCount : Nat
  /-- start of the 50 ms pulse of the host-reset line, none while it is not pulsed (R21) -/
  hostReset : Option Nat
deriving DecidableEq, Repr

/-! ### The whole part -/

/-- The state of the part. -/
structure State where
  /-- supply present; without it the part does nothing (R139) -/
  powered : Bool
  /-- uptime, in milliseconds (00_scope.md, Time bases) -/
  now : Nat
  receiver : Receiver
  scheduler : Scheduler
  locator : Locator
  panel : Panel
  board : Board
  meter : Meter
  accounts : Accounts
  writer : Writer
  nonvolatile : Nonvolatile
  inbox : Inbox
  emergency : Emergency
  store : Store
  link : Link
  /-- the model's own: how many free values that need an index have been read -/
  freeIndex : Nat
  /-- the model's own: the commands that wait, first in, first out -/
  pending : List Instr
deriving DecidableEq, Repr

/-- Faults of a step. None: no rule of the manual stops the part (an unpowered part does nothing and waits
for power). -/
inductive Fault where
deriving DecidableEq, Repr

/-- Refusals of a step. -/
inductive Refusal where
  /-- Raised by an arm of exec that has no meaning yet, naming its row; safe: no claim about the command can
  then be proved. No arm raises it now. -/
  | notModelled (mnemonic : String)
deriving DecidableEq, Repr

/-! ### Reset values -/

/-- A tariff as loaded by default (R178). -/
def defaultTariff : Tariff :=
  { valid := false, flagFall := 0, increment := 1, distanceStep := 100, timeStep := 60, included := 0,
    mode := .single, extra := 0 }

/-- The defaults of R178. -/
def defaultSettings : Settings :=
  { address := 0, fleetCode := 0
    accessCode := List.replicate 6 0x30, cancelCode := List.replicate 4 0x30
    duressCode := List.replicate 4 0x30
    alertMode := .follow, resetReachesHost := false
    canned := List.replicate 32 [], zones := List.replicate 64 none
    metrology :=
      { pulseConstant := 0
        tariffs := ⟨defaultTariff, defaultTariff, defaultTariff, defaultTariff⟩
        workday := List.replicate 48 1, restday := List.replicate 48 1
        lockTariff := false, outOfArea := 0 }
    keysOnly := false, calibrationCode := List.replicate 8 0x30 }

/-- Counts at zero. -/
def noSums : Sums := ⟨0, 0, 0, 0, 0, 0⟩

/-- Totals loaded when neither copy is valid (R133). -/
def emptyTotals : Totals :=
  { shift := { shift := 0, driver := 0, opening := none, sums := noSums, trialTrips := 0, overwritten := 0 }
    life := noSums, shiftOpen := false, remainder := 0, marker := none }

/-- Nonvolatile memory as shipped: no settings copy (R186), mark NONE with a valid check (R171); no totals
copy, every log position empty and an EMPTY checkpoint are the model's choice (DESIGN CHOICE, log entry 6). -/
def asShipped : Nonvolatile :=
  { settingsA := none, settingsB := none, totalsA := none, totalsB := none
    log := List.replicate 32 { torn := false, record := none, report := none }
    checkpoint := some { openTrip := none, lastClose := none }
    mark := some .none }

/-- Receiver state at power-on (R23); no listened cycle chosen and no test held back, and what only a header sets
is 0 (DESIGN CHOICE, log entries 49 and 50). -/
def resetReceiver : Receiver :=
  { sync := .search, searchSince := 0, cycleStart := 0, expected := none, span := 1, windowOpen := false
    stretches := 0, lastStretch := 0, misses := 0, cycle := none, slotMap := none, heard := []
    nextSlot := 0, itemsOpen := false, itemCount := 0, listenAddress := 0, cycleListened := false
    persistence := 1, statusInterval := 120, offersPaused := false, time := none, watch := .full
    sparseHeld := false, parkSince := none, parkMarked := false, parkedStatus := false
    voice := .idle, voiceReq := false, transmission := none }

/-- Scheduler state at power-on (R46). -/
def resetScheduler : Scheduler :=
  { queue := [], slotReq := none, contentionUsed := false, statusSince := 0, regenerate := false
    fill := none, parkMark := none, lastBeacon := none, results := [], nextTicket := 1 }

/-- Locator state at power-on (R57). -/
def resetLocator : Locator :=
  { fix := none, loadPointer := 0, zone := 0, record := none, condition := .lost, candidate := none }

/-- A key at power-on, its line at the level given (R58, R67). -/
def resetKey (raw : Bool) : KeyLine :=
  { raw := raw, rawSince := 0, state := .unsettled, holdSince := none }

/-- Scanner state at power-on (R67), the lines up and the ignition line off (DESIGN CHOICE, log entry 7). -/
def resetPanel : Panel :=
  { keys := ⟨resetKey false, resetKey false, resetKey false, resetKey false, resetKey false, resetKey false⟩
    panicArmed := false, ignitionRaw := false, ignitionSince := 0, ignition := .unsettled
    tally := 0, calibration := 0, calibrationSince := 0, lastKey := none }

/-- Board state at power-on (R93). -/
def resetBoard : Board := { entries := [], closeOrder := [], focus := none, overflow := 0 }

/-- Inbox state at power-on (R157). -/
def resetInbox : Inbox := { messages := [], fullCount := 0, refused := false }

/-- Writer state at power-on (R142). -/
def resetWriter : Writer :=
  { writing := none, markDirty := false, checkpointDirty := false, recordsDirty := [], totalsDirty := false
    reportsDirty := [], settingsDirty := false }

/-- Controller state at power-on with the mark NONE (R172, R177). -/
def resetEmergency : Emergency :=
  { state := .idle, acknowledged := false, sources := ⟨false, false, false⟩, onset := none
    reportSince := none, lastEnd := .none, latch := false, mark := .none }

/-- The frame receiver hunting (R192, R203); the instant of its last byte is 0 before any byte has come (DESIGN
CHOICE, log entry 49). -/
def resetRx : FrameReceiver :=
  { phase := .hunt, early := false, broken := false, length := 0, body := [], check := [], lastByte := 0
    resetMarked := false }

/-- The host link at power-on, less the events of the loading (R203). -/
def resetLink : Link := { rx := resetRx, owed := none, events := [], earlyCount := 0, hostReset := none }

/-- The part right after the power-on of a part as shipped: settings defaults loaded and the totals in
fault, with FAULT pending for both (R133, R187). -/
def State.reset : State :=
  { powered := true
    now := 0
    receiver := resetReceiver
    scheduler := resetScheduler
    locator := resetLocator
    panel := resetPanel
    board := resetBoard
    meter := { state := .off, secondSince := 0, trip := none, checkpointCount := 0, resumeOpen := false }
    accounts :=
      { log := [], nextSeq := 1, totals := emptyTotals, generation := 0, holder := none, loaded := none
        fault := true, changed := false, reinit := false, periodSince := 0, lastClose := none }
    writer := resetWriter
    nonvolatile := asShipped
    inbox := resetInbox
    emergency := resetEmergency
    store :=
      { working := defaultSettings, stored := defaultSettings, generation := 0, holder := none
        commit := .none, loaded := none, level := 0, failures := 0, lockoutEnd := none }
    link := { resetLink with events := [.fault] }
    freeIndex := 0
    pending := [] }

end Sys2Proof.Machine
end

