-- ==== Sys2Proof/Machine/Flags.lean ====
section
/-! DEFINITION. The pending-event set (R199), the output pins and the conditions that other blocks read:
each a function of the state that gives it. -/

namespace Sys2Proof.Machine

/-- Urgency of an event kind, 1 the most urgent (R199). -/
def EventKind.urgency : EventKind → Nat
  | .emergency => 1 | .award => 2 | .offerClosed => 3 | .offerNew => 4 | .message => 5
  | .uplinkResult => 6 | .meter => 7 | .key => 8 | .zone => 9 | .link => 10 | .store => 11 | .fault => 12

/-- A kind joins the set at its urgency; a kind already pending leaves the set as it is (R199). -/
def insertEvent (k : EventKind) : List EventKind → List EventKind
  | [] => [k]
  | e :: es =>
      if e = k then e :: es
      else if k.urgency < e.urgency then k :: e :: es
      else e :: insertEvent k es

/-- A block raises an event (R199). -/
def raise (k : EventKind) (s : State) : State :=
  { s with link := { s.link with events := insertEvent k s.link.events } }

/-- ATTN is asserted exactly while the set is non-empty (R199). -/
def attn (s : State) : Bool := !s.link.events.isEmpty

/-- VOICE_GRANT is on exactly in the voice state GRANTED (R19). -/
def voiceGrant (s : State) : Bool := s.receiver.voice == .granted

/-- The transmitter key is on for the length of each transmission (R7). -/
def transmitterKey (s : State) : Bool := s.receiver.transmission.isSome

/-- The host-reset line is driven for the length of its pulse (R21). -/
def hostResetLine (s : State) : Bool := s.link.hostReset.isSome

/-- The emergency is ACTIVE or ACKNOWLEDGED: the states that count for the offer board and the alert line
(R71, R169). -/
def EmState.open : EmState → Bool
  | .active | .acknowledged => true
  | .idle | .covert => false

/-- The alert line (R169). -/
def alertLine (s : State) : Bool :=
  match s.store.working.alertMode with
  | .off => false
  | .follow => s.emergency.state.open
  | .latched => s.emergency.latch

/-- The emergency state as shown to the host: IDLE while COVERT (R168). -/
def shownState (s : State) : EmState :=
  match s.emergency.state with
  | .covert => .idle
  | e => e

/-- The emergency mark is dirty or being written (R171). -/
def markWritePending (s : State) : Bool :=
  s.writer.markDirty ||
    match s.writer.writing with
    | some ⟨.mark _, _⟩ => true
    | _ => false

/-- UNCALIBRATED: K is 0 or tariff 1 is not valid (R94). -/
def uncalibrated (s : State) : Bool :=
  s.store.working.metrology.pulseConstant == 0 || !s.store.working.metrology.tariffs.t1.valid

/-- Metrology uncommitted: a metrology working value differs from its stored value (R94, R180). -/
def uncommitted (s : State) : Bool :=
  decide (s.store.working.metrology ≠ s.store.stored.metrology)

/-- The unit address setting is one of 1 to 4,094 (R29, R126). -/
def addressSet (s : State) : Bool :=
  decide (1 ≤ s.store.working.address) && decide (s.store.working.address ≤ 4094)

/-- The meter is HIRED or STOPPED: a trip is open (R119). -/
def MeterState.onTrip : MeterState → Bool
  | .hired | .stopped => true
  | .off | .free => false

end Sys2Proof.Machine
end

