-- ==== Sys2Proof/Machine/Operands.lean ====
section
/-! DEFINITION. Operands and readings: the listings that the bytes of requests, items and replies number
(R204), the ranges of the requests' tables, and the values that one block reads of another (settings by
number, served set, tariff area, derived metrology values, ages in whole seconds). -/

namespace Sys2Proof.Machine

/-! ### Numbers -/

/-- Addition that saturates at the largest value (00_scope.md, Quantities). -/
def satAdd (largest a b : Nat) : Nat := min largest (a + b)

/-- The uptime second (00_scope.md, Time bases). -/
def uptime (s : State) : Nat := s.now / 1000

/-- Whole seconds since an instant, saturating at 65,535 (R22, R48, R66); the seconds since onset are whole ones
too, a part second not counted (R175; DESIGN CHOICE, log entry 52). -/
def secondsSince (t : Nat) (s : State) : Nat := min Config.max16 ((s.now - t) / 1000)

/-- Seconds until an instant: whole seconds, a part second counted as Config.roundsUp has it (DESIGN CHOICE, log entry 8). -/
def secondsUntil (t : Nat) (s : State) : Nat :=
  let ms := t - s.now
  ms / 1000 + (if ms % 1000 = 0 then 0 else if Config.roundsUp ms then 1 else 0)

/-- The number after n in the cycle 1 to largest (R45, R124, R129). -/
def nextNumber (largest n : Nat) : Nat := if n ≥ largest then 1 else n + 1

/-! ### Ranges -/

/-- A printable ASCII character, 20h to 7Eh (R204). -/
def printable (b : Byte) : Bool := decide (0x20 ≤ b.toNat) && decide (b.toNat ≤ 0x7E)

/-- A decimal digit, 30h to 39h (R204). -/
def isDigit (b : Byte) : Bool := decide (0x30 ≤ b.toNat) && decide (b.toNat ≤ 0x39)

/-- A code of digits whose count lies in a range (R178). -/
def isCode (least most : Nat) (d : Digits) : Bool :=
  decide (least ≤ d.length) && decide (d.length ≤ most) && d.all isDigit

/-- A number lies in a range, both ends included (00_scope.md, Numbers). -/
def within (least most n : Nat) : Bool := decide (least ≤ n) && decide (n ≤ most)

/-! ### Listings, from a byte -/

/-- Day types (R204). -/
def toDayType : Nat → Option DayType
  | 0 => some .workday | 1 => some .restday | _ => none
/-- Areas (R49). -/
def toArea : Nat → Option Area
  | 0 => some .inner | 1 => some .outer | _ => none
/-- Offer classes (R5). -/
def toClass : Nat → Option OfferClass
  | 0 => some .street | 1 => some .booked | 2 => some .priority | _ => none
/-- Target kinds (R207). -/
def toTarget : Nat → Option Target
  | 0 => some .all | 1 => some .zone | 2 => some .unit | _ => none
/-- Priorities (R5). -/
def toPriority : Nat → Option Priority
  | 0 => some .normal | 1 => some .urgent | _ => none
/-- Meter keys (METER KEY). -/
def toMeterKey : Nat → Option MeterKey
  | 0 => some .hire | 1 => some .stop | 2 => some .free | 3 => some .extra | _ => none
/-- Tariff modes (R106). -/
def toMode : Nat → Option TariffMode
  | 0 => some .single | 1 => some .double | _ => none
/-- Alert modes (R178). -/
def toAlertMode : Nat → Option AlertMode
  | 0 => some .off | 1 => some .follow | 2 => some .latched | _ => none
/-- Yes or no, on or off (R204). -/
def toBool : Nat → Option Bool
  | 0 => some false | 1 => some true | _ => none
/-- Slot uses: a GRANT's address must lie in 1 to 4,094 (R2, R206). -/
def toSlotUse (f : SlotField) : Option SlotUse :=
  match f.kind with
  | 0 => some .idle
  | 1 => some .contention
  | 2 => some .emergContention
  | 3 => if within 1 4094 f.address then some (.grant f.address) else none
  | _ => none

/-! ### Listings, to a byte: the value's position in the listing of its table (R204) -/

/-- Result codes (R205). -/
def Result.code : Result → Nat
  | .ok => 0 | .badFrame => 1 | .unknown => 2 | .badArg => 3 | .refused => 4 | .level => 5 | .locked => 6
  | .busy => 7 | .full => 8 | .notFound => 9 | .keysOnly => 10 | .alreadyOpen => 11 | .pending => 12
/-- Sync states (R22). -/
def Sync.code : Sync → Nat
  | .search => 0 | .locked => 1 | .coast => 2
/-- Watch modes (R22). -/
def Watch.code : Watch → Nat
  | .full => 0 | .sparse => 1
/-- Voice states (R22). -/
def Voice.code : Voice → Nat
  | .idle => 0 | .pending => 1 | .granted => 2 | .held => 3 | .blocked => 4
/-- Day types (R204). -/
def DayType.code : DayType → Nat
  | .workday => 0 | .restday => 1
/-- Time sources (R22). -/
def TimeSource.code : TimeSource → Nat
  | .header => 0 | .host => 1
/-- Entry kinds (R24). -/
def EntryKind.code : EntryKind → Nat
  | .status => 0 | .claim => 1 | .decline => 2 | .receipt => 3 | .canned => 4 | .freetext => 5
  | .tripReport => 6 | .emergency => 7
/-- Entry classes (R24). -/
def EntryClass.code : EntryClass → Nat
  | .emergency => 0 | .claim => 1 | .control => 2 | .traffic => 3
/-- Entry states (R24). -/
def EntryState.code : EntryState → Nat
  | .waiting => 0 | .requesting => 1 | .awaitGrant => 2 | .sent => 3
/-- Fix qualities in a listing of the two that are taken as a fix (R56). -/
def Quality.code : Quality → Nat
  | .twoD => 0 | .threeD => 1
/-- Fix conditions (R56). -/
def FixCondition.code : FixCondition → Nat
  | .fresh => 0 | .stale => 1 | .lost => 2
/-- Areas (R56). -/
def Area.code : Area → Nat
  | .inner => 0 | .outer => 1
/-- Keys (R66). -/
def Key.code : Key → Nat
  | .hire => 0 | .stop => 1 | .free => 2 | .extra => 3 | .accept => 4 | .panic => 5
/-- Key states (R66). -/
def KeyState.code : KeyState → Nat
  | .unsettled => 0 | .up => 1 | .down => 2 | .heldAtStart => 3 | .stuck => 4
/-- Ignition states (R66). -/
def Ignition.code : Ignition → Nat
  | .unsettled => 0 | .on => 1 | .off => 2
/-- Refusal reasons, in the listing of R61 in PANEL STATUS and in METER KEY's reply alike, though R96 lists three
of them in another order (DEDUCED, log entry 25). -/
def Reason.code : Reason → Nat
  | .state => 0 | .uncalibrated => 1 | .totalsFault => 2 | .noOffer => 3 | .alreadyOpen => 4
  | .emergency => 5 | .noAddress => 6
/-- Offer classes (R68). -/
def OfferClass.code : OfferClass → Nat
  | .street => 0 | .booked => 1 | .priority => 2
/-- Target kinds of a board entry: ALL 0, ZONE 1, UNIT 2 (chapter 12, offer entry record). -/
def Target.code : Target → Nat
  | .all => 0 | .zone => 1 | .unit => 2
/-- Origin targets of a message: UNIT 0, ZONE 1, ALL 2 (R143). -/
def Target.messageCode : Target → Nat
  | .unit => 0 | .zone => 1 | .all => 2
/-- Offer states (R68). -/
def OfferState.code : OfferState → Nat
  | .presented => 0 | .claiming => 1 | .awaitingAward => 2 | .awarded => 3 | .closed => 4
/-- Claim origins (R68). -/
def ClaimOrigin.code : ClaimOrigin → Nat
  | .key => 0 | .host => 1
/-- Outcomes (R68). -/
def OfferOutcome.code : OfferOutcome → Nat
  | .expired => 0 | .withdrawn => 1 | .declined => 2 | .dropped => 3 | .suppressed => 4
  | .claimFailed => 5 | .lost => 6 | .noAnswer => 7 | .hired => 8 | .abandoned => 9
/-- Meter states (R120). -/
def MeterState.code : MeterState → Nat
  | .off => 0 | .free => 1 | .hired => 2 | .stopped => 3
/-- Tariff modes (R106). -/
def TariffMode.code : TariffMode → Nat
  | .single => 0 | .double => 1
/-- Report states (R123). -/
def ReportState.code : ReportState → Nat
  | .unreported => 0 | .inQueue => 1 | .reported => 2 | .notReportable => 3
/-- A copy or none: A, B, none (R141, R183). -/
def copyCode : Option Copy → Nat
  | some .a => 0 | some .b => 1 | none => 2
/-- Priorities (R143). -/
def Priority.code : Priority → Nat
  | .normal => 0 | .urgent => 1
/-- Read states (R143). -/
def ReadState.code : ReadState → Nat
  | .unread => 0 | .read => 1 | .replied => 2
/-- Receipt states (R143). -/
def ReceiptState.code : ReceiptState → Nat
  | .none => 0 | .due => 1 | .queued => 2 | .sent => 3 | .failed => 4
/-- What MESSAGE REPLY says: MERGED, NEW, OUTSTANDING, in the order its entry lists them. -/
def ReplyRoute.code : ReplyRoute → Nat
  | .merged => 0 | .new => 1 | .outstanding => 2
/-- Emergency states as shown (R175). -/
def EmState.code : EmState → Nat
  | .idle => 0 | .active => 1 | .acknowledged => 2 | .covert => 3
/-- Last ends (R175). -/
def LastEnd.code : LastEnd → Nat
  | .none => 0 | .cancel => 1 | .standDown => 2
/-- Alert modes (R175, R178). -/
def AlertMode.code : AlertMode → Nat
  | .off => 0 | .follow => 1 | .latched => 2
/-- Commit states (R184). -/
def CommitState.code : CommitState → Nat
  | .none => 0 | .pending => 1 | .writing => 2

/-! ### Fields that may be absent -/

/-- A field that may be absent: its presence, then its fields or the same fields at zero (R204). -/
def optField {α : Type} (zero : List Field) (f : α → List Field) : Option α → List Field
  | none => .count 0 :: zero
  | some a => .count 1 :: f a

/-- An optional number of the range given. -/
def optNum (largest : Nat) : Option Nat → List Field :=
  optField [.num largest 0] fun n => [.num largest n]

/-- An optional name of a listing. -/
def optName : Option Nat → List Field :=
  optField [.name 0] fun n => [.name n]

/-! ### Settings by number -/

/-- Tariff n, 1 to 4; any other number stands for tariff 4. -/
def Tariffs.get (t : Tariffs) : Nat → Tariff
  | 1 => t.t1 | 2 => t.t2 | 3 => t.t3 | _ => t.t4

/-- The tariffs with tariff n, 1 to 4, replaced; any other number changes nothing. -/
def Tariffs.put (t : Tariffs) (n : Nat) (x : Tariff) : Tariffs :=
  match n with
  | 1 => { t with t1 := x }
  | 2 => { t with t2 := x }
  | 3 => { t with t3 := x }
  | 4 => { t with t4 := x }
  | _ => t

/-- The row of the band table for a day type. -/
def Metrology.row (m : Metrology) : DayType → List Nat
  | .workday => m.workday
  | .restday => m.restday

/-- Canned entry n, 1 to 32. -/
def cannedText (settings : Settings) (n : Nat) : Text := settings.canned.getD (n - 1) []

/-! ### Derived metrology values (R107) -/

/-- A distance in pulses, rounded half up: Dp of the distance step, Dip of the included distance. -/
def inPulses (metres k : Nat) : Nat := (metres * k + 500) / 1000

/-- Dp, the distance step in pulses. -/
def Tariff.stepPulses (t : Tariff) (k : Nat) : Nat := inPulses t.distanceStep k

/-- Dip, the included distance in pulses. -/
def Tariff.includedPulses (t : Tariff) (k : Nat) : Nat := inPulses t.included k

/-- S, the step size in progress units: Dp × Ts. -/
def Tariff.stepSize (t : Tariff) (k : Nat) : Nat := t.stepPulses k * t.timeStep

/-- pmax, the pulses of 70 m/s rounded up. -/
def pulseCeiling (k : Nat) : Nat := (k * 70 + 999) / 1000

/-- Paid distance in metres: (pulses × 1,000) div K (R113). -/
def paidDistance (pulses k : Nat) : Nat := pulses * 1000 / k

/-- The working pulse constant K. -/
def pulseConstant (s : State) : Nat := s.store.working.metrology.pulseConstant

/-- Working tariff n. -/
def workingTariff (n : Nat) (s : State) : Tariff := s.store.working.metrology.tariffs.get n

/-! ### Readings of the zone locator (R54) -/

/-- A number into an ascending list without repeats. -/
def insertOnce (n : Nat) : List Nat → List Nat
  | [] => [n]
  | x :: xs => if n = x then x :: xs else if n < x then n :: x :: xs else x :: insertOnce n xs

/-- The served set, ascending: the current zone and the record's adjacent zones, each once; empty while the
current zone is 0. -/
def servedSet (s : State) : List Nat :=
  if s.locator.zone = 0 then []
  else insertOnce s.locator.zone (((s.locator.record.map (·.adjacent)).getD []).foldr insertOnce [])

/-- The tariff area: the record's area, INNER while the current zone is 0. -/
def tariffArea (s : State) : Area :=
  if s.locator.zone = 0 then .inner else (s.locator.record.map (·.area)).getD .inner

/-! ### Readings of the offer board -/

/-- The entry with an offer number. -/
def findOffer (n : Nat) (s : State) : Option Offer := s.board.entries.find? (·.number == n)

/-- The open claim states (R69). -/
def OfferState.claimOpen : OfferState → Bool
  | .claiming | .awaitingAward | .awarded => true
  | .presented | .closed => false

/-- An entry is in an open claim state (R76). -/
def claimOpen (s : State) : Bool := s.board.entries.any (·.state.claimOpen)

/-- The assignment's offer number (R87). -/
def assignment (s : State) : Option Nat :=
  (s.board.entries.find? (·.state == .awarded)).map (·.number)

/-- The time of day, none while UNKNOWN (R13). -/
def timeOfDay (s : State) : Option TimeOfDay := s.receiver.time.map (·.time)

end Sys2Proof.Machine
end

