-- ==== Sys2Proof/Machine/Ops.lean ====
section
/-! DEFINITION. The operations that the blocks share: the clock, replies to the host, the watch mode, the
uplink queue with STATUS generation, the voice handshake, and the dirty marks. Each is written once, from
the rule that states it, and the meanings call it. -/

namespace Sys2Proof.Machine

/-! ### The clock -/

/-- Uptime moves on to an instant, never back. -/
def advanceTo (t : Nat) (s : State) : State := { s with now := max s.now t }

/-- A step that the part's own clock or condition brings about: `due` is the instant at which it comes
about, none where its conditions do not hold and nothing happens. The clock stands at that instant or
later when it acts (DESIGN CHOICE, log entry 1). -/
def atInstant (due : Option Nat) (effect : State → State) (s : State) : State :=
  match due with
  | none => s
  | some t => effect (advanceTo t s)

/-- An instant, where a condition holds. -/
def dueWhen (condition : Bool) (t : Nat) : Option Nat := if condition then some t else none

/-- A powered part acts; without power nothing happens (R139). -/
def whenPowered (f : State → State) (s : State) : State := if s.powered then f s else s

/-! ### Replies (R196, R197) -/

/-- A reply is owed from this instant, with its content as built now. -/
def answer (tag : Tag) (result : Result) (content : List Field) (s : State) : State :=
  { s with link := { s.link with owed := some ⟨⟨tag, result, content⟩, s.now⟩ } }

/-- The lead byte of a frame that begins while a reply is owed: LINK is raised and the frame counted (R196). -/
def beginEarlyFrame (s : State) : State :=
  raise .link { s with link := { s.link with earlyCount := satAdd Config.max16 s.link.earlyCount 1 } }

/-- The receiver changed by a function. -/
def updateRx (f : FrameReceiver → FrameReceiver) (s : State) : State :=
  { s with link := { s.link with rx := f s.link.rx } }

/-- The receiver returns to HUNT; a reset that RESTART marked waits on while its reply is owed (R194, R201). -/
def hunt (s : State) : State :=
  updateRx (fun r => { resetRx with
    lastByte := r.lastByte, resetMarked := r.resetMarked && s.link.owed.isSome }) s

/-- A frame in reception whose last byte came more than 20 ms ago is dropped before the next byte is treated
(R194, R196; log entry 35). -/
def dropStale (s : State) : State :=
  if s.link.rx.phase ≠ .hunt ∧ s.link.rx.lastByte + Config.gapMs < s.now then hunt s else s

/-! ### Watch mode (R15 to R17) -/

/-- A cycle is listened to in SPARSE watch: its number leaves the remainder by 8 that the unit address
leaves (R15). -/
def listened (cycle address : Nat) : Bool := cycle % 8 == address % 8

/-- Cycles from cycle c to the next listened cycle after it, 1 to 8 (R15). -/
def cyclesToListened (cycle address : Nat) : Nat := 8 - (cycle + 8 - address % 8) % 8

/-- Cycles to the next header that the receiver expects after cycle c, under its watch mode (R8 to R10). -/
def predictedSpan (cycle : Nat) (s : State) : Nat :=
  match s.receiver.watch with
  | .full => 1
  | .sparse => cyclesToListened cycle s.store.working.address

/-- Cycles from the start of the current cycle to the first cycle boundary that has not yet passed (R17). -/
def cyclesToBoundary (s : State) : Nat :=
  max 1 ((s.now - s.receiver.cycleStart + (Config.cycleMs - 1)) / Config.cycleMs)

/-- The receiver with its next expected header `span` cycles after the start of the current cycle. A window
already open runs to its end first, and nothing is expected in SEARCH (R16, R17). -/
def reaim (span : Nat) (r : Receiver) : Receiver :=
  if r.windowOpen || r.expected.isNone then r
  else { r with expected := some (r.cycleStart + span * Config.cycleMs), span := span }

/-- SPARSE watch returns to FULL and LINK is raised; FULL watch stays (R17). -/
def returnToFull (s : State) : State :=
  match s.receiver.watch with
  | .full => s
  | .sparse =>
      raise .link { s with receiver := reaim (cyclesToBoundary s) { s.receiver with watch := .full } }

/-! ### The uplink queue (R24 to R28) -/

/-- The class of a kind (R25). -/
def EntryKind.cls : EntryKind → EntryClass
  | .emergency => .emergency
  | .claim => .claim
  | .status | .decline | .receipt => .control
  | .canned | .freetext | .tripReport => .traffic

/-- LONG kinds (R24). -/
def EntryKind.long : EntryKind → Bool
  | .freetext | .tripReport => true
  | .status | .claim | .decline | .receipt | .canned | .emergency => false

/-- The origin of an entry, which its kind fixes: the block that places it and may remove it, the host for the
messages that it sends, the scheduler for STATUS (R24, R28, R82, R148, R155). -/
def EntryKind.origin : EntryKind → EntryOrigin
  | .claim | .decline => .offerBoard
  | .receipt => .messageInbox
  | .canned | .freetext => .host
  | .status => .scheduler
  | .tripReport => .tripLog
  | .emergency => .emergencyController

/-- Two entries are the same item when kind and key agree; STATUS and EMERGENCY have no key and stand with
key 0 (R26). -/
def Entry.is (kind : EntryKind) (key : Nat) (e : Entry) : Bool := e.kind == kind && e.key == key

/-- A newcomer ranks before an entry of a lower class, or of its class placed later (R25). -/
def Entry.outranks (new e : Entry) : Bool :=
  decide (new.kind.cls.code < e.kind.cls.code) ||
    (new.kind.cls == e.kind.cls && decide (new.placed < e.placed))

/-- A newcomer joins the queue at its rank (R25). -/
def insertEntry (new : Entry) : List Entry → List Entry
  | [] => [new]
  | e :: es => if new.outranks e then new :: e :: es else e :: insertEntry new es

/-- Kinds that share a cap (R27). -/
def EntryKind.sharesCap : EntryKind → EntryKind → Bool
  | .canned, .freetext | .freetext, .canned => true
  | a, b => a == b

/-- The cap of a kind (R27). -/
def EntryKind.cap : EntryKind → Nat
  | .emergency | .status | .claim | .tripReport => 1
  | .decline => 3
  | .receipt => 4
  | .canned | .freetext => 5

/-- Entries in the queue that count against a kind's cap (R27). -/
def standing (kind : EntryKind) (s : State) : Nat :=
  s.scheduler.queue.countP (fun e => kind.sharesCap e.kind)

/-- The entry of a kind and key. -/
def findEntry (kind : EntryKind) (key : Nat) (s : State) : Option Entry :=
  s.scheduler.queue.find? (Entry.is kind key)

/-- The scheduler's answer to a placement (R26). -/
def placementOf (kind : EntryKind) (key : Nat) (s : State) : Placement :=
  if s.scheduler.queue.any (Entry.is kind key) then .sameItem
  else if standing kind s ≥ kind.cap then .atCap
  else .placed

/-- A new entry, WAITING with attempts 0 (R24, R26). -/
def newEntry (kind : EntryKind) (key : Nat) (content : EntryContent) (deadline : Option Nat) (s : State) :
    Entry :=
  { kind := kind, key := key, content := content, state := .waiting, attempts := 0, deadline := deadline
    placed := s.now, sentAs := none, grantWait := none }

/-- A block places an entry: an entry placed joins the queue and returns SPARSE watch to FULL; a same-item
or at-cap outcome changes nothing. The queue that fills ends a hold on the SPARSE test (R26, R27, R17, R16). -/
def placeEntry (kind : EntryKind) (key : Nat) (content : EntryContent) (deadline : Option Nat) (s : State) :
    State :=
  match placementOf kind key s with
  | .placed =>
      returnToFull { s with
        receiver := { s.receiver with sparseHeld := false }
        scheduler := { s.scheduler with
          queue := insertEntry (newEntry kind key content deadline s) s.scheduler.queue } }
  | .sameItem | .atCap => s

/-- The entries of a kind and key changed by a function. -/
def updateEntry (kind : EntryKind) (key : Nat) (f : Entry → Entry) (s : State) : State :=
  { s with scheduler := { s.scheduler with
      queue := s.scheduler.queue.map fun e => if e.is kind key then f e else e } }

/-- The entries of a kind and key leave the queue; the outstanding slot request that names one is cleared
(R28, R36, R38). -/
def dropEntry (kind : EntryKind) (key : Nat) (s : State) : State :=
  { s with scheduler := { s.scheduler with
      queue := s.scheduler.queue.filter fun e => !e.is kind key
      slotReq := if s.scheduler.slotReq = some (kind, key) then none else s.scheduler.slotReq } }

/-! ### STATUS generation (R41, R42) -/

/-- A STATUS is generated: placed where none stands, coalesced into a WAITING entry, and left to the
regeneration mark where the entry is SENT (R42). -/
def generateStatus (s : State) : State :=
  match findEntry .status 0 s with
  | none => placeEntry .status 0 .none none s
  | some e =>
      match e.state with
      | .sent => { s with scheduler := { s.scheduler with regenerate := true } }
      | .waiting | .requesting | .awaitGrant => s

/-! ### The voice handshake (R19) -/

/-- The voice state becomes the one given. -/
def setVoice (v : Voice) (s : State) : State := { s with receiver := { s.receiver with voice := v } }

/-- PENDING behind a transmission under way, GRANTED otherwise (R19). -/
def grantVoice (s : State) : State :=
  setVoice (if s.receiver.transmission.isSome then .pending else .granted) s

/-- The emergency becomes ACTIVE: a pending or granted request is held (R19). -/
def voiceAtActive (s : State) : State :=
  match s.receiver.voice with
  | .pending | .granted => setVoice .held s
  | .idle | .held | .blocked => s

/-- The emergency leaves ACTIVE: a held request is granted or made PENDING (R19). -/
def voiceAfterActive (s : State) : State :=
  match s.receiver.voice with
  | .held => grantVoice s
  | .idle | .pending | .granted | .blocked => s

/-! ### Dirty marks (R138) -/

/-- The emergency mark is set to a kind and marked dirty (R171). -/
def setMark (k : MarkKind) (s : State) : State :=
  { s with
    emergency := { s.emergency with mark := k }
    writer := { s.writer with markDirty := true } }

/-- The checkpoint is marked dirty (R118). -/
def markCheckpoint (s : State) : State := { s with writer := { s.writer with checkpointDirty := true } }

/-- The working totals are changed by a function: the changed-since-written mark is set (R132). -/
def updateTotals (f : Totals → Totals) (s : State) : State :=
  { s with accounts := { s.accounts with totals := f s.accounts.totals, changed := true } }

/-- The totals record is marked dirty, except while the totals fault holds (R132). -/
def markTotals (s : State) : State :=
  if s.accounts.fault then s else { s with writer := { s.writer with totalsDirty := true } }

/-- The record of a log position is marked dirty (R124, R138). -/
def markRecord (position : Nat) (s : State) : State :=
  { s with writer := { s.writer with recordsDirty := insertOnce position s.writer.recordsDirty } }

/-- The report mark of a log position is marked dirty (R127, R138). -/
def markReport (position : Nat) (s : State) : State :=
  { s with writer := { s.writer with reportsDirty := insertOnce position s.writer.reportsDirty } }

/-! ### Host results (R45) -/

/-- A result joins the host-result list, the oldest of eight making room, and UPLINK_RESULT is raised
(R36, R38, R45). -/
def addResult (ticket : Nat) (kind : EntryKind) (delivered : Bool) (s : State) : State :=
  let results := s.scheduler.results ++ [⟨ticket, kind, delivered⟩]
  raise .uplinkResult { s with
    scheduler := { s.scheduler with results := results.drop (results.length - 8) } }

end Sys2Proof.Machine
end

