-- ==== Sys2Proof/Machine/Board.lean ====
section
/-! DEFINITION. The offer board (chapter 5, R68 to R93): closings, admission, the new test of PRESENTED
entries, claims, the base's answers, the assignment, suppression, and the board's requests and instants. -/

namespace Sys2Proof.Machine

/-! ### Closing an entry (R70) -/

/-- The entries with an offer number changed by a function. -/
def updateOffer (n : Nat) (f : Offer → Offer) (s : State) : State :=
  { s with board := { s.board with
      entries := s.board.entries.map fun o => if o.number == n then f o else o } }

/-- The focus becomes none if it names the entry (R70, R75). -/
def unfocus (n : Nat) (s : State) : State :=
  { s with board := { s.board with focus := if s.board.focus = some n then none else s.board.focus } }

/-- What every closing does: the outcome, the close order, the focus, OFFER_CLOSED (R70). -/
def closeOnly (n : Nat) (outcome : OfferOutcome) (s : State) : State :=
  let s := updateOffer n (fun o => { o with state := .closed, outcome := some outcome }) s
  let s := { s with board := { s.board with closeOrder := s.board.closeOrder ++ [n] } }
  raise .offerClosed (unfocus n s)

/-- The cab condition admits an offer: the first row of R71's table that applies. -/
def cabAdmits (cls : OfferClass) (nextJob : Bool) (s : State) : Bool :=
  if s.meter.state = .off then false
  else if s.emergency.state.open then false
  else if (assignment s).isSome then false
  else if s.meter.state = .free then true
  else cls == .booked && nextJob

/-- The served-set test of R71: UNIT-targeted offers are not tested. -/
def zoneAdmits (target : Target) (pickup : Nat) (s : State) : Bool :=
  target == .unit || (servedSet s).contains pickup

/-- The PRESENTED entries that the cab condition and the served set no longer admit (R74). -/
def noLongerAdmitted (s : State) : List Nat :=
  (s.board.entries.filter fun o =>
    o.state == .presented && !(cabAdmits o.cls o.nextJob s && zoneAdmits o.target o.pickup s)).map (·.number)

/-- The new test of PRESENTED entries: each no longer admitted closes DROPPED, in arrival order (R74, R70; DESIGN
CHOICE, log entry 47). -/
def refilter (s : State) : State :=
  (noLongerAdmitted s).foldl (fun s n => closeOnly n .dropped s) s

/-- An entry closes with an outcome; the end of the assignment generates a STATUS and tests the PRESENTED
entries again (R70, R87). -/
def closeOffer (n : Nat) (outcome : OfferOutcome) (s : State) : State :=
  match findOffer n s with
  | none => s
  | some o =>
      if o.state = .awarded then refilter (generateStatus (closeOnly n outcome s))
      else closeOnly n outcome s

/-! ### Arrival of an offer (R71, R72) -/

/-- The first of a list that no other precedes: ties go to the earlier in arrival order. -/
def firstBy (precedes : Offer → Offer → Bool) : List Offer → Option Offer
  | [] => none
  | o :: os =>
      match firstBy precedes os with
      | none => some o
      | some b => if precedes b o then some b else some o

/-- Order of eviction: lowest class, then earliest expiry (R72 case 5). -/
def evictedBefore (a b : Offer) : Bool :=
  decide (a.cls.code < b.cls.code) || (a.cls == b.cls && decide (a.expiry < b.expiry))

/-- The PRESENTED entry that a newcomer of a class evicts from a full board (R72 case 5). -/
def evictable (cls : OfferClass) (s : State) : Option Offer :=
  firstBy evictedBefore
    (s.board.entries.filter fun o => o.state == .presented && decide (o.cls.code < cls.code))

/-- The entry that an OFFER creates: PRESENTED, no claim origin (R68). -/
def newOffer (target : Target) (cls : OfferClass) (nextJob : Bool) (o : OfferFields) (s : State) : Offer :=
  { number := o.number, cls := cls, nextJob := nextJob, target := target, pickup := o.pickup
    arrival := uptime s, expiry := uptime s + o.timeToLive, text := o.text, estimate := o.estimate
    state := .presented, origin := none, outcome := none }

/-- The offer takes a place as the last entry in arrival order, and OFFER_NEW is raised (R72 case 3). -/
def presentOffer (new : Offer) (s : State) : State :=
  raise .offerNew { s with board := { s.board with entries := s.board.entries ++ [new] } }

/-- The entry with a number leaves the board with no outcome and no event. -/
def removeOffer (n : Nat) (s : State) : State :=
  { s with board := { s.board with
      entries := s.board.entries.filter fun o => !(o.number == n)
      closeOrder := s.board.closeOrder.filter fun m => !(m == n) } }

/-- The overflow count rises by 1 (R72). -/
def countOverflow (s : State) : State :=
  { s with board := { s.board with overflow := satAdd Config.max16 s.board.overflow 1 } }

/-- An offer that passed R71 is placed by the first case of R72 that applies. -/
def placeOffer (new : Offer) (s : State) : State :=
  match findOffer new.number s with
  | some o =>
      if o.state = .closed then s
      else
        raise .offerNew (updateOffer new.number (fun o =>
          { o with expiry := max o.expiry new.expiry, text := new.text, estimate := new.estimate }) s)
  | none =>
      if s.board.entries.length < Config.boardSize then presentOffer new s
      else
        match s.board.closeOrder with
        | n :: _ => presentOffer new (removeOffer n s)
        | [] =>
            match evictable new.cls s with
            | some o => presentOffer new (countOverflow (unfocus o.number (removeOffer o.number s)))
            | none => countOverflow s

/-- The tests of R71 at an offer's arrival. -/
def offerAdmitted (new : Offer) (s : State) : Bool :=
  !s.receiver.offersPaused && s.receiver.watch == .full
    && cabAdmits new.cls new.nextJob s && zoneAdmits new.target new.pickup s

/-- The board receives an OFFER from the channel receiver (R71, R72). -/
def receiveOffer (target : Target) (cls : OfferClass) (nextJob : Bool) (o : OfferFields) (s : State) : State :=
  let new := newOffer target cls nextJob o s
  if offerAdmitted new s then placeOffer new s else s

/-! ### Claims (R76 to R79) -/

/-- The claim ends without being heard: a CLAIMING entry closes with the outcome given (R79). -/
def claimEnds (n : Nat) (outcome : OfferOutcome) (s : State) : State :=
  match findOffer n s with
  | none => s
  | some o => if o.state = .claiming then closeOffer n outcome s else s

/-- A WAITING claim is removed at its deadline and its offer closes EXPIRED (R40, R79). -/
def expireClaim (n : Nat) (s : State) : State := claimEnds n .expired (dropEntry .claim n s)

/-- Taking a claim on a PRESENTED entry; one whose expiry has been reached is removed at once (R76, R73). -/
def takeClaim (o : Offer) (origin : ClaimOrigin) (s : State) : State :=
  let t := unfocus o.number (updateOffer o.number
    (fun o => { o with state := .claiming, origin := some origin }) s)
  let t := placeEntry .claim o.number .none (some o.expiry) t
  if o.expiry * 1000 ≤ s.now then expireClaim o.number t else t

/-- Order of choice without a focus: earliest expiry (R77). -/
def expiresBefore (a b : Offer) : Bool := decide (a.expiry < b.expiry)

/-- The entry that an ACCEPT press takes: the focused one, or the PRESENTED one that expires first (R77). -/
def chosenOffer (s : State) : Option Offer :=
  match s.board.focus with
  | some n => findOffer n s
  | none => firstBy expiresBefore (s.board.entries.filter fun o => o.state == .presented)

/-- An ACCEPT press: the reason it is refused for, or none with the claim taken (R77). -/
def acceptPress (s : State) : Option Reason × State :=
  if s.meter.state = .off then (some .state, s)
  else if s.emergency.state.open then (some .emergency, s)
  else if claimOpen s then (some .alreadyOpen, s)
  else if s.store.working.address = 0 then (some .noAddress, s)
  else
    match chosenOffer s with
    | none => (some .noOffer, s)
    | some o => (none, takeClaim o .key s)

/-- The no-answer instant of an entry (R68). -/
def noAnswerMs (o : Offer) : Nat := (o.expiry + Config.noAnswerS) * 1000

/-- The claim is heard: the entry goes to AWAITING_AWARD, or closes NO_ANSWER where that instant has
passed (R79). -/
def claimHeard (n : Nat) (s : State) : State :=
  match findOffer n s with
  | none => s
  | some o =>
      if o.state = .claiming then
        let s := updateOffer n (fun o => { o with state := .awaitingAward }) s
        if noAnswerMs o ≤ s.now then closeOffer n .noAnswer s else s
      else s

/-! ### The base's answers (R80 to R84) -/

/-- An automatic decline: a DECLINE keyed by the offer number, dropped at its cap (R82). -/
def autoDecline (n : Nat) (s : State) : State := placeEntry .decline n .none none s

/-- The CLAIM entry of a CLAIMING entry leaves the queue (R28). -/
def dropClaim (o : Offer) (s : State) : State :=
  if o.state = .claiming then dropEntry .claim o.number s else s

/-- An AWARD reaches the board (R80, R81). -/
def receiveAward (n : Nat) (s : State) : State :=
  match findOffer n s with
  | none => autoDecline n s
  | some o =>
      match o.state with
      | .claiming | .awaitingAward =>
          let t := dropClaim o s
          if s.emergency.state.open then autoDecline n (closeOffer n .declined t)
          else
            refilter (generateStatus (raise .award
              (updateOffer n (fun o => { o with state := .awarded }) t)))
      | .awarded => s
      | .presented | .closed => autoDecline n s

/-- A LOST reaches the board (R83). -/
def receiveLost (n : Nat) (s : State) : State :=
  match findOffer n s with
  | none => s
  | some o =>
      match o.state with
      | .claiming | .awaitingAward => closeOffer n .lost (dropClaim o s)
      | .presented | .awarded | .closed => s

/-- A WITHDRAW reaches the board (R84). -/
def receiveWithdraw (n : Nat) (s : State) : State :=
  match findOffer n s with
  | none => s
  | some o => if o.state = .closed then s else closeOffer n .withdrawn (dropClaim o s)

/-! ### The emergency and the meter (R88, R91) -/

/-- The claim of an entry has been on the air: it is SENT, or WAITING with attempts 1 or more (R91). -/
def claimTransmitted (n : Nat) (s : State) : Bool :=
  match findEntry .claim n s with
  | none => false
  | some e => e.state == .sent || decide (1 ≤ e.attempts)

/-- Suppression of one open entry at the onset (R91). -/
def suppressOne (o : Offer) (s : State) : State :=
  match o.state with
  | .presented => closeOnly o.number .suppressed s
  | .claiming =>
      let t := dropEntry .claim o.number s
      if claimTransmitted o.number s then
        updateOffer o.number (fun o => { o with state := .awaitingAward }) t
      else closeOnly o.number .suppressed t
  | .awaitingAward | .awarded | .closed => s

/-- Suppression of the board when the emergency becomes ACTIVE from IDLE: its entries close in arrival order
(R91, R70; DESIGN CHOICE, log entry 47). -/
def suppressBoard (s : State) : State := s.board.entries.foldl (fun s o => suppressOne o s) s

/-- A change from FREE to HIRED closes the assignment HIRED (R88). -/
def hireAssignment (s : State) : State :=
  match assignment s with
  | none => s
  | some n => closeOffer n .hired s

/-! ### The board's instants (R73, R85) -/

/-- The expiry of a PRESENTED entry. -/
def offerExpiryDue (n : Nat) (s : State) : Option Nat :=
  match findOffer n s with
  | none => none
  | some o => dueWhen (s.powered && o.state == .presented) (o.expiry * 1000)

/-- OFFER_EXPIRY (R73): a PRESENTED entry closes EXPIRED when its expiry passes. -/
def execOfferExpiry (number : Nat) (s : State) : Host.Outcome State Fault Refusal :=
  .next (atInstant (offerExpiryDue number s) (closeOffer number .expired) s)

/-- The no-answer instant of an AWAITING_AWARD entry. -/
def noAnswerDue (n : Nat) (s : State) : Option Nat :=
  match findOffer n s with
  | none => none
  | some o => dueWhen (s.powered && o.state == .awaitingAward) (noAnswerMs o)

/-- NO_ANSWER (R85): an AWAITING_AWARD entry closes NO_ANSWER when its no-answer instant passes. -/
def execNoAnswer (number : Nat) (s : State) : Host.Outcome State Fault Refusal :=
  .next (atInstant (noAnswerDue number s) (closeOffer number .noAnswer) s)

/-! ### The board's requests -/

/-- OFFER FOCUS served (R75). -/
def serveOfferFocus (n : Nat) (s : State) : State :=
  if ¬ within 0 65535 n then answer .ofoc .badArg [] s
  else if n = 0 then answer .ofoc .ok [] { s with board := { s.board with focus := none } }
  else
    match findOffer n s with
    | none => answer .ofoc .notFound [] s
    | some o =>
        if o.state = .presented then
          answer .ofoc .ok [] { s with board := { s.board with focus := some n } }
        else answer .ofoc .refused [] s

/-- OFFER TAKE served: its causes in the order of its table (R78). -/
def serveOfferTake (n : Nat) (s : State) : State :=
  if ¬ within 1 65535 n then answer .otak .badArg [] s
  else if s.emergency.state.open then answer .otak .refused [] s
  else if claimOpen s then answer .otak .alreadyOpen [] s
  else if s.store.working.address = 0 then answer .otak .refused [] s
  else
    match findOffer n s with
    | none => answer .otak .notFound [] s
    | some o =>
        if o.state = .presented then
          answer .otak .ok [.num 65535 n, .name OfferState.claiming.code] (takeClaim o .host s)
        else answer .otak .refused [] s

/-- OFFER DISMISS served (R90). -/
def serveOfferDismiss (n : Nat) (s : State) : State :=
  if ¬ within 1 65535 n then answer .odis .badArg [] s
  else
    match findOffer n s with
    | none => answer .odis .notFound [] s
    | some o =>
        if o.state = .presented then answer .odis .ok [] (closeOffer n .declined s)
        else answer .odis .refused [] s

/-- ASSIGNMENT ABANDON served: the assignment closes ABANDONED, then a DECLINE is placed; the reply says
"no" when it was dropped at cap (R89). -/
def serveAssignmentAbandon (s : State) : State :=
  match assignment s with
  | none => answer .aabn .refused [] s
  | some n =>
      let t := closeOffer n .abandoned s
      answer .aabn .ok [.num 65535 n, .flag (placementOf .decline n t != .atCap)] (autoDecline n t)

/-- One offer entry record (R92; chapter 12, offer entry record). -/
def offerRecord (s : State) (o : Offer) : List Field :=
  [.num 65535 o.number, .name o.cls.code, .flag o.nextJob, .name o.target.code, .num 250 o.pickup,
    .num Config.max32 o.arrival, .num Config.max32 o.expiry, .num 65535 (o.expiry - uptime s),
    .name o.state.code]
  ++ optName (if o.state = .closed then o.outcome.map (·.code) else none)
  ++ optName (o.origin.map (·.code))
  ++ optNum Config.max32 (if o.state = .awaitingAward then some (o.expiry + Config.noAnswerS) else none)
  ++ optField [.text []] (fun t => [.text t]) o.text
  ++ optNum Config.maxFare o.estimate

/-- The content of BOARD READ (R92). -/
def boardContent (s : State) : List Field :=
  optNum 65535 s.board.focus
  ++ [.num 65535 s.board.overflow, .num 8 s.board.entries.length]
  ++ s.board.entries.flatMap (offerRecord s)

/-- BOARD READ served: the CLOSED entries reported are removed and the overflow count becomes 0 (R92). -/
def serveBoardRead (s : State) : State :=
  answer .bred .ok (boardContent s) { s with board := { s.board with
    entries := s.board.entries.filter fun o => !(o.state == .closed)
    closeOrder := []
    overflow := 0 } }

end Sys2Proof.Machine
end

