-- ==== Sys2Proof/Machine/Accounts.lean ====
section
/-! DEFINITION. The trip log and totals unit (chapter 7, R123 to R134, R140, R141): the log, the addition
of trips and distance to the totals, trip reports, shifts, and the unit's requests and timers. -/

namespace Sys2Proof.Machine

/-! ### The log (R124) -/

/-- The oldest record, if any. -/
def oldestEntry (s : State) : Option LogEntry := s.accounts.log.head?
/-- The newest record, if any. -/
def newestEntry (s : State) : Option LogEntry := s.accounts.log.getLast?
/-- The record with a log sequence number. -/
def findRecord (seq : Nat) (s : State) : Option LogEntry :=
  s.accounts.log.find? (·.record.seq == seq)

/-- The lowest empty log position (R124 says "an empty position"; DESIGN CHOICE, log entry 12). -/
def freePosition (log : List LogEntry) : Nat :=
  ((List.range Config.logSize).find? fun p => !log.any (·.position == p)).getD 0

/-- The oldest record is overwritten: it leaves the log, an UNREPORTED or IN_QUEUE one is counted except
under the totals fault, and its TRIP_REPORT entry is removed (R124, R28). -/
def overwriteOldest (e : LogEntry) (s : State) : State :=
  let s := { s with accounts := { s.accounts with log := s.accounts.log.tail } }
  let s := dropEntry .tripReport e.record.seq s
  if s.accounts.fault then s
  else
    match e.record.report with
    | .unreported | .inQueue =>
        updateTotals (fun t => { t with shift := { t.shift with
          overwritten := satAdd Config.maxTotal t.shift.overwritten 1 } }) s
    | .reported | .notReportable => s

/-- A record joins the log as the newest, at an empty position or the oldest record's, and is marked dirty
for its position (R124, R128, R138). The next sequence number follows its own. -/
def appendRecord (r : TripRecord) (s : State) : State :=
  let put (position : Nat) (s : State) : State :=
    markRecord position { s with accounts := { s.accounts with
      log := s.accounts.log ++ [⟨position, r, none⟩]
      nextSeq := nextNumber Config.max16 r.seq } }
  if s.accounts.log.length < Config.logSize then put (freePosition s.accounts.log) s
  else
    match oldestEntry s with
    | none => put 0 s
    | some e => put e.position (overwriteOldest e s)

/-- The log entries of a sequence number changed by a function. -/
def updateRecord (seq : Nat) (f : LogEntry → LogEntry) (s : State) : State :=
  { s with accounts := { s.accounts with
      log := s.accounts.log.map fun e => if e.record.seq == seq then f e else e } }

/-! ### The totals (R128 to R131) -/

/-- The six additions of a trip that is not TRIAL (R128). -/
def addToSums (r : TripRecord) (t : Sums) : Sums :=
  { trips := satAdd Config.maxTotal t.trips 1
    fare := satAdd Config.maxTotal t.fare r.fare
    extras := satAdd Config.maxTotal t.extras r.extrasTotal
    hiredDistance := satAdd Config.maxTotal t.hiredDistance r.distance
    totalDistance := satAdd Config.maxTotal t.totalDistance r.distance
    hiredSeconds := satAdd Config.maxTotal t.hiredSeconds r.duration }

/-- A closed trip is added to the working totals, and the marker moves to it (R128). -/
def addTrip (r : TripRecord) (t : Totals) : Totals :=
  if r.flags.trial then
    { t with shift := { t.shift with trialTrips := satAdd Config.maxTotal t.shift.trialTrips 1 }
             marker := some r.seq }
  else
    { t with shift := { t.shift with sums := addToSums r t.shift.sums }
             life := addToSums r t.life
             marker := some r.seq }

/-- The report state a record is made with (R125). -/
def reportAtClose (flags : TripFlags) : ReportState := if flags.trial then .notReportable else .unreported

/-- A closed trip enters the accounts: it takes the next sequence number, joins the log and, with the
totals fault clear, the totals; it becomes the last close (R128, R135). -/
def closeIntoAccounts (r : TripRecord) (s : State) : State :=
  let r := { r with seq := s.accounts.nextSeq, report := reportAtClose r.flags }
  let s := appendRecord r s
  let s := if s.accounts.fault then s else markTotals (updateTotals (addTrip r) s)
  { s with accounts := { s.accounts with lastClose := some r } }

/-- Metres into a distance total. -/
def addMetres (m : Nat) (t : Sums) : Sums := { t with totalDistance := satAdd Config.maxTotal t.totalDistance m }

/-- Pulses taken while not HIRED become whole metres through the distance remainder (R130). -/
def addDistance (p : Nat) (s : State) : State :=
  let k := pulseConstant s
  if k = 0 then s
  else
    let sum := s.accounts.totals.remainder + p * 1000
    if sum / k = 0 ∧ sum % k = s.accounts.totals.remainder then s
    else
      updateTotals (fun t =>
        { t with
          remainder := sum % k
          life := addMetres (sum / k) t.life
          shift := if t.shiftOpen then { t.shift with sums := addMetres (sum / k) t.shift.sums } else t.shift }) s

/-- A SHIFT OPEN zeroes the shift totals, advances the shift number and records driver and opening time
(R98, R129). -/
def openShift (driver : Nat) (s : State) : State :=
  let opening := timeOfDay s
  markTotals (updateTotals (fun t =>
    { t with
      shift := { shift := nextNumber Config.max16 t.shift.shift, driver := driver, opening := opening
                 sums := noSums, trialTrips := 0, overwritten := 0 }
      shiftOpen := true }) s)

/-- A shift closing leaves the counts standing (R99, R129). -/
def closeShift (s : State) : State := markTotals (updateTotals (fun t => { t with shiftOpen := false }) s)

/-! ### Trip reports (R125 to R127) -/

/-- The oldest UNREPORTED record whose hold-off has passed. -/
def reportable (s : State) : Option LogEntry :=
  s.accounts.log.find? fun e => e.record.report == .unreported && e.holdOff.isNone

/-- The conditions of R126 hold together. -/
def tripReportDue (s : State) : Option Nat :=
  dueWhen (s.powered && !s.scheduler.queue.any (fun e => e.kind == .tripReport)
    && s.receiver.sync == .locked && addressSet s && (reportable s).isSome) 0

/-- The record chosen is placed with its summary and becomes IN_QUEUE (R126). -/
def placeTripReport (s : State) : State :=
  match reportable s with
  | none => s
  | some e =>
      placeEntry .tripReport e.record.seq (.summary e.record) none
        (updateRecord e.record.seq
          (fun e => { e with record := { e.record with report := .inQueue } }) s)

/-- TRIP_REPORT_PLACEMENT (R126). -/
def execTripReportPlacement (s : State) : Host.Outcome State Fault Refusal :=
  .next (atInstant (tripReportDue s) placeTripReport s)

/-- A report acknowledged: the record becomes REPORTED, its report mark dirty, its hold-off cleared (R127). -/
def tripReported (seq : Nat) (s : State) : State :=
  match findRecord seq s with
  | none => s
  | some e =>
      markReport e.position (updateRecord seq
        (fun e => { e with record := { e.record with report := .reported }, holdOff := none }) s)

/-- A report failed: the record returns to UNREPORTED with a hold-off of 60 s (R127). -/
def tripReportFailed (seq : Nat) (s : State) : State :=
  updateRecord seq (fun e =>
    { e with record := { e.record with report := .unreported }, holdOff := some (s.now + Config.holdOffMs) }) s

/-- A report emptied by a remote reset: the record returns to UNREPORTED with no hold-off (R127). -/
def tripReportEmptied (seq : Nat) (s : State) : State :=
  updateRecord seq (fun e => { e with record := { e.record with report := .unreported }, holdOff := none }) s

/-- The hold-off instant of a record. -/
def holdOffDue (seq : Nat) (s : State) : Option Nat :=
  match findRecord seq s with
  | none => none
  | some e => if s.powered then e.holdOff else none

/-- REPORT_HOLD_OFF_END (R127): the hold-off passes and the record may be reported again. -/
def execReportHoldOffEnd (number : Nat) (s : State) : Host.Outcome State Fault Refusal :=
  .next (atInstant (holdOffDue number s) (updateRecord number fun e => { e with holdOff := none }) s)

/-! ### The totals period (R132) -/

/-- The end of the current totals period. -/
def totalsPeriodDue (s : State) : Option Nat :=
  dueWhen s.powered (s.accounts.periodSince + Config.totalsPeriodMs)

/-- The next period starts where this one ends; the totals record is marked dirty if changed since written. -/
def endTotalsPeriod (s : State) : State :=
  let t := { s with accounts := { s.accounts with
    periodSince := s.accounts.periodSince + Config.totalsPeriodMs } }
  if t.accounts.changed then markTotals t else t

/-- TOTALS_PERIOD_END (R132). -/
def execTotalsPeriodEnd (s : State) : Host.Outcome State Fault Refusal :=
  .next (atInstant (totalsPeriodDue s) endTotalsPeriod s)

/-! ### Reading the accounts (R140, R141) -/

/-- A set of tariff numbers, bit n - 1 for tariff n (R204). -/
def tariffSet (l : List Nat) : Field := .set ([1, 2, 3, 4].map fun n => l.contains n)

/-- The flags of a trip record (chapter 12, trip record). -/
def flagSet (f : TripFlags) : Field := .set [f.trial, f.interrupted, f.saturated, f.emergency, f.timeUnknown]

/-- A trip record's fields before its trip pulses. -/
def recordHead (r : TripRecord) : List Field :=
  [.num 65535 r.seq, .num 65535 r.shift, .num 9999 r.driver, .time r.hireTime, .num Config.max32 r.duration]

/-- A trip record's fields after its trip pulses and before its report state. -/
def recordTail (r : TripRecord) : List Field :=
  [.num 8589934590 r.distance, .num 4 r.tariffAtHire, tariffSet r.tariffsUsed, .num Config.maxFare r.fare,
    .num 9 r.extrasCount, .num 89991 r.extrasTotal, .num 250 r.zoneAtHire, .num 250 r.zoneAtClose]
  ++ optNum 65535 r.offer ++ [.num 65535 r.implausible, flagSet r.flags]

/-- A trip record (R123; chapter 12, trip record). -/
def recordFields (r : TripRecord) : List Field :=
  recordHead r ++ [.num Config.max32 r.pulses] ++ recordTail r ++ [.name r.report.code]

/-- The content of TRIP READ for one record (R140). -/
def tripReadContent (e : LogEntry) (s : State) : List Field :=
  [.num 32 s.accounts.log.length,
    .num 65535 (((oldestEntry s).map (·.record.seq)).getD 0),
    .num 65535 (((newestEntry s).map (·.record.seq)).getD 0)]
  ++ recordFields e.record

/-- The record next younger than the one with a number. -/
def recordAfter (seq : Nat) : List LogEntry → Option LogEntry
  | [] => none
  | e :: es => if e.record.seq == seq then es.head? else recordAfter seq es

/-- The record that a selector names (R140). -/
def selectRecord (q : TripSelector) (s : State) : Option LogEntry :=
  match q.which with
  | 0 => findRecord q.number s
  | 1 => recordAfter q.number s.accounts.log
  | 2 => oldestEntry s
  | _ => newestEntry s

/-- TRIP READ served (R140). -/
def serveTripRead (q : TripSelector) (s : State) : State :=
  if ¬ (q.which ≤ 3 ∧ (q.which ≤ 1 → within 1 65535 q.number)) then answer .tred .badArg [] s
  else
    match selectRecord q s with
    | none => answer .tred .notFound [] s
    | some e => answer .tred .ok (tripReadContent e s) s

/-- The six counts of R129 or R131. -/
def sumFields (t : Sums) : List Field :=
  [.num Config.maxTotal t.trips, .num Config.maxTotal t.fare, .num Config.maxTotal t.extras,
    .num Config.maxTotal t.hiredDistance, .num Config.maxTotal t.totalDistance, .num Config.maxTotal t.hiredSeconds]

/-- UNREPORTED records, IN_QUEUE included. -/
def unreportedCount (s : State) : Nat :=
  s.accounts.log.countP fun e => e.record.report == .unreported || e.record.report == .inQueue

/-- The content of TOTALS READ (R141). -/
def totalsContent (s : State) : List Field :=
  let t := s.accounts.totals
  [.num 65535 t.shift.shift, .num 9999 t.shift.driver, .time t.shift.opening]
  ++ sumFields t.shift.sums
  ++ [.num Config.maxTotal t.shift.trialTrips, .num Config.maxTotal t.shift.overwritten,
      .name (if t.shiftOpen then 0 else 1)]
  ++ sumFields t.life
  ++ [.flag s.accounts.fault, .flag s.accounts.reinit, .num Config.max32 s.accounts.generation,
      .name (copyCode s.accounts.holder), .name (copyCode s.accounts.loaded), .flag s.accounts.changed,
      .num 32 s.accounts.log.length, .num 32 (unreportedCount s)]

/-- The zeroed totals of a TOTALS REINIT (R134). -/
def zeroTotals (marker : Option Nat) (t : Totals) : Totals :=
  { t with
    shift := { t.shift with sums := noSums, trialTrips := 0, overwritten := 0 }
    life := noSums
    remainder := 0
    marker := marker }

/-- TOTALS REINIT taken: zeroed totals, and the totals record marked dirty under the fault (R132, R134). The
changed-since-written mark is set though the totals were zero already (DESIGN CHOICE, log entry 48). -/
def reinitTotals (s : State) : State :=
  let s := updateTotals (zeroTotals ((newestEntry s).map (·.record.seq))) s
  { s with
    accounts := { s.accounts with reinit := true }
    writer := { s.writer with totalsDirty := true } }

/-- TOTALS REINIT served (R134). -/
def serveTotalsReinit (s : State) : State :=
  if s.store.level < 2 then answer .tini .level [] s
  else if ¬ s.accounts.fault then answer .tini .refused [] s
  else if s.accounts.reinit then answer .tini .busy [] s
  else answer .tini .ok [] (reinitTotals s)

end Sys2Proof.Machine
end

