-- ==== Sys2Proof/Machine/Meter.lean ====
section
/-! DEFINITION. The meter engine (chapter 6, R94 to R122): meter states and their causes, the trip, the
pulse takes, the fare computation, tariff evaluation and switching, and the meter's requests. -/

namespace Sys2Proof.Machine

/-! ### The trip in progress -/

/-- The trip in progress changed by a function. -/
def updateTrip (f : Trip → Trip) (s : State) : State :=
  { s with meter := { s.meter with trip := s.meter.trip.map f } }

/-- The checkpoint count (R118). -/
def setCheckpointCount (n : Nat) (s : State) : State :=
  { s with meter := { s.meter with checkpointCount := n } }

/-- A mark made while the meter is and stays HIRED also sets the checkpoint count to 0 (R118). -/
def markTrip (s : State) : State :=
  if s.meter.state = .hired then setCheckpointCount 0 (markCheckpoint s) else markCheckpoint s

/-! ### Takes of the pulse tally (R108, R109) -/

/-- A take, clamped to the pulse ceiling. -/
def takenPulses (s : State) : Nat := min s.panel.tally (pulseCeiling (pulseConstant s))

/-- The take exceeds the ceiling. -/
def takeClamped (s : State) : Bool := decide (pulseCeiling (pulseConstant s) < s.panel.tally)

/-- The tally is taken and restarted from 0; the clamped take goes to the trip while HIRED, to total
distance otherwise, and a clamp while HIRED is counted (R65, R108, R109). -/
def takeTally (s : State) : State :=
  let p := takenPulses s
  let clamped := takeClamped s
  let t := { s with panel := { s.panel with tally := 0 } }
  match s.meter.state with
  | .hired =>
      updateTrip (fun x =>
        { x with
          pulses := satAdd Config.max32 x.pulses p
          implausible := if clamped then satAdd Config.max16 x.implausible 1 else x.implausible }) t
  | .off | .free | .stopped => addDistance p t

/-! ### Choosing the tariff (R114 to R116) -/

/-- The evaluation of the tariff in force: the first case of R114 that applies. -/
def evaluateTariff (s : State) : Nat :=
  let m := s.store.working.metrology
  match timeOfDay s with
  | none => 1
  | some t =>
      if within 1 4 m.outOfArea ∧ (m.tariffs.get m.outOfArea).valid ∧ tariffArea s = .outer then m.outOfArea
      else
        let n := (m.row t.day).getD (t.second / 1800) 1
        if within 1 4 n ∧ (m.tariffs.get n).valid then n else 1

/-- The trip after a switch to tariff b: the accumulator becomes A × S(b) ÷ S(a), truncated toward zero;
b is in force and among the tariffs used (R116). -/
def switchTo (b : Nat) (s : State) (t : Trip) : Trip :=
  let k := pulseConstant s
  { t with
    acc := Int.tdiv (t.acc * ((workingTariff b s).stepSize k : Int)) ((workingTariff t.tariff s).stepSize k)
    tariff := b
    tariffsUsed := insertOnce b t.tariffsUsed }

/-- An evaluation during a trip: with the lock off, a tariff other than the one in force makes a switch,
which marks the checkpoint by `mark` (R115, R116, R118). -/
def applyEvaluation (mark : State → State) (s : State) : State :=
  match s.meter.trip with
  | none => s
  | some t =>
      let b := evaluateTariff s
      if s.store.working.metrology.lockTariff ∨ b = t.tariff then s
      else mark (updateTrip (switchTo b s) s)

/-! ### The fare (R110 to R112) -/

/-- The progress of one trip second with clamped take p (R110). -/
def progress (t : Tariff) (k p : Nat) : Nat :=
  let d := p * t.timeStep
  let w := t.stepPulses k
  match t.mode with
  | .single => max d w
  | .double => d + w

/-- One increment: it subtracts S from the accumulator and raises the fare by U, the fare saturating at
999,999 with the SATURATED flag (R111, R112). -/
def increment (stepSize amount : Nat) (t : Trip) : Trip :=
  let full := decide (t.fare + amount ≥ Config.maxFare)
  { t with
    acc := t.acc - stepSize
    fare := if full then Config.maxFare else t.fare + amount
    flags := { t.flags with saturated := t.flags.saturated || full } }

/-- `n` increments. -/
def increments : Nat → Nat → Nat → Trip → Trip
  | 0, _, _, t => t
  | n + 1, stepSize, amount, t => increments n stepSize amount (increment stepSize amount t)

/-- Increments that an accumulator carries: as many whole steps as it holds (R111). -/
def carried (acc : Int) (stepSize : Nat) : Nat := (acc / (stepSize : Int)).toNat

/-- The trip after a trip second's progress g: it is added to the accumulator, and as many increments are
made as it then carries (R111). -/
def addProgress (g stepSize amount : Nat) (t : Trip) : Trip :=
  let t := { t with acc := t.acc + g }
  increments (carried t.acc stepSize) stepSize amount t

/-- The trip after one trip second with clamped take p under the tariff in force. -/
def tripSecond (p : Nat) (s : State) (t : Trip) : Trip :=
  let k := pulseConstant s
  let tariff := workingTariff t.tariff s
  let t := addProgress (progress tariff k p) (tariff.stepSize k) tariff.increment t
  { t with seconds := satAdd Config.max32 t.seconds 1 }

/-- The checkpoint count rises with each trip second; at 60 the checkpoint is marked and the count is 0
(R118). -/
def countCheckpoint (s : State) : State :=
  if s.meter.checkpointCount + 1 ≥ 60 then setCheckpointCount 0 (markCheckpoint s)
  else setCheckpointCount (s.meter.checkpointCount + 1) s

/-- The end of a trip second: progress and increments, the checkpoint count, then the evaluation (R110 to
R116, R118). -/
def endTripSecond (p : Nat) (s : State) : State :=
  applyEvaluation markTrip (countCheckpoint (updateTrip (tripSecond p s) s))

/-- The end of the current meter second. -/
def meterSecondDue (s : State) : Option Nat := dueWhen s.powered (s.meter.secondSince + 1000)

/-- A meter second ends: the timer restarts at that instant, the tally is taken, and while HIRED the second
is a trip second (R108). -/
def endMeterSecond (s : State) : State :=
  let p := takenPulses s
  let t := takeTally { s with meter := { s.meter with secondSince := s.meter.secondSince + 1000 } }
  if s.meter.state = .hired then endTripSecond p t else t

/-- METER_SECOND (R108). -/
def execMeterSecond (s : State) : Host.Outcome State Fault Refusal :=
  .next (atInstant (meterSecondDue s) endMeterSecond s)

/-! ### Changes of meter state (R97) -/

/-- A change of meter state: the take for the state being left, the restart of the meter second timer, the
change with the work of its own rule, METER, a STATUS, and the report to the offer board (R97). -/
def changeMeter (new : MeterState) (work : State → State) (s : State) : State :=
  let t := takeTally s
  let t := work { t with meter := { t.meter with state := new, secondSince := t.now } }
  let t := refilter (generateStatus (raise .meter t))
  if s.meter.state = .free ∧ new = .hired then hireAssignment t else t

/-- The trip in progress that a HIRE in FREE opens (R100). -/
def openedTrip (s : State) : Trip :=
  let n := evaluateTariff s
  let t := workingTariff n s
  { hireTime := timeOfDay s
    seconds := 0
    pulses := 0
    fare := t.flagFall
    acc := -((t.includedPulses (pulseConstant s) * t.timeStep : Nat) : Int)
    tariffAtHire := n
    tariff := n
    tariffsUsed := [n]
    extrasCount := 0
    extrasTotal := 0
    implausible := 0
    zoneAtHire := s.locator.zone
    offer := assignment s
    flags := { trial := uncommitted s, interrupted := false, saturated := false
               emergency := s.emergency.state != .idle, timeUnknown := (timeOfDay s).isNone }
    stopAt := none }

/-- The work of a HIRE in FREE (R100). -/
def openTrip (s : State) : State :=
  markCheckpoint { s with meter := { s.meter with
    trip := some (openedTrip s), checkpointCount := 0, resumeOpen := false } }

/-- The work of a STOP (R101). -/
def stopTrip (s : State) : State :=
  markCheckpoint (updateTrip (fun t => { t with stopAt := some s.now })
    { s with meter := { s.meter with resumeOpen := true } })

/-- The work of a resume (R102): the evaluation is made, and the checkpoint count stands. -/
def resumeTrip (s : State) : State :=
  markCheckpoint (applyEvaluation markCheckpoint
    (updateTrip (fun t => { t with stopAt := none })
      { s with meter := { s.meter with resumeOpen := false } }))

/-- The record that a closed trip hands over, its numbers and report state still to be given (R104, R128). -/
def closedRecord (t : Trip) (k shift driver zoneAtClose : Nat) : TripRecord :=
  { seq := 0, shift := shift, driver := driver, hireTime := t.hireTime, duration := t.seconds
    pulses := t.pulses, distance := paidDistance t.pulses k, tariffAtHire := t.tariffAtHire
    tariffsUsed := t.tariffsUsed, fare := t.fare, extrasCount := t.extrasCount
    extrasTotal := t.extrasTotal, zoneAtHire := t.zoneAtHire, zoneAtClose := zoneAtClose
    offer := t.offer, implausible := t.implausible, flags := t.flags, report := .unreported }

/-- The work of a FREE: the trip closes into the accounts (R104). -/
def closeTrip (s : State) : State :=
  match s.meter.trip with
  | none => markCheckpoint s
  | some t =>
      let shift := s.accounts.totals.shift
      let s := closeIntoAccounts
        (closedRecord t (pulseConstant s) shift.shift shift.driver s.locator.zone) s
      markCheckpoint { s with meter := { s.meter with trip := none, resumeOpen := false } }

/-- An EXTRA in HIRED or STOPPED with the count below 9 (R103). -/
def chargeExtra (t : Trip) (s : State) : State :=
  raise .meter (markTrip (updateTrip (fun x =>
    { x with extrasCount := x.extrasCount + 1
             extrasTotal := x.extrasTotal + (workingTariff t.tariff s).extra }) s))

/-- A HIRE, STOP, FREE or EXTRA reaches the engine: the reason it is refused for, or none with its work done
(R95, R96). -/
def pressMeter (k : MeterKey) (s : State) : Option Reason × State :=
  match k, s.meter.state with
  | .hire, .free =>
      if uncalibrated s then (some .uncalibrated, s)
      else if s.accounts.fault then (some .totalsFault, s)
      else (none, changeMeter .hired openTrip s)
  | .hire, .stopped =>
      if s.meter.resumeOpen then (none, changeMeter .hired resumeTrip s) else (some .state, s)
  | .stop, .hired => (none, changeMeter .stopped stopTrip s)
  | .free, .stopped => (none, changeMeter .free closeTrip s)
  | .extra, .hired | .extra, .stopped =>
      match s.meter.trip with
      | none => (some .state, s)
      | some t => if t.extrasCount ≥ 9 then (some .state, s) else (none, chargeExtra t s)
  | _, _ => (some .state, s)

/-- The emergency has left IDLE: a trip in progress takes the EMERGENCY flag and marks its checkpoint
dirty (R117). -/
def flagTrip (s : State) : State :=
  if s.meter.state.onTrip then
    markTrip (updateTrip (fun t => { t with flags := { t.flags with emergency := true } }) s)
  else s

/-! ### The resume window (R102) -/

/-- The close of the resume window. -/
def resumeCloseDue (s : State) : Option Nat :=
  if s.powered ∧ s.meter.state = .stopped ∧ s.meter.resumeOpen then
    (s.meter.trip.bind (·.stopAt)).map (· + Config.resumeMs)
  else none

/-- RESUME_WINDOW_CLOSE (R102): a later HIRE is refused. -/
def execResumeWindowClose (s : State) : Host.Outcome State Fault Refusal :=
  .next (atInstant (resumeCloseDue s)
    (fun s => { s with meter := { s.meter with resumeOpen := false } }) s)

/-! ### The meter's requests -/

/-- METER KEY served (R105). Its OK carries the meter state alone and its REFUSED the reason alone, neither with a
presence byte (R198; DEDUCED, log entry 22). -/
def serveMeterKey (n : Nat) (s : State) : State :=
  match toMeterKey n with
  | none => answer .mkey .badArg [] s
  | some k =>
      if s.store.working.keysOnly then answer .mkey .keysOnly [] s
      else
        match pressMeter k s with
        | (some r, t) => answer .mkey .refused [.name r.code] t
        | (none, t) => answer .mkey .ok [.name t.meter.state.code] t

/-- SHIFT OPEN served (R98). -/
def serveShiftOpen (driver : Nat) (s : State) : State :=
  if ¬ within 1 9999 driver then answer .sopn .badArg [] s
  else if s.meter.state ≠ .off then answer .sopn .refused [] s
  else
    let t := changeMeter .free (openShift driver) s
    answer .sopn .ok [.name t.meter.state.code] t

/-- SHIFT CLOSE served (R99). -/
def serveShiftClose (s : State) : State :=
  if s.meter.state ≠ .free then answer .scls .refused [] s
  else if (assignment s).isSome then answer .scls .alreadyOpen [] s
  else
    let t := changeMeter .off closeShift s
    answer .scls .ok [.name t.meter.state.code] t

/-- The trip block of METER STATUS (R120; chapter 12, meter status). -/
def tripBlock (s : State) (t : Trip) : List Field :=
  [.time t.hireTime, .num Config.max32 t.seconds, .num Config.max32 t.pulses, .num Config.maxFare t.fare,
    .signed t.acc, .num 4 t.tariffAtHire, .num 4 t.tariff, tariffSet t.tariffsUsed, .num 9 t.extrasCount,
    .num 89991 t.extrasTotal, .num 65535 t.implausible, .num 250 t.zoneAtHire]
  ++ optNum 65535 t.offer
  ++ [flagSet t.flags]
  ++ optNum Config.max32 (t.stopAt.map (· / 1000))
  ++ [.num 8589934590 (paidDistance t.pulses (pulseConstant s)), .num 1089990 (t.fare + t.extrasTotal)]

/-- The bytes of an absent trip block: 53 zero bytes (chapter 12, meter status). -/
def noTripBlock : List Field :=
  [.name 0, .num Config.max32 0, .num Config.max32 0, .num Config.max32 0, .num Config.maxFare 0, .signed 0,
    .num 4 0, .num 4 0, .set [], .num 9 0, .num 89991 0, .num 65535 0, .num 250 0, .count 0, .num 65535 0,
    .set [], .count 0, .num Config.max32 0, .num 8589934590 0, .num 1089990 0]

/-- The trip in progress while HIRED or STOPPED. -/
def openTripOf (s : State) : Option Trip := if s.meter.state.onTrip then s.meter.trip else none

/-- The trip's fare while HIRED or STOPPED, 0 while OFF or FREE (R120). -/
def currentFare (s : State) : Nat := ((openTripOf s).map (·.fare)).getD 0

/-- Seconds left of the resume window: present while STOPPED, 0 once it has closed (R120). -/
def resumeLeft (s : State) : Option Nat :=
  if s.meter.state = .stopped then
    some (if s.meter.resumeOpen then
      secondsUntil (((s.meter.trip.bind (·.stopAt)).getD 0) + Config.resumeMs) s else 0)
  else none

/-- The content of METER STATUS (R120). -/
def meterContent (s : State) : List Field :=
  [.name s.meter.state.code, .set [uncalibrated s, s.accounts.fault, uncommitted s],
    .flag s.store.working.keysOnly, .num 4 (evaluateTariff s)]
  ++ optField noTripBlock (tripBlock s) (openTripOf s)
  ++ optField [.num 24000000 0, .num 1400 0]
      (fun t => [.num 24000000 ((workingTariff t.tariff s).stepSize (pulseConstant s)),
        .num 1400 (pulseCeiling (pulseConstant s))]) (openTripOf s)
  ++ optNum 20 (resumeLeft s)
  ++ [.num Config.maxFare (currentFare s)]

/-- TIME SET served (R14, R121). -/
def serveTimeSet (a : TimeArgs) (s : State) : State :=
  match toDayType a.dayType with
  | none => answer .tset .badArg [] s
  | some d =>
      if ¬ within 0 86399 a.second then answer .tset .badArg [] s
      else if s.store.level < 1 then answer .tset .level [] s
      else
        answer .tset .ok [.time (some ⟨d, a.second⟩), .name TimeSource.host.code]
          { s with receiver := { s.receiver with time := some ⟨⟨d, a.second⟩, .host, s.now⟩ } }

end Sys2Proof.Machine
end

