-- ==== Sys2Proof/Machine/Emergency.lean ====
section
/-! DEFINITION. The emergency controller (chapter 9, R158 to R176): arming, the base's answers, cancel and
duress, the report timer, the alert latch, and the controller's requests. -/

namespace Sys2Proof.Machine

/-- The empty source set (R159). -/
def noSources : Sources := ⟨false, false, false⟩

/-- The source of an arming added to the source set (R159). -/
def addSource (a : ArmSource) (t : Sources) : Sources :=
  match a with
  | .panel => { t with panel := true }
  | .host => { t with host := true }

/-- The alert latch is set when the working alert mode is LATCHED (R160, R169). -/
def latchIfLatched (s : State) : State :=
  if s.store.working.alertMode = .latched then { s with emergency := { s.emergency with latch := true } } else s

/-- Entry into ACTIVE from IDLE, in the order of R160: the offer board, the voice handshake, the receiver,
the EMERGENCY entry, the alert latch, the event, the meter engine, the emergency mark. -/
def enterActive (a : ArmSource) (s : State) : State :=
  let s := { s with emergency := { s.emergency with
    state := .active, acknowledged := false, sources := addSource a noSources
    onset := some s.now, reportSince := none } }
  let s := suppressBoard s
  let s := voiceAtActive s
  let s := returnToFull s
  let s := placeEntry .emergency 0 .none none s
  let s := latchIfLatched s
  let s := raise .emergency s
  let s := flagTrip s
  setMark .active s

/-- An arming: it enters ACTIVE from IDLE and adds its source in any other state (R158, R160, R161). -/
def arm (a : ArmSource) (s : State) : State :=
  match s.emergency.state with
  | .idle => enterActive a s
  | .active | .acknowledged | .covert =>
      { s with emergency := { s.emergency with sources := addSource a s.emergency.sources } }

/-- The return to IDLE (R165, R166): the EMERGENCY entry leaves the queue, the report timer and the beacon
timer stop, the flag and the sources clear, the mark becomes NONE, and the voice handshake is told; from
ACTIVE or ACKNOWLEDGED the host is shown the end by EMERGENCY and the last end given. -/
def endEmergency (last : LastEnd) (s : State) : State :=
  let shown := s.emergency.state.open
  let s := dropEntry .emergency 0 s
  let s := { s with
    emergency := { s.emergency with
      state := .idle, acknowledged := false, sources := noSources, reportSince := none
      lastEnd := if shown then last else s.emergency.lastEnd }
    scheduler := { s.scheduler with lastBeacon := none } }
  let s := setMark .none s
  let s := voiceAfterActive s
  if shown then raise .emergency s else s

/-- A STAND_DOWN reaches the controller (R165). -/
def receiveStandDown (s : State) : State :=
  match s.emergency.state with
  | .idle => s
  | .active | .acknowledged | .covert => endEmergency .standDown s

/-- An EMERG_ACK reaches the controller (R164). -/
def receiveEmergAck (s : State) : State :=
  match s.emergency.state with
  | .active =>
      raise .emergency (voiceAfterActive
        { s with emergency := { s.emergency with state := .acknowledged } })
  | .covert => { s with emergency := { s.emergency with acknowledged := true } }
  | .idle | .acknowledged => s

/-- The duress code moves ACTIVE or ACKNOWLEDGED to COVERT; entry, report timer, sources and onset stand
(R167). -/
def enterCovert (s : State) : State :=
  let flag := s.emergency.state == .acknowledged
  let s := { s with emergency := { s.emergency with
    state := .covert, acknowledged := flag, lastEnd := .cancel } }
  raise .emergency (voiceAfterActive (setMark .covert s))

/-! ### Reports (R163) -/

/-- The interval of the report timer that the state in force gives, in milliseconds (R163). -/
def reportInterval (e : Emergency) : Nat :=
  match e.state with
  | .acknowledged => 30000
  | .covert => if e.acknowledged then 30000 else 5000
  | .idle | .active => 5000

/-- The EMERGENCY entry has been acknowledged: the report timer starts (R36, R163). -/
def reportHeard (s : State) : State :=
  match s.emergency.state with
  | .idle => s
  | .active | .acknowledged | .covert =>
      { s with emergency := { s.emergency with reportSince := some s.now } }

/-- The instant at which the next report falls due. -/
def reportDue (s : State) : Option Nat :=
  if s.powered ∧ s.emergency.state ≠ .idle then
    s.emergency.reportSince.map (· + reportInterval s.emergency)
  else none

/-- The next report: a new EMERGENCY entry, and the timer stops (R163). -/
def placeReport (s : State) : State :=
  placeEntry .emergency 0 .none none { s with emergency := { s.emergency with reportSince := none } }

/-- REPORT_TIMER_EXPIRY (R163). -/
def execReportTimerExpiry (s : State) : Host.Outcome State Fault Refusal :=
  .next (atInstant (reportDue s) placeReport s)

/-! ### Requests -/

/-- EMERGENCY RAISE served: an arming with source HOST; the reply gives the state as shown (R174). -/
def serveEmergencyRaise (s : State) : State :=
  let t := arm .host s
  answer .erai .ok [.name (shownState t).code] t

/-- EMERGENCY CANCEL served: its causes in order, the duress code before the cancel code (R166, R167). -/
def serveEmergencyCancel (code : Digits) (s : State) : State :=
  if ¬ isCode 4 8 code then answer .ecan .badArg [] s
  else if ¬ s.emergency.state.open then answer .ecan .refused [] s
  else if code = s.store.working.duressCode then
    let t := enterCovert s
    answer .ecan .ok [.name (shownState t).code] t
  else if code = s.store.working.cancelCode then
    let t := endEmergency .cancel s
    answer .ecan .ok [.name (shownState t).code] t
  else answer .ecan .refused [] s

/-- The report field of EMERGENCY STATUS: presence, choice (0 WAITING_ACK, 1 seconds), seconds (R175). -/
def reportField (s : State) : List Field :=
  if ¬ s.emergency.state.open then [.count 0, .name 0, .num 30 0]
  else if (findEntry .emergency 0 s).isSome then [.count 1, .name 0, .num 30 0]
  else
    [.count 1, .name 1, .num 30
      (((s.emergency.reportSince.map fun t => secondsUntil (t + reportInterval s.emergency) s)).getD 0)]

/-- The content of EMERGENCY STATUS, through the host view of R168 (R175). -/
def emergencyContent (s : State) : List Field :=
  let e := s.emergency
  let shown := e.state.open
  [.name (shownState s).code,
    .set (if shown then [e.sources.panel, e.sources.host, e.sources.resumed] else [])]
  ++ optNum 65535 (if shown then e.onset.map fun t => secondsSince t s else none)
  ++ reportField s
  ++ [.name e.lastEnd.code, .name s.store.working.alertMode.code, .flag e.latch, .flag (alertLine s),
      .flag (markWritePending s)]

/-- ALERT CLEAR served (R170). -/
def serveAlertClear (s : State) : State :=
  if s.store.level < 1 then answer .aclr .level [] s
  else if s.emergency.state.open then answer .aclr .refused [] s
  else answer .aclr .ok [] { s with emergency := { s.emergency with latch := false } }

end Sys2Proof.Machine
end

