-- ==== Sys2Proof/Machine/Inbox.lean ====
section
/-! DEFINITION. The message inbox (chapter 8, R143 to R156): admission of TEXT items, receipts, the driver's
answers, outbound messages and the inbox's requests. -/

namespace Sys2Proof.Machine

/-- The record with a message number. -/
def findMessage (n : Nat) (s : State) : Option Message := s.inbox.messages.find? (·.number == n)

/-- The records of a message number changed by a function. -/
def updateMessage (n : Nat) (f : Message → Message) (s : State) : State :=
  { s with inbox := { s.inbox with
      messages := s.inbox.messages.map fun m => if m.number == n then f m else m } }

/-! ### Receipts (R148, R149) -/

/-- The DUE records in the order of their placement: URGENT before NORMAL, then arrival order (R148). -/
def dueReceipts (s : State) : List Message :=
  let due := s.inbox.messages.filter fun m => m.receipt == .due
  due.filter (fun m => m.priority == .urgent) ++ due.filter (fun m => m.priority == .normal)

/-- One DUE record is tried: its RECEIPT placed, it becomes QUEUED; at cap it stays DUE (R148). -/
def placeReceipt (m : Message) (s : State) : State :=
  match placementOf .receipt m.number s with
  | .placed =>
      placeEntry .receipt m.number (.code m.receiptCode) none
        (updateMessage m.number (fun m => { m with receipt := .queued }) s)
  | .sameItem | .atCap => s

/-- The test for placement of receipts (R148). -/
def placeReceipts (s : State) : State := (dueReceipts s).foldl (fun s m => placeReceipt m s) s

/-- A DUE record stands while the RECEIPT cap allows another entry. -/
def receiptDue (s : State) : Option Nat :=
  dueWhen (s.powered && (dueReceipts s).any fun m => placementOf .receipt m.number s == .placed) 0

/-- RECEIPT_PLACEMENT (R148). -/
def execReceiptPlacement (s : State) : Host.Outcome State Fault Refusal :=
  .next (atInstant (receiptDue s) placeReceipts s)

/-- The receipt state after an outcome, re-armed where a reply is outstanding (R149). -/
def settleReceipt (outcome : ReceiptState) (m : Message) : Message :=
  if m.outstanding then
    { m with receipt := .due, receiptCode := m.chosen.getD m.receiptCode, outstanding := false }
  else { m with receipt := outcome }

/-- A RECEIPT acknowledged: SENT, or DUE again with the code chosen; the freed cap place is offered (R149). -/
def receiptHeard (n : Nat) (s : State) : State := placeReceipts (updateMessage n (settleReceipt .sent) s)

/-- A RECEIPT failed: FAILED with UPLINK_RESULT, or DUE again; the freed cap place is offered (R149). -/
def receiptFailed (n : Nat) (s : State) : State :=
  placeReceipts (raise .uplinkResult (updateMessage n (settleReceipt .failed) s))

/-! ### Admission of TEXT items (R145 to R147) -/

/-- A record that may be evicted (R147). -/
def Message.evictable (m : Message) : Bool :=
  (m.read == .read || m.read == .replied) && m.priority == .normal
    && (m.receipt == .none || m.receipt == .sent)

/-- The record that a TEXT item creates (R145). -/
def newMessage (target : Target) (priority : Priority) (t : TextFields) (s : State) : Message :=
  { number := t.number, target := target, priority := priority, text := t.text, replies := t.replies
    arrival := timeOfDay s, read := .unread
    receipt := if target = .unit then .due else .none
    receiptCode := 0, chosen := none, outstanding := false }

/-- The record with a message number leaves the inbox. -/
def removeMessage (n : Nat) (s : State) : State :=
  { s with inbox := { s.inbox with messages := s.inbox.messages.filter fun m => !(m.number == n) } }

/-- A new message is stored as the last in arrival order, MESSAGE is raised, and its receipt is tested for
placement (R145). -/
def storeMessage (m : Message) (s : State) : State :=
  placeReceipts (raise .message { s with inbox := { s.inbox with messages := s.inbox.messages ++ [m] } })

/-- A new message is refused (R147). -/
def refuseMessage (s : State) : State :=
  raise .message { s with inbox := { s.inbox with
    fullCount := satAdd Config.max16 s.inbox.fullCount 1, refused := true } }

/-- A duplicate re-arms a receipt that was SENT or FAILED (R146). -/
def rearm (m : Message) : Message :=
  match m.receipt with
  | .sent | .failed => { m with receipt := .due }
  | .none | .due | .queued => m

/-- The inbox receives a TEXT item (R145 to R147). -/
def receiveText (target : Target) (priority : Priority) (t : TextFields) (s : State) : State :=
  match findMessage t.number s with
  | some _ => placeReceipts (updateMessage t.number rearm s)
  | none =>
      let m := newMessage target priority t s
      if s.inbox.messages.length < Config.inboxSize then storeMessage m s
      else
        match s.inbox.messages.find? Message.evictable with
        | some old => storeMessage m (removeMessage old.number s)
        | none => refuseMessage s

/-! ### The driver's answers (R150 to R152) -/

/-- The reply code is chosen and the record becomes REPLIED (R150). -/
def chooseReply (code : Nat) (m : Message) : Message := { m with chosen := some code, read := .replied }

/-- The RECEIPT entry of a record is WAITING, so that an amendment is taken (R28, R150). -/
def receiptAmendable (n : Nat) (s : State) : Bool :=
  match findEntry .receipt n s with
  | some e => e.state == .waiting
  | none => false

/-- A MESSAGE REPLY that passes its table: the route it takes and the state it leaves (R150). -/
def replyTo (m : Message) (code : Nat) (s : State) : ReplyRoute × State :=
  let s := updateMessage m.number (chooseReply code) s
  match m.receipt with
  | .due => (.new, updateMessage m.number (fun m => { m with receiptCode := code }) s)
  | .none | .sent | .failed =>
      (.new, placeReceipts
        (updateMessage m.number (fun m => { m with receiptCode := code, receipt := .due }) s))
  | .queued =>
      if receiptAmendable m.number s then
        (.merged, updateEntry .receipt m.number (fun e => { e with content := .code code })
          (updateMessage m.number (fun m => { m with receiptCode := code, outstanding := false }) s))
      else (.outstanding, updateMessage m.number (fun m => { m with outstanding := true }) s)

/-- The receipt state of a record as the reply gives it. -/
def receiptStateOf (n : Nat) (s : State) : ReceiptState := ((findMessage n s).map (·.receipt)).getD .none

/-- MESSAGE REPLY served (R150). -/
def serveMessageReply (a : ReplyArgs) (s : State) : State :=
  if ¬ (within 1 65535 a.number ∧ within 1 32 a.code) then answer .mrpl .badArg [] s
  else
    match findMessage a.number s with
    | none => answer .mrpl .notFound [] s
    | some m =>
        if ¬ m.replies.contains a.code then answer .mrpl .badArg [] s
        else
          let r := replyTo m a.code s
          answer .mrpl .ok [.name (receiptStateOf a.number r.2).code, .name r.1.code] r.2

/-- An UNREAD record becomes READ; any other keeps its read state (R151). -/
def markRead (m : Message) : Message := if m.read = .unread then { m with read := .read } else m

/-- MESSAGE MARK served (R151). -/
def serveMessageMark (n : Nat) (s : State) : State :=
  if ¬ within 1 65535 n then answer .mmrk .badArg [] s
  else if (findMessage n s).isNone then answer .mmrk .notFound [] s
  else answer .mmrk .ok [] (updateMessage n markRead s)

/-- MESSAGE DELETE served (R152). -/
def serveMessageDelete (n : Nat) (s : State) : State :=
  if ¬ within 1 65535 n then answer .mdel .badArg [] s
  else
    match findMessage n s with
    | none => answer .mdel .notFound [] s
    | some m =>
        if m.receipt = .queued then answer .mdel .pending [] s
        else answer .mdel .ok [] (removeMessage n s)

/-! ### Reading the inbox (R153) -/

/-- A record as the whole inbox lists it (R153). -/
def messageLine (m : Message) : List Field :=
  [.num 65535 m.number, .name m.target.messageCode, .name m.priority.code, .name m.read.code,
    .name m.receipt.code, .num 32 m.receiptCode]
  ++ optNum 32 m.chosen
  ++ [.flag m.outstanding, .time m.arrival, .num 160 m.text.length]

/-- The content of INBOX READ 0 (R153). -/
def inboxContent (s : State) : List Field :=
  [.num 16 s.inbox.messages.length, .num 16 (s.inbox.messages.countP fun m => m.read == .unread),
    .num 65535 s.inbox.fullCount, .flag s.inbox.refused]
  ++ s.inbox.messages.flatMap messageLine

/-- A record's place in arrival order, counted from 1. -/
def arrivalRank (n : Nat) (s : State) : Nat := s.inbox.messages.findIdx (·.number == n) + 1

/-- One record with every field of R143 (R153). -/
def messageContent (m : Message) (s : State) : List Field :=
  [.num 65535 m.number, .name m.target.messageCode, .name m.priority.code, .text m.text,
    .count m.replies.length]
  ++ m.replies.map (fun c => .num 32 c)
  ++ [.time m.arrival, .num 16 (arrivalRank m.number s), .name m.read.code, .name m.receipt.code,
      .num 32 m.receiptCode]
  ++ optNum 32 m.chosen
  ++ [.flag m.outstanding]

/-- INBOX READ served: the whole-inbox form clears the refusal mark (R153). -/
def serveInboxRead (n : Nat) (s : State) : State :=
  if ¬ within 0 65535 n then answer .ired .badArg [] s
  else if n = 0 then
    answer .ired .ok (inboxContent s) { s with inbox := { s.inbox with refused := false } }
  else
    match findMessage n s with
    | none => answer .ired .notFound [] s
    | some m => answer .ired .ok (messageContent m s) s

/-! ### Outbound messages (R154 to R156) -/

/-- A CANNED or FREETEXT entry is placed with the next ticket, and the next ticket advances (R155). Of a ticket
that comes round while an entry holds it: the same kind is the same item, the other kind is placed beside it
(DESIGN CHOICE, log entry 32). -/
def sendHostMessage (kind : EntryKind) (content : EntryContent) (s : State) : State :=
  let ticket := s.scheduler.nextTicket
  placeEntry kind ticket content none
    { s with scheduler := { s.scheduler with nextTicket := nextNumber 255 ticket } }

/-- SEND CANNED served (R156). -/
def serveSendCanned (n : Nat) (s : State) : State :=
  if ¬ within 1 32 n then answer .scan .badArg [] s
  else if cannedText s.store.working n = [] then answer .scan .refused [] s
  else if s.store.working.address = 0 then answer .scan .refused [] s
  else if standing .canned s ≥ EntryKind.canned.cap then answer .scan .full [] s
  else answer .scan .ok [.num 255 s.scheduler.nextTicket] (sendHostMessage .canned (.canned n) s)

/-- SEND TEXT served: the first 64 characters are carried (R156). -/
def serveSendText (t : Text) (s : State) : State :=
  if t = [] ∨ ¬ t.all printable then answer .stxt .badArg [] s
  else if s.store.working.address = 0 then answer .stxt .refused [] s
  else if standing .freetext s ≥ EntryKind.freetext.cap then answer .stxt .full [] s
  else
    answer .stxt .ok
      [.num 255 s.scheduler.nextTicket, .num 64 (min 64 t.length), .flag (decide (64 < t.length))]
      (sendHostMessage .freetext (.text (t.take 64)) s)

end Sys2Proof.Machine
end

