-- ==== Sys2Proof/Machine/Scheduler.lean ====
section
/-! DEFINITION. The uplink scheduler (chapter 2, R29 to R45): the items transmitted, the use of slots,
acknowledgement and failure at each report, deadlines, the status timer, the emergency beacons and
UPLINK STATUS. -/

namespace Sys2Proof.Machine

/-! ### Items built at transmission (R43, R162) -/

/-- Cab state of a STATUS: OFF 0, FREE 1, FREE_ASSIGNED 2, HIRED 3, STOPPED 4 (R43, R7). -/
def cabState (s : State) : Nat :=
  match s.meter.state with
  | .off => 0
  | .free => if (assignment s).isSome then 2 else 1
  | .hired => 3
  | .stopped => 4

/-- The STATUS item (R43). -/
def statusItem (s : State) : UplinkItem := .status (cabState s) s.locator.zone (assignment s)

/-- The newest fix with its age (R48). -/
def reportedFix (s : State) : Option ReportedFix :=
  s.locator.fix.map fun f => ⟨f.easting, f.northing, f.quality, secondsSince f.instant s⟩

/-- The EMERGENCY item (R162). -/
def emergencyItem (s : State) : UplinkItem :=
  .emergency (reportedFix s) s.locator.zone s.meter.state (currentFare s) (s.emergency.state == .covert)

/-- The item of an entry: STATUS and EMERGENCY are built now, the others carry their content (R7, R34). -/
def itemOf (e : Entry) (s : State) : UplinkItem :=
  match e.kind with
  | .status => statusItem s
  | .emergency => emergencyItem s
  | .claim => .claim e.key
  | .decline => .decline e.key
  | .receipt => .receipt e.key (match e.content with | .code c => c | _ => 0)
  | .canned => .canned (match e.content with | .canned n => n | _ => 0)
  | .freetext => .freetext (match e.content with | .text t => t | _ => [])
  | .tripReport =>
      match e.content with
      | .summary r => .tripReport r
      | _ => .freetext []

/-! ### Transmission (R34) -/

/-- An item goes on the air now. -/
def transmit (item : UplinkItem) (s : State) : State :=
  { s with receiver := { s.receiver with
      transmission := some ⟨s.store.working.address, item, s.now⟩ } }

/-- What a transmission in a slot of the current cycle records (R24, R34). -/
def sentNow (slot : Nat) (s : State) : SentAs :=
  ⟨slot, s.receiver.cycle.getD 0, s.store.working.address, s.now⟩

/-- An entry's item is transmitted: the entry becomes SENT, and a LONG one clears the outstanding slot
request (R30, R34). -/
def sendEntry (e : Entry) (slot : Nat) (s : State) : State :=
  let sent := sentNow slot s
  let t := transmit (itemOf e s) s
  let t := updateEntry e.kind e.key
    (fun x => { x with state := .sent, sentAs := some sent, grantWait := none }) t
  if e.kind.long then { t with scheduler := { t.scheduler with slotReq := none } } else t

/-- A SLOT_REQ is transmitted: the LONG entry it serves becomes REQUESTING and is named by the outstanding
slot request (R34). -/
def sendSlotReq (e : Entry) (slot : Nat) (s : State) : State :=
  let sent := sentNow slot s
  let t := transmit .slotReq s
  let t := updateEntry e.kind e.key (fun x => { x with state := .requesting, sentAs := some sent }) t
  { t with scheduler := { t.scheduler with slotReq := some (e.kind, e.key) } }

/-- A fill STATUS is transmitted and recorded (R30, R31). -/
def sendFill (slot : Nat) (s : State) : State :=
  let sent := sentNow slot s
  let t := transmit (statusItem s) s
  { t with scheduler := { t.scheduler with fill := some sent } }

/-- The cycle's contention transmission is made (R32). -/
def useContention (s : State) : State :=
  { s with scheduler := { s.scheduler with contentionUsed := true } }

/-- The EMERGENCY entry when it is WAITING. -/
def waitingEmergency (s : State) : Option Entry :=
  s.scheduler.queue.find? fun e => e.kind == .emergency && e.state == .waiting

/-- The LONG entry in AWAIT_GRANT. -/
def awaitingGrant (s : State) : Option Entry :=
  s.scheduler.queue.find? fun e => e.kind.long && e.state == .awaitGrant

/-- The highest-ranked WAITING SHORT entry. -/
def waitingShort (s : State) : Option Entry :=
  s.scheduler.queue.find? fun e => !e.kind.long && e.state == .waiting

/-- The candidate of a CONTENTION slot: the higher-ranked of the highest WAITING SHORT entry and, while the
outstanding slot request is empty, the highest WAITING LONG entry (R32). -/
def contentionCandidate (s : State) : Option Entry :=
  s.scheduler.queue.find? fun e =>
    e.state == .waiting && (!e.kind.long || s.scheduler.slotReq.isNone)

/-- The grant wait of every entry in AWAIT_GRANT restarts at 1 (R30, R39). -/
def restartGrantWait (s : State) : State :=
  { s with scheduler := { s.scheduler with
      queue := s.scheduler.queue.map fun e =>
        if e.state = .awaitGrant then { e with grantWait := some 1 } else e } }

/-- A slot granted to the part: the first case of R30 that applies. -/
def useGrant (slot : Nat) (s : State) : State :=
  match waitingEmergency s with
  | some e => restartGrantWait (sendEntry e slot s)
  | none =>
      match awaitingGrant s with
      | some e => sendEntry e slot s
      | none =>
          match waitingShort s with
          | some e => sendEntry e slot s
          | none => if s.receiver.watch = .full then sendFill slot s else s

/-- An EMERG_CONTENTION slot (R33). -/
def useEmergContention (slot : Nat) (s : State) : State :=
  if s.scheduler.contentionUsed then s
  else
    match waitingEmergency s with
    | some e => useContention (sendEntry e slot s)
    | none => s

/-- A CONTENTION slot, the world's draw being 0 to 15: the EMERGENCY entry goes with certainty, any other
candidate when the draw lies below the persistence (R32, R33). -/
def contendSlot (slot draw : Nat) (s : State) : State :=
  if s.scheduler.contentionUsed then s
  else
    match contentionCandidate s with
    | none => s
    | some e =>
        if e.kind = .emergency then useContention (sendEntry e slot s)
        else if draw < s.receiver.persistence then
          useContention (if e.kind.long then sendSlotReq e slot s else sendEntry e slot s)
        else s

/-- The conditions at a slot's start: sync LOCKED, VOICE_GRANT off, the voice state not PENDING, the unit
address set (R18, R29). -/
def mayTransmit (s : State) : Bool :=
  s.receiver.sync == .locked && !voiceGrant s && !(s.receiver.voice == .pending) && addressSet s

/-- The decision of the scheduler at the start of a slot (R29). -/
def useSlot (slot draw : Nat) (use : SlotUse) (s : State) : State :=
  if mayTransmit s then
    match use with
    | .idle => s
    | .contention => contendSlot slot draw s
    | .emergContention => useEmergContention slot s
    | .grant a => if a = s.store.working.address then useGrant slot s else s
  else s

/-- The start of a slot not yet begun, in a cycle with a slot map (R1, R29). -/
def slotDue (slot : Nat) (s : State) : Option Nat :=
  dueWhen (s.powered && s.receiver.slotMap.isSome && decide (s.receiver.nextSlot ≤ slot))
    (s.receiver.cycleStart + Config.slotBeginMs slot)

/-- A slot begins. -/
def beginSlot (slot draw : Nat) (s : State) : State :=
  let t := { s with receiver := { s.receiver with nextSlot := slot + 1 } }
  match s.receiver.slotMap with
  | none => t
  | some slots => useSlot slot draw (slots.getD slot .idle) t

/-- SLOT_START (R29). -/
def execSlotStart (slot : Fin 10) (draw : Fin 16) (s : State) : Host.Outcome State Fault Refusal :=
  .next (atInstant (slotDue slot.val s) (beginSlot slot.val draw.val) s)

/-- The transmission under way ends: the key is released, and a PENDING voice request is granted (R7, R19). -/
def endTransmission (s : State) : State :=
  let t := { s with receiver := { s.receiver with transmission := none } }
  if s.receiver.voice = .pending then setVoice .granted t else t

/-- TRANSMISSION_END (R19): told by the radio port when the transmission under way ends. -/
def execTransmissionEnd (s : State) : Host.Outcome State Fault Refusal :=
  .next (if s.powered ∧ s.receiver.transmission.isSome then endTransmission s else s)

/-! ### Acknowledgement (R36) -/

/-- A STATUS is heard: the status timer restarts, and one transmitted after the last 60 s parked mark sets
the parked-status mark (R41, R16). -/
def statusHeard (sent : Option SentAs) (s : State) : State :=
  let due :=
    match sent, s.scheduler.parkMark with
    | some t, some m => decide (m < t.instant)
    | _, _ => false
  { s with
    scheduler := { s.scheduler with statusSince := s.now }
    receiver := { s.receiver with parkedStatus := s.receiver.parkedStatus || due } }

/-- A pending regeneration is placed and its mark clears (R42). -/
def placeRegeneration (s : State) : State :=
  if s.scheduler.regenerate then
    placeEntry .status 0 .none none { s with scheduler := { s.scheduler with regenerate := false } }
  else s

/-- The effect of an acknowledgement by kind, the entry having left the queue (R36). -/
def acknowledged (e : Entry) (s : State) : State :=
  match e.kind with
  | .claim => claimHeard e.key s
  | .receipt => receiptHeard e.key s
  | .tripReport => tripReported e.key s
  | .emergency => reportHeard s
  | .canned | .freetext => addResult e.key e.kind true s
  | .status => placeRegeneration (statusHeard e.sentAs s)
  | .decline => s

/-- A heard transmission: a REQUESTING entry awaits its grant, a SENT entry is acknowledged (R35). -/
def entryHeard (e : Entry) (s : State) : State :=
  match e.state with
  | .requesting =>
      updateEntry e.kind e.key
        (fun x => { x with state := .awaitGrant, sentAs := none, grantWait := some 1 }) s
  | .sent => acknowledged e (dropEntry e.kind e.key s)
  | .waiting | .awaitGrant => s

/-! ### Failure (R37, R38) -/

/-- The effect of a failure by kind, the entry having left the queue (R38). -/
def failed (e : Entry) (s : State) : State :=
  match e.kind with
  | .claim => claimEnds e.key .claimFailed s
  | .receipt => receiptFailed e.key s
  | .tripReport => tripReportFailed e.key s
  | .canned | .freetext => addResult e.key e.kind false s
  | .status => { s with scheduler := { s.scheduler with regenerate := false } }
  | .decline | .emergency => s

/-- The outstanding slot request is cleared where it names an entry. -/
def clearSlotReq (kind : EntryKind) (key : Nat) (s : State) : State :=
  { s with scheduler := { s.scheduler with
      slotReq := if s.scheduler.slotReq = some (kind, key) then none else s.scheduler.slotReq } }

/-- An attempt is counted and the entry returns to WAITING, its transmission and wait cleared. -/
def backToWaiting (attempts : Nat) (x : Entry) : Entry :=
  { x with state := .waiting, attempts := attempts, sentAs := none, grantWait := none }

/-- The deadline of a CLAIM entry has passed: the uptime count has reached it (R40). -/
def deadlinePassed (e : Entry) (s : State) : Bool :=
  match e.deadline with
  | none => false
  | some d => decide (d * 1000 ≤ s.now)

/-- One attempt more: EMERGENCY saturates at 5, any other entry fails there; a CLAIM back in WAITING with
its deadline past is removed and its offer closes EXPIRED; a STATUS that returns clears the regeneration
mark (R37, R39, R40, R42). -/
def attemptLost (e : Entry) (s : State) : State :=
  let n := e.attempts + 1
  if e.kind = .emergency then
    updateEntry e.kind e.key (backToWaiting (min Config.maxAttempts n)) s
  else if n ≥ Config.maxAttempts then failed e (dropEntry e.kind e.key s)
  else
    let t := clearSlotReq e.kind e.key (updateEntry e.kind e.key (backToWaiting n) s)
    if e.kind = .claim ∧ deadlinePassed e t then expireClaim e.key t
    else if e.kind = .status then { t with scheduler := { t.scheduler with regenerate := false } }
    else t

/-! ### Reports (R35, R39) -/

/-- A transmission is heard when its cycle is the one the heard list refers to and the list holds its slot
and address (R35). -/
def inHeardList (previous : Nat) (heard : List HeardPair) (t : SentAs) : Bool :=
  t.cycle == previous && heard.contains ⟨t.slot, t.address⟩

/-- One entry at a report: SENT and REQUESTING entries are heard or not (R35). -/
def reportEntry (isHeard : SentAs → Bool) (s : State) (e : Entry) : State :=
  match e.state with
  | .sent | .requesting =>
      if (e.sentAs.map isHeard).getD false then entryHeard e s else attemptLost e s
  | .waiting | .awaitGrant => s

/-- An entry that was in AWAIT_GRANT before the report: its wait rises, or at 6 it gives up (R39). -/
def waitOn (s : State) (e : Entry) : State :=
  match e.state, e.grantWait with
  | .awaitGrant, some w =>
      if w ≥ Config.maxGrantWait then attemptLost e s
      else updateEntry e.kind e.key (fun x => { x with grantWait := some (w + 1) }) s
  | _, _ => s

/-- The fill record answers at the report and is cleared (R31). -/
def reportFill (isHeard : SentAs → Bool) (s : State) : State :=
  match s.scheduler.fill with
  | none => s
  | some f =>
      let t := { s with scheduler := { s.scheduler with fill := none } }
      if isHeard f then statusHeard (some f) t else t

/-- A header report or a miss report: the transmissions are matched, the fill record answers, and the entries
that were waiting for a grant wait on (R31, R35, R39). Several are answered in rank order of the queue, the fill
record after them and the grant waits last (DESIGN CHOICE, log entry 43). -/
def report (isHeard : SentAs → Bool) (s : State) : State :=
  let queue := s.scheduler.queue
  let t := queue.foldl (reportEntry isHeard) s
  let t := reportFill isHeard t
  queue.foldl waitOn t

/-- A header report (R3, R35): the heard list refers to the cycle numbered one less. -/
def headerReport (cycle : Nat) (heard : List HeardPair) (s : State) : State :=
  report (inHeardList ((cycle + (Config.cycleNumbers - 1)) % Config.cycleNumbers) heard) s

/-- A miss report: nothing is heard (R35). -/
def missReport (s : State) : State := report (fun _ => false) s

/-- Sync enters SEARCH: every entry in AWAIT_GRANT gives up its wait at once (R39). -/
def giveUpGrants (s : State) : State :=
  s.scheduler.queue.foldl (fun s e => if e.state = .awaitGrant then attemptLost e s else s) s

/-! ### Deadlines and timers (R40, R41) -/

/-- The deadline of a WAITING CLAIM entry. -/
def claimDeadlineDue (n : Nat) (s : State) : Option Nat :=
  match findEntry .claim n s with
  | none => none
  | some e => if s.powered ∧ e.state = .waiting then e.deadline.map (· * 1000) else none

/-- CLAIM_DEADLINE (R40): a WAITING claim is removed and its offer closes EXPIRED; a SENT one waits for its
heard list. -/
def execClaimDeadline (number : Nat) (s : State) : Host.Outcome State Fault Refusal :=
  .next (atInstant (claimDeadlineDue number s)
    (expireClaim number) s)

/-- The expiry of the status timer: its count reaches the interval kept from the headers. -/
def statusTimerDue (s : State) : Option Nat :=
  dueWhen s.powered (s.scheduler.statusSince + s.receiver.statusInterval * 1000)

/-- STATUS_TIMER_EXPIRY (R41): a STATUS is generated and the timer restarts from the expiry. -/
def execStatusTimerExpiry (s : State) : Host.Outcome State Fault Refusal :=
  .next (atInstant (statusTimerDue s)
    (fun s => generateStatus { s with scheduler := { s.scheduler with statusSince := s.now } }) s)

/-! ### Beacons (R44) -/

/-- The next beacon: 20 s into SEARCH, then 15 s after the last one. -/
def beaconInstant (s : State) : Nat :=
  match s.scheduler.lastBeacon with
  | none => s.receiver.searchSince + Config.beaconAfterMs
  | some t => t + Config.beaconEveryMs

/-- The emergency is not IDLE and sync is in SEARCH: the beacon timer runs. -/
def beaconRuns (s : State) : Bool := s.emergency.state != .idle && s.receiver.sync == .search

/-- A beacon falls due; one due in PENDING or GRANTED waits for that state to end. -/
def beaconDue (s : State) : Option Nat :=
  dueWhen (s.powered && beaconRuns s && !(s.receiver.voice == .pending) && !voiceGrant s) (beaconInstant s)

/-- A beacon falls: with the unit address set the EMERGENCY item goes on the air, outside any slot. -/
def sendBeacon (s : State) : State :=
  let t := { s with scheduler := { s.scheduler with lastBeacon := some s.now } }
  if addressSet s then transmit (emergencyItem s) t else t

/-- EMERGENCY_BEACON (R44). -/
def execEmergencyBeacon (s : State) : Host.Outcome State Fault Refusal :=
  .next (atInstant (beaconDue s) sendBeacon s)

/-! ### UPLINK STATUS (R45, R168) -/

/-- The entries reported to the host: while COVERT without the EMERGENCY entry (R168). -/
def shownQueue (s : State) : List Entry :=
  if s.emergency.state = .covert then s.scheduler.queue.filter fun e => !(e.kind == .emergency)
  else s.scheduler.queue

/-- The key of an entry whose kind has one (R24). -/
def Entry.shownKey (e : Entry) : Option Nat :=
  match e.kind with
  | .status | .emergency => none
  | .claim | .decline | .receipt | .canned | .freetext | .tripReport => some e.key

/-- One entry of UPLINK STATUS (R45). -/
def entryRecord (e : Entry) : List Field :=
  [.name e.kind.code, .name e.kind.cls.code, .name e.state.code, .num 5 e.attempts]
  ++ optNum 65535 e.shownKey
  ++ optNum Config.max32 e.deadline
  ++ optField [.num 9 0, .num 4095 0] (fun t => [.num 9 t.slot, .num 4095 t.cycle]) e.sentAs
  ++ optNum 6 e.grantWait

/-- Seconds until the next beacon: absent while the emergency is shown IDLE or sync is not in SEARCH (R45,
R168). -/
def beaconLeft (s : State) : Option Nat :=
  if s.emergency.state.open ∧ s.receiver.sync = .search then some (secondsUntil (beaconInstant s) s) else none

/-- One host result: CANNED 0 or FREETEXT 1, DELIVERED 0 or FAILED 1 (R45). -/
def resultRecord (r : HostResult) : List Field :=
  [.num 255 r.ticket, .name (if r.kind = .freetext then 1 else 0), .name (if r.delivered then 0 else 1)]

/-- The content of UPLINK STATUS (R45). -/
def uplinkContent (s : State) : List Field :=
  [.num 16 (shownQueue s).length]
  ++ (shownQueue s).flatMap entryRecord
  ++ optNum 65535 (s.scheduler.slotReq.map (·.2))
  ++ [.num 600 (min 600 ((s.now - s.scheduler.statusSince) / 1000)), .num 600 s.receiver.statusInterval,
      .flag s.scheduler.regenerate]
  ++ optNum 20 (beaconLeft s)
  ++ [.count s.scheduler.results.length]
  ++ s.scheduler.results.flatMap resultRecord

/-- UPLINK STATUS served: the reply carries the host-result list and empties it (R45). -/
def serveUplinkStatus (s : State) : State :=
  answer .uqst .ok (uplinkContent s) { s with scheduler := { s.scheduler with results := [] } }

end Sys2Proof.Machine
end

