-- ==== Sys2Proof/Machine/Receiver.lean ====
section
/-! DEFINITION. The channel receiver and sync tracker (chapter 1, R1 to R23): headers and the window, misses,
the time of day, the watch mode, the voice requests and LINK STATUS. -/

namespace Sys2Proof.Machine

/-! ### Judging a header (R2) -/

/-- A slot map as the receiver reads it: none where an entry is none of the four kinds (R2, R206). -/
def slotUses : List SlotField → Option (List SlotUse)
  | [] => some []
  | f :: fs =>
      match toSlotUse f, slotUses fs with
      | some u, some us => some (u :: us)
      | _, _ => none

/-- A pair of the heard list names a slot and a unit address (R2). -/
def pairOk (p : HeardPair) : Bool := within 0 9 p.slot && within 1 4094 p.address

/-- A persistence as corrected (R2). -/
def correctedPersistence (n : Nat) : Nat := if n = 0 then 1 else min 16 n

/-- A status interval as corrected (R2). -/
def correctedInterval (n : Nat) : Nat := if n = 0 then 120 else max 30 (min 600 n)

/-- A header found good: its fields as the receiver uses them (R2, R3). -/
structure GoodHeader where
  cycle : Nat
  time : TimeOfDay
  persistence : Nat
  statusInterval : Nat
  offersPaused : Bool
  slots : List SlotUse
  heard : List HeardPair
deriving DecidableEq, Repr

/-- The judgement of a header block against the fleet code setting: none when it is not good (R2). -/
def judgeHeader (h : HeaderBlock) (fleetCode : Nat) : Option GoodHeader :=
  match toDayType h.dayType, slotUses h.slots with
  | some day, some slots =>
      if h.checkOk ∧ h.fleetCode = fleetCode ∧ within 0 4095 h.cycle ∧ within 0 86399 h.second
          ∧ slots.length = 10 ∧ h.heard.length ≤ 10 ∧ h.heard.all pairOk then
        some { cycle := h.cycle, time := ⟨day, h.second⟩, persistence := correctedPersistence h.persistence
               statusInterval := correctedInterval h.statusInterval, offersPaused := h.offersPaused
               slots := slots, heard := h.heard }
      else none
  | _, _ => none

/-! ### Sync state (R12) -/

/-- The sync state becomes the one given; a change raises LINK (R12). -/
def setSync (new : Sync) (s : State) : State :=
  let t := { s with receiver := { s.receiver with sync := new } }
  if s.receiver.sync = new then t else raise .link t

/-! ### Taking a header (R3, R8, R9, R11) -/

/-- The cycle of a good header is a listened one: by the unit address of the choice that expected it, or, in
SEARCH, by the one in force (R15, R179; DESIGN CHOICE, log entry 50). -/
def headerListened (g : GoodHeader) (s : State) : Bool :=
  listened g.cycle (if s.receiver.sync = .search then s.store.working.address else s.receiver.listenAddress)

/-- The slot map that a good header installs: in SPARSE watch a cycle that is not listened to has none (R3,
R15). -/
def installedMap (g : GoodHeader) (s : State) : Option (List SlotUse) :=
  match s.receiver.watch with
  | .full => some g.slots
  | .sparse => if headerListened g s then some g.slots else none

/-- The receiver after a good header is taken at an instant: header instant, cycle number, time of day, kept
values, slot map, counts and the next expected header, which lies `span` cycles on; the cycle's items are
taken where its slot map is (R3, R4, R8, R9, R15). -/
def anchored (g : GoodHeader) (instant span : Nat) (map : Option (List SlotUse)) (r : Receiver) : Receiver :=
  { r with
    lastStretch := if r.sync = .search then 0 else r.stretches
    misses := 0
    cycleStart := instant
    expected := some (instant + span * Config.cycleMs)
    span := span
    windowOpen := false
    stretches := 0
    cycle := some g.cycle
    slotMap := map
    heard := g.heard
    nextSlot := 0
    itemsOpen := map.isSome
    itemCount := 0
    persistence := g.persistence
    statusInterval := g.statusInterval
    offersPaused := g.offersPaused
    time := some ⟨g.time, .header, instant⟩ }

/-- A good header is taken now: sync becomes LOCKED, the beacon timer stops where SEARCH is left, the cycle's
one contention transmission is free again, the listened cycles are chosen afresh, and the scheduler gets its
header report (R3, R8, R9, R15, R32, R44). The report follows the kept values: a STATUS it acknowledges restarts
the timer before a shorter interval can expire it (R41; DESIGN CHOICE, log entry 45). -/
def takeHeader (g : GoodHeader) (s : State) : State :=
  let t := { s with
    receiver := { anchored g s.now (predictedSpan g.cycle s) (installedMap g s) s.receiver with
      cycleListened := headerListened g s, listenAddress := s.store.working.address }
    scheduler := { s.scheduler with
      contentionUsed := false
      lastBeacon := if s.receiver.sync = .search then none else s.scheduler.lastBeacon } }
  headerReport g.cycle g.heard (setSync .locked t)

/-- A good header is taken in SEARCH, and in LOCKED or COAST while the window is open; any other only ends
the taking of the cycle's items (R4, R8, R9). -/
def hearHeader (g : GoodHeader) (s : State) : State :=
  if s.receiver.sync = .search ∨ s.receiver.windowOpen then takeHeader g s
  else { s with receiver := { s.receiver with itemsOpen := false } }

/-- A block arrives as a cycle header: one that is not good is treated as not received (R2). -/
def arriveHeader (h : HeaderBlock) (s : State) : State :=
  match judgeHeader h s.store.working.fleetCode with
  | none => s
  | some g => hearHeader g s

/-- CYCLE_HEADER (R2, R3, R8, R9, R11). -/
def execCycleHeader (h : HeaderBlock) (s : State) : Host.Outcome State Fault Refusal :=
  .next (whenPowered (arriveHeader h) s)

/-! ### The window (R9) -/

/-- The window opens 30 ms before the expected header instant. -/
def windowOpenDue (s : State) : Option Nat :=
  if s.powered ∧ ¬ s.receiver.windowOpen then s.receiver.expected.map (· - Config.windowMs) else none

/-- WINDOW_OPEN (R9). -/
def execWindowOpen (s : State) : Host.Outcome State Fault Refusal :=
  .next (atInstant (windowOpenDue s)
    (fun s => { s with receiver := { s.receiver with windowOpen := true, stretches := 0 } }) s)

/-- The close of the window after the stretches made so far. -/
def windowClose (r : Receiver) (p : Nat) : Nat :=
  p + Config.windowMs + r.stretches * Config.stretchMs

/-- A close of the open window that leaves a stretch to make. -/
def windowStretchDue (s : State) : Option Nat :=
  if s.powered ∧ s.receiver.windowOpen ∧ s.receiver.stretches < Config.maxStretches then
    s.receiver.expected.map (windowClose s.receiver)
  else none

/-- WINDOW_STRETCH (R9): the window is stretched by 20 ms. -/
def execWindowStretch (s : State) : Host.Outcome State Fault Refusal :=
  .next (atInstant (windowStretchDue s)
    (fun s => { s with receiver := { s.receiver with stretches := s.receiver.stretches + 1 } }) s)

/-- The close of the window after its fifth stretch. -/
def missedHeaderDue (s : State) : Option Nat :=
  if s.powered ∧ s.receiver.windowOpen ∧ s.receiver.stretches = Config.maxStretches then
    s.receiver.expected.map (windowClose s.receiver)
  else none

/-- The receiver after the header expected at p is missed: no slot map and no items, one miss more, the cycle
number advanced by the cycles spanned, and the cycle dated from p (R10). -/
def missed (p : Nat) (r : Receiver) : Receiver :=
  { r with
    slotMap := none
    itemsOpen := false
    windowOpen := false
    stretches := 0
    misses := r.misses + 1
    cycle := r.cycle.map fun c => (c + r.span) % Config.cycleNumbers
    cycleStart := p }

/-- The next header expected from the current cycle under the watch mode in force (R9, R10). -/
def expectNext (s : State) : State :=
  let span := predictedSpan (s.receiver.cycle.getD 0) s
  { s with receiver := { s.receiver with
      expected := some (s.receiver.cycleStart + span * Config.cycleMs), span := span
      listenAddress := s.store.working.address } }

/-- Sync enters SEARCH: the entry instant is recorded, nothing is expected, and the entries that wait for a
grant give up their wait (R8, R10, R39). -/
def enterSearch (s : State) : State :=
  giveUpGrants (setSync .search { s with receiver := { s.receiver with
    searchSince := s.now, expected := none, slotMap := none, windowOpen := false, stretches := 0 } })

/-- The state of sync after a miss that leaves the count where it stands: LOCKED goes to COAST, and the fourth
miss goes to SEARCH (R10). -/
def settleMiss (s : State) : State :=
  if s.receiver.sync = .locked then setSync .coast (expectNext s)
  else if s.receiver.misses ≥ Config.missesToSearch then enterSearch s
  else expectNext s

/-- A header is missed (R10). -/
def missHeader (s : State) : State :=
  match s.receiver.expected with
  | none => s
  | some p =>
      let t := missReport { s with receiver := missed p s.receiver }
      settleMiss { t with scheduler := { t.scheduler with contentionUsed := false } }

/-- MISSED_HEADER (R10). -/
def execMissedHeader (s : State) : Host.Outcome State Fault Refusal :=
  .next (atInstant (missedHeaderDue s) missHeader s)

/-! ### The watch modes (R15, R16) -/

/-- The 60 s mark of the park timer. -/
def parkMarkDue (s : State) : Option Nat :=
  if s.powered ∧ ¬ s.receiver.parkMarked then s.receiver.parkSince.map (· + Config.parkMs) else none

/-- The 60 s parked mark: its instant is kept and a STATUS generated (R16, R41). -/
def markParked (s : State) : State :=
  generateStatus { s with
    receiver := { s.receiver with parkMarked := true }
    scheduler := { s.scheduler with parkMark := some s.now } }

/-- PARK_TIMER_60_S (R16). -/
def execParkTimer60s (s : State) : Host.Outcome State Fault Refusal :=
  .next (atInstant (parkMarkDue s) markParked s)

/-- The conditions of SPARSE watch hold together (R16). -/
def sparseConditions (s : State) : Bool :=
  s.receiver.parkSince.isSome && s.receiver.parkMarked && s.receiver.parkedStatus
    && (s.meter.state == .off || (s.meter.state == .free && (assignment s).isNone))
    && s.emergency.state == .idle && s.scheduler.queue.isEmpty

/-- A test of the conditions is to be made and finds them all true: they are tested when one of them changes,
and a return to FULL watch that changed none holds the test back (R16; DEDUCED, log entry 51). -/
def maySparse (s : State) : Bool :=
  s.receiver.watch == .full && sparseConditions s && !s.receiver.sparseHeld

/-- The test of the SPARSE conditions: entered as soon as they hold. -/
def enterSparseDue (s : State) : Option Nat := dueWhen (s.powered && maySparse s) 0

/-- SPARSE watch is entered: the next expected header becomes the next listened cycle counted from the
current cycle number, and LINK is raised (R16). The slot map that a header taken in FULL watch installed stays
to the end of its cycle, listened or not (R15, R29; DESIGN CHOICE, log entry 42). -/
def enterSparse (s : State) : State :=
  let cycle := s.receiver.cycle.getD 0
  let address := s.store.working.address
  raise .link { s with receiver := reaim (cyclesToListened cycle address) { s.receiver with
    watch := .sparse, listenAddress := address, cycleListened := listened cycle address } }

/-- ENTER_SPARSE (R16). -/
def execEnterSparse (s : State) : Host.Outcome State Fault Refusal :=
  .next (atInstant (enterSparseDue s) enterSparse s)

/-! ### The time of day (R13) -/

/-- The next advance of the second of day. -/
def timeOfDayDue (s : State) : Option Nat :=
  if s.powered then s.receiver.time.map (fun t => t.since + 1000) else none

/-- One second later: after 86,399 the second becomes 0 and the day type is held (R13). -/
def nextSecond (t : RunningTime) : RunningTime :=
  { t with
    time := { t.time with second := if t.time.second ≥ 86399 then 0 else t.time.second + 1 }
    since := t.since + 1000 }

/-- TIME_OF_DAY_SECOND (R13). -/
def execTimeOfDaySecond (s : State) : Host.Outcome State Fault Refusal :=
  .next (atInstant (timeOfDayDue s)
    (fun s => { s with receiver := { s.receiver with time := s.receiver.time.map nextSecond } }) s)

/-! ### Voice requests (R19) -/

/-- A request asserted in IDLE: HELD while the emergency is ACTIVE, PENDING behind a transmission, GRANTED
otherwise; in any other voice state nothing changes (R19). -/
def requestVoice (s : State) : State :=
  match s.receiver.voice with
  | .idle => if s.emergency.state = .active then setVoice .held s else grantVoice s
  | .pending | .granted | .held | .blocked => s

/-- The VOICE_REQ pin takes a level. -/
def setVoiceReq (level : Bool) (s : State) : State :=
  { s with receiver := { s.receiver with voiceReq := level } }

/-- VOICE_REQ_ASSERTED (R18, R19): only a pin that was released becomes asserted. -/
def execVoiceReqAsserted (s : State) : Host.Outcome State Fault Refusal :=
  .next (if s.receiver.voiceReq then s else whenPowered requestVoice (setVoiceReq true s))

/-- VOICE_REQ_RELEASED (R19): the voice state becomes IDLE and the grant drops. -/
def execVoiceReqReleased (s : State) : Host.Outcome State Fault Refusal :=
  .next (if s.receiver.voiceReq then whenPowered (setVoice .idle) (setVoiceReq false s) else s)

/-! ### LINK STATUS (R22) -/

/-- The content of LINK STATUS (R22). -/
def linkContent (s : State) : List Field :=
  let r := s.receiver
  [.name r.sync.code]
  ++ optNum 4095 r.cycle
  ++ [.num 5 r.lastStretch, .num 4 r.misses,
      .num 65535 (if r.sync = .search then secondsSince r.searchSince s else 0), .name r.watch.code]
  ++ optNum 65535 (r.parkSince.map fun t => secondsSince t s)
  ++ [.flag r.parkedStatus, .time (timeOfDay s)]
  ++ optName (r.time.map (·.source.code))
  ++ [.num 16 r.persistence, .num 600 r.statusInterval, .flag r.offersPaused, .name r.voice.code,
      .num 4094 s.store.working.address]

end Sys2Proof.Machine
end

