-- ==== Sys2Proof/Machine/Items.lean ====
section
/-! DEFINITION. Downlink items (R4 to R6, R207): when an item is taken, the checks of each kind, what each
owner does with it, and the remote reset (R20, R21). -/

namespace Sys2Proof.Machine

/-! ### Taking an item (R4, R5, R6) -/

/-- The receiver decodes the current cycle: it has taken the cycle's header, no later header has gone by, the
cycle is not over, and in SPARSE watch it is a listened one (R4, R15; DESIGN CHOICE, log entry 17). -/
def decoding (s : State) : Bool :=
  s.receiver.sync == .locked && s.receiver.itemsOpen
    && decide (s.now < s.receiver.cycleStart + Config.cycleMs)
    && (s.receiver.watch == .full || s.receiver.cycleListened)

/-- An item block is received: it passes its check, in a cycle that is decoded and has carried fewer than
eight (R4). -/
def itemReceived (head : ItemHead) (s : State) : Bool :=
  decoding s && head.checkOk && decide (s.receiver.itemCount < 8)

/-- The block counts among the eight of its cycle (R4). -/
def countItem (s : State) : State :=
  { s with receiver := { s.receiver with itemCount := s.receiver.itemCount + 1 } }

/-- The filter by target: a UNIT item must name the unit address, which must be set; a ZONE item a zone
1 to 250, and for an OFFER one of the served set; an ALL item passes (R5, R6). -/
def targetPasses (offer : Bool) (target : Target) (value : Nat) (s : State) : Bool :=
  match target with
  | .all => true
  | .zone => within 1 250 value && (!offer || (servedSet s).contains value)
  | .unit => decide (s.store.working.address ≠ 0) && value == s.store.working.address

/-- The kinds whose target must be UNIT (R5). -/
def unitOnly (target : Target) : Bool := target == .unit

/-- Kinds that take any target (R5). -/
def anyTarget (_ : Target) : Bool := true

/-- The target of an item that passes R5 and R6, `fieldsOk` saying that its fields lie in their ranges. -/
def passes (head : ItemHead) (fieldsOk : Bool) (allowed : Target → Bool) (offer : Bool) (s : State) :
    Option Target :=
  match toTarget head.target with
  | none => none
  | some g =>
      if head.encodingOk && fieldsOk && allowed g && targetPasses offer g head.value s then some g else none

/-- A UNIT item returns SPARSE watch to FULL; conditions of SPARSE watch that hold on are not tested again
until one of them changes (R17, R16; DEDUCED, log entry 51). -/
def returnHeld (s : State) : State :=
  match s.receiver.watch with
  | .full => s
  | .sparse =>
      let t := returnToFull s
      { t with receiver := { t.receiver with sparseHeld := sparseConditions t } }

/-- A downlink item arrives: one that is not received or does not pass is discarded; one that passes goes to
its owner, and a UNIT item then returns SPARSE watch to FULL (R4, R5, R6, R17). -/
def takeItem (head : ItemHead) (fieldsOk : Bool) (allowed : Target → Bool) (offer : Bool)
    (hand : Target → State → State) (s : State) : State :=
  if s.powered && itemReceived head s then
    match passes head fieldsOk allowed offer s with
    | none => countItem s
    | some g =>
        let t := hand g (countItem s)
        if g = .unit then returnHeld t else t
  else s

/-! ### The kinds (R5) -/

/-- The fields of an OFFER lie in their ranges (R5). -/
def offerFieldsOk (o : OfferFields) : Bool :=
  within 1 65535 o.number && (toClass o.cls).isSome && (toBool o.nextJob).isSome
    && within 1 250 o.pickup && within 5 255 o.timeToLive
    && (match o.text with | none => true | some t => decide (t.length ≤ 40) && t.all printable)
    && (match o.estimate with | none => true | some n => decide (n ≤ Config.maxFare))

/-- The board receives the fields of an OFFER. -/
def handOffer (o : OfferFields) (target : Target) (s : State) : State :=
  receiveOffer target ((toClass o.cls).getD .street) ((toBool o.nextJob).getD false) o s

/-- OFFER (R5, R6, R71, R72). -/
def execOffer (head : ItemHead) (o : OfferFields) (s : State) : Host.Outcome State Fault Refusal :=
  .next (takeItem head (offerFieldsOk o) anyTarget true (handOffer o) s)

/-- WITHDRAW (R84). -/
def execWithdraw (head : ItemHead) (number : Nat) (s : State) : Host.Outcome State Fault Refusal :=
  .next (takeItem head (within 1 65535 number) anyTarget false (fun _ => receiveWithdraw number) s)

/-- AWARD (R80). -/
def execAward (head : ItemHead) (number : Nat) (s : State) : Host.Outcome State Fault Refusal :=
  .next (takeItem head (within 1 65535 number) unitOnly false (fun _ => receiveAward number) s)

/-- LOST (R83). -/
def execLost (head : ItemHead) (number : Nat) (s : State) : Host.Outcome State Fault Refusal :=
  .next (takeItem head (within 1 65535 number) unitOnly false (fun _ => receiveLost number) s)

/-- The fields of a TEXT lie in their ranges (R5). -/
def textFieldsOk (t : TextFields) : Bool :=
  within 1 65535 t.number && (toPriority t.priority).isSome && within 1 160 t.text.length
    && t.text.all printable && decide (t.replies.length ≤ 4) && t.replies.all (within 1 32)

/-- The inbox receives the fields of a TEXT. -/
def handText (t : TextFields) (target : Target) (s : State) : State :=
  receiveText target ((toPriority t.priority).getD .normal) t s

/-- TEXT (R145). -/
def execText (head : ItemHead) (t : TextFields) (s : State) : Host.Outcome State Fault Refusal :=
  .next (takeItem head (textFieldsOk t) anyTarget false (handText t) s)

/-- PAGE (R20): the return to FULL watch is the one every UNIT item makes. -/
def execPage (head : ItemHead) (s : State) : Host.Outcome State Fault Refusal :=
  .next (takeItem head true unitOnly false (fun _ s => s) s)

/-- EMERG_ACK (R164). -/
def execEmergAck (head : ItemHead) (s : State) : Host.Outcome State Fault Refusal :=
  .next (takeItem head true unitOnly false (fun _ => receiveEmergAck) s)

/-- STAND_DOWN (R165). -/
def execStandDown (head : ItemHead) (s : State) : Host.Outcome State Fault Refusal :=
  .next (takeItem head true unitOnly false (fun _ => receiveStandDown) s)

/-! ### Remote reset (R21) -/

/-- The effect that the emptying of the queue has on one entry: a TRIP_REPORT's record returns to UNREPORTED,
a host message is reported FAILED (R21, R46). -/
def emptyEntry (s : State) (e : Entry) : State :=
  match e.kind.origin with
  | .tripLog => tripReportEmptied e.key s
  | .host => addResult e.key e.kind false s
  | .offerBoard | .messageInbox | .scheduler | .emergencyController => s

/-- The uplink queue is emptied, with the outstanding slot request, the fill record, the regeneration mark
and the instant of the last parked mark; the FAILED results join in rank order of the queue (R21, R46; DESIGN
CHOICE, log entry 44). -/
def emptyQueue (s : State) : State :=
  let t := s.scheduler.queue.foldl emptyEntry s
  { t with scheduler := { t.scheduler with
      queue := [], slotReq := none, regenerate := false, fill := none, parkMark := none } }

/-- Sync goes to SEARCH, with no slot map and nothing expected; the rest of the cycle's items are discarded
(R21, R23). -/
def loseSync (s : State) : State :=
  setSync .search { s with receiver := { s.receiver with
    searchSince := if s.receiver.sync = .search then s.receiver.searchSince else s.now
    expected := none, slotMap := none, windowOpen := false, stretches := 0, itemsOpen := false } }

/-- The zone locator loses its fix and zone; ZONE is raised where the zone, the served set or the fix
condition changes (R21, R57). -/
def loseZone (s : State) : State :=
  let t := { s with locator := { s.locator with
    fix := none, zone := 0, record := none, condition := .lost, candidate := none } }
  if s.locator.zone ≠ 0 ∨ servedSet s ≠ [] ∨ s.locator.condition ≠ .lost then raise .zone t else t

/-- The parked-status mark clears, and the park timer restarts if the ignition is off (R21). -/
def restartPark (s : State) : State :=
  if s.panel.ignition = .off then
    { s with receiver := { s.receiver with
        parkedStatus := false, parkSince := some s.now, parkMarked := false, sparseHeld := false } }
  else { s with receiver := { s.receiver with parkedStatus := false, sparseHeld := false } }

/-- The voice handshake waits for the release of a request that stands (R19, R21). -/
def blockVoice (s : State) : State := setVoice (if s.receiver.voiceReq then .blocked else .idle) s

/-- The host-reset line is pulsed when the setting asks for it (R21). -/
def pulseHost (s : State) : State :=
  if s.store.working.resetReachesHost then { s with link := { s.link with hostReset := some s.now } } else s

/-- A REMOTE_RESET taken: ignored while the emergency is not IDLE, else the list of R21. -/
def remoteReset (s : State) : State :=
  match s.emergency.state with
  | .idle =>
      let s := emptyQueue (loseSync s)
      let s := { s with
        board := resetBoard, inbox := resetInbox, store := { s.store with level := 0 } }
      let s := restartPark (returnToFull (loseZone s))
      pulseHost (blockVoice s)
  | .active | .acknowledged | .covert => s

/-- REMOTE_RESET (R21). -/
def execRemoteReset (head : ItemHead) (s : State) : Host.Outcome State Fault Refusal :=
  .next (takeItem head true unitOnly false (fun _ => remoteReset) s)

/-- The end of the pulse. -/
def hostResetDue (s : State) : Option Nat :=
  if s.powered then s.link.hostReset.map (· + Config.hostResetMs) else none

/-- HOST_RESET_PULSE_END (R21). -/
def execHostResetPulseEnd (s : State) : Host.Outcome State Fault Refusal :=
  .next (atInstant (hostResetDue s) (fun s => { s with link := { s.link with hostReset := none } }) s)

end Sys2Proof.Machine
end

