-- ==== Sys2Proof/Machine/Locator.lean ====
section
/-! DEFINITION. The zone locator (chapter 3, R47 to R56): fixes and their lookup, the hysteresis, the ages of
the fix condition, and the zone table with its requests. -/

namespace Sys2Proof.Machine

/-! ### Lookup (R51) -/

/-- A rectangle contains a point (R51). -/
def Rect.contains (r : Rect) (easting northing : Nat) : Bool :=
  within r.west r.east easting && within r.south r.north northing

/-- The record that a rectangle at a table position gives (R52). -/
def recordOf (position : Nat) (r : Rect) : ZoneRecord := ⟨r.zone, position, r.area, r.adjacent⟩

/-- The first rectangle of the positions from `position` on that contains the point (R51). -/
def lookupFrom (easting northing : Nat) : Nat → List (Option Rect) → Option ZoneRecord
  | _, [] => none
  | position, none :: rest => lookupFrom easting northing (position + 1) rest
  | position, some r :: rest =>
      if r.contains easting northing then some (recordOf position r)
      else lookupFrom easting northing (position + 1) rest

/-- Lookup of a point in the working zone table: none is zone 0 with no rectangle (R51). -/
def lookup (easting northing : Nat) (s : State) : Option ZoneRecord :=
  lookupFrom easting northing 0 s.store.working.zones

/-- The zone number of a lookup result (R51). -/
def resultZone (r : Option ZoneRecord) : Nat := (r.map (·.zone)).getD 0

/-! ### Changes (R55) -/

/-- The offer board is told of a change of the served set since `before`, where it differs as a set (R55). -/
def tellBoard (before : List Nat) (s : State) : State := if servedSet s = before then s else refilter s

/-- The current zone becomes one of a lookup result: ZONE, a STATUS, and the board told (R52, R55). -/
def changeZone (record : Option ZoneRecord) (s : State) : State :=
  let before := servedSet s
  tellBoard before (generateStatus (raise .zone { s with locator := { s.locator with
    zone := resultZone record, record := record, candidate := none } }))

/-- The zone record is refreshed with the current zone kept; a change of it raises ZONE and tells the board
(R52, R55). -/
def refreshRecord (record : Option ZoneRecord) (s : State) : State :=
  let before := servedSet s
  let t := { s with locator := { s.locator with record := record, candidate := none } }
  if record = s.locator.record then t else tellBoard before (raise .zone t)

/-- A lookup result is applied to the current zone (R52). -/
def applyLookup (record : Option ZoneRecord) (s : State) : State :=
  let zone := resultZone record
  if zone = s.locator.zone then refreshRecord record s
  else if s.locator.candidate = some zone then changeZone record s
  else { s with locator := { s.locator with candidate := some zone } }

/-! ### Fixes (R47) -/

/-- The newest fix is replaced; from STALE or LOST the candidate clears and the condition returns to FRESH
with ZONE (R47, R55). -/
def storeFix (f : Fix) (s : State) : State :=
  let t := { s with locator := { s.locator with
    fix := some f, condition := .fresh
    candidate := if s.locator.condition = .fresh then s.locator.candidate else none } }
  if s.locator.condition = .fresh then t else raise .zone t

/-- Qualities of a POSITION: NONE, 2D, 3D; none where the byte is outside the listing (POSITION). -/
def toQuality : Nat → Option (Option Quality)
  | 0 => some none | 1 => some (some .twoD) | 2 => some (some .threeD) | _ => none

/-- POSITION served (R47). -/
def servePosition (a : PositionArgs) (s : State) : State :=
  if ¬ (within 0 9999999 a.easting ∧ within 0 9999999 a.northing) then answer .posn .badArg [] s
  else
    match toQuality a.quality with
    | none => answer .posn .badArg [] s
    | some none => answer .posn .ok ([.flag false] ++ optNum 250 none ++ [.num 250 s.locator.zone]) s
    | some (some q) =>
        let record := lookup a.easting a.northing s
        let t := applyLookup record (storeFix ⟨a.easting, a.northing, q, s.now⟩ s)
        answer .posn .ok
          ([.flag true] ++ optNum 250 (some (resultZone record)) ++ [.num 250 t.locator.zone]) t

/-! ### The age of the fix (R53) -/

/-- An age of the newest fix, while the condition is the one it ends. -/
def fixAgeDue (condition : FixCondition) (age : Nat) (s : State) : Option Nat :=
  if s.powered ∧ s.locator.condition = condition then s.locator.fix.map (·.instant + age) else none

/-- The condition becomes STALE: zone and record are held, the candidate clears, ZONE is raised (R53, R55). -/
def makeStale (s : State) : State :=
  raise .zone { s with locator := { s.locator with condition := .stale, candidate := none } }

/-- FIX_STALE (R53). -/
def execFixStale (s : State) : Host.Outcome State Fault Refusal :=
  .next (atInstant (fixAgeDue .fresh Config.fixStaleMs s) makeStale s)

/-- The condition becomes LOST: the current zone falls to 0 and its record empties, the fix is kept (R53, R55). -/
def makeLost (s : State) : State :=
  let t := { s with locator := { s.locator with condition := .lost } }
  if s.locator.zone = 0 then
    raise .zone { t with locator := { t.locator with record := none, candidate := none } }
  else changeZone none t

/-- FIX_LOST (R53). -/
def execFixLost (s : State) : Host.Outcome State Fault Refusal :=
  .next (atInstant (fixAgeDue .stale Config.fixLostMs s) makeLost s)

/-! ### The zone table (R49 to R51) -/

/-- The last position of the zone table. -/
abbrev lastPosition : Nat := 63

/-- The working settings changed by a function. -/
def updateWorking (f : Settings → Settings) (s : State) : State :=
  { s with store := { s.store with working := f s.store.working } }

/-- The load pointer moves. -/
def setPointer (n : Nat) (s : State) : State := { s with locator := { s.locator with loadPointer := n } }

/-- One rectangle is written at the load pointer, which then advances by one and stays at 63 (R50). -/
def loadRect (s : State) (r : Rect) : State :=
  setPointer (min lastPosition (s.locator.loadPointer + 1))
    (updateWorking (fun w => { w with zones := w.zones.set s.locator.loadPointer (some r) }) s)

/-- A bound of the fleet grid (R49). -/
def isBound (n : Nat) : Bool := within 0 9999999 n

/-- A rectangle that lies in the ranges of R49. -/
def toRect (r : RectArgs) : Option Rect :=
  match toArea r.area with
  | none => none
  | some area =>
      if isBound r.west && isBound r.south && isBound r.east && isBound r.north
          && decide (r.west ≤ r.east) && decide (r.south ≤ r.north) && within 1 250 r.zone
          && decide (r.adjacent.length ≤ 4) && r.adjacent.all (within 1 250) then
        some ⟨r.west, r.south, r.east, r.north, r.zone, area, r.adjacent⟩
      else none

/-- The rectangles of a ZONE LOAD, none where any fails its checks (R50). -/
def toRects : List RectArgs → Option (List Rect)
  | [] => some []
  | r :: rs =>
      match toRect r, toRects rs with
      | some x, some xs => some (x :: xs)
      | _, _ => none

/-- ZONE LOAD served: an area byte outside its encoding is answered BAD_ARG whatever the table says (R204),
then the table's causes in their order (R50). -/
def serveZoneLoad (l : List RectArgs) (s : State) : State :=
  if l.any (fun r => (toArea r.area).isNone) then answer .zlod .badArg [] s
  else if s.store.level < 1 then answer .zlod .level [] s
  else if ¬ within 1 4 l.length then answer .zlod .badArg [] s
  else
    match toRects l with
    | none => answer .zlod .badArg [] s
    | some rects =>
        let t := rects.foldl loadRect s
        answer .zlod .ok [.num lastPosition t.locator.loadPointer] t

/-- ZONE POINT served (R50). -/
def serveZonePoint (n : Nat) (s : State) : State :=
  if s.store.level < 1 then answer .zpnt .level [] s
  else if ¬ within 0 lastPosition n then answer .zpnt .badArg [] s
  else answer .zpnt .ok [] (setPointer n s)

/-- ZONE CLEAR served (R50). -/
def serveZoneClear (s : State) : State :=
  if s.store.level < 1 then answer .zclr .level [] s
  else
    answer .zclr .ok []
      (setPointer 0 (updateWorking (fun w => { w with zones := List.replicate 64 none }) s))

/-- Positions of the working zone table that hold a rectangle (R51, R56). -/
def positionsUsed (s : State) : Nat := s.store.working.zones.countP (·.isSome)

/-- One table position as ZONE READ gives it: the fields of R49, or the mark "empty" (R51; an empty position
stands as an absent record). -/
def positionFields : Option Rect → List Field :=
  optField
    [.num 9999999 0, .num 9999999 0, .num 9999999 0, .num 9999999 0, .num 250 0, .name 0, .count 0]
    fun r =>
      [.num 9999999 r.west, .num 9999999 r.south, .num 9999999 r.east, .num 9999999 r.north,
        .num 250 r.zone, .name r.area.code, .count r.adjacent.length]
      ++ r.adjacent.map fun z => .num 250 z

/-- The content of ZONE READ (R51). -/
def zoneReadContent (a : ZoneReadArgs) (s : State) : List Field :=
  [.num lastPosition s.locator.loadPointer, .num 64 (positionsUsed s), .count a.count]
  ++ ((s.store.working.zones.drop a.first).take a.count).flatMap positionFields

/-- ZONE READ served (R51). -/
def serveZoneRead (a : ZoneReadArgs) (s : State) : State :=
  if ¬ (within 0 lastPosition a.first ∧ within 1 8 a.count) then answer .zred .badArg [] s
  else if a.first + a.count - 1 > lastPosition then answer .zred .badArg [] s
  else answer .zred .ok (zoneReadContent a s) s

/-! ### ZONE STATUS (R56) -/

/-- The content of ZONE STATUS (R56). The candidate's confirmation count is sent as a byte of its own, 1, or 0 when
absent (DEDUCED, log entry 24). -/
def zoneContent (s : State) : List Field :=
  let l := s.locator
  [.num 250 l.zone, .name l.condition.code]
  ++ optNum 63 (l.record.map (·.position))
  ++ [.count (servedSet s).length] ++ (servedSet s).map (fun z => .num 250 z)
  ++ [.name (tariffArea s).code]
  ++ optField [.num 250 0, .num 1 0] (fun z => [.num 250 z, .num 1 1]) l.candidate
  ++ optField [.num 9999999 0, .num 9999999 0, .name 0]
      (fun f => [.num 9999999 f.easting, .num 9999999 f.northing, .name f.quality.code]) l.fix
  ++ optNum 65535 (l.fix.map fun f => secondsSince f.instant s)
  ++ [.num 64 (positionsUsed s), .num lastPosition l.loadPointer]

end Sys2Proof.Machine
end

