-- ==== Sys2Proof/Machine/Panel.lean ====
section
/-! DEFINITION. The panel scanner (chapter 4, R58 to R66): debouncing, key states and the routing of presses,
the PANIC hold, stuck keys, the ignition line, the odometer pulses and PANEL STATUS. -/

namespace Sys2Proof.Machine

/-! ### Keys by name -/

/-- A key's line. -/
def KeyLines.get (k : KeyLines) : Key → KeyLine
  | .hire => k.hire | .stop => k.stop | .free => k.free | .extra => k.extra
  | .accept => k.accept | .panic => k.panic

/-- The lines with a key's line replaced. -/
def KeyLines.put (k : KeyLines) (key : Key) (x : KeyLine) : KeyLines :=
  match key with
  | .hire => { k with hire := x }
  | .stop => { k with stop := x }
  | .free => { k with free := x }
  | .extra => { k with extra := x }
  | .accept => { k with accept := x }
  | .panic => { k with panic := x }

/-- A key's line of the state. -/
def keyLine (k : Key) (s : State) : KeyLine := s.panel.keys.get k

/-- A key's line changed by a function. -/
def updateKey (k : Key) (f : KeyLine → KeyLine) (s : State) : State :=
  { s with panel := { s.panel with keys := s.panel.keys.put k (f (keyLine k s)) } }

/-! ### Raw levels (R58) -/

/-- A raw level with the instant of its change: an unchanged level is no change. -/
def rawKey (level : Bool) (now : Nat) (x : KeyLine) : KeyLine :=
  if x.raw = level then x else { x with raw := level, rawSince := now }

/-- The raw level of an input becomes the one given; a change starts its 30 ms afresh. One at the very instant
that ends the 30 ms of the level before, taken ahead of its recognition, leaves that level unrecognised (R58;
DESIGN CHOICE, log entry 46). -/
def changeRaw (i : Input) (level : Bool) (s : State) : State :=
  match i with
  | .key k => updateKey k (rawKey level s.now) s
  | .ignition =>
      if s.panel.ignitionRaw = level then s
      else { s with panel := { s.panel with ignitionRaw := level, ignitionSince := s.now } }

/-- INPUT_RAW_CHANGE (R58): the pin follows the world with or without power. -/
def execInputRawChange (i : Input) (high : Bool) (s : State) : Host.Outcome State Fault Refusal :=
  .next (changeRaw i high s)

/-- The recognition instant of a key's raw level (R58). -/
def recognised (k : Key) (s : State) : Nat := (keyLine k s).rawSince + Config.debounceMs

/-- The recognition instant of the ignition line's raw level (R58). -/
def ignitionRecognised (s : State) : Nat := s.panel.ignitionSince + Config.debounceMs

/-! ### First recognised levels (R58, R59, R64) -/

/-- The first recognised level of an input that is UNSETTLED. -/
def firstLevelDue (i : Input) (s : State) : Option Nat :=
  match i with
  | .key k => dueWhen (s.powered && (keyLine k s).state == .unsettled) (recognised k s)
  | .ignition => dueWhen (s.powered && s.panel.ignition == .unsettled) (ignitionRecognised s)

/-- A key's first level: up is UP, down is HELD_AT_START with its hold started now (R59). -/
def settleKey (now : Nat) (x : KeyLine) : KeyLine :=
  if x.raw then { x with state := .heldAtStart, holdSince := some now } else { x with state := .up }

/-- The receiver starts its park timer (R16). -/
def startPark (s : State) : State :=
  { s with receiver := { s.receiver with parkSince := some s.now, parkMarked := false, sparseHeld := false } }

/-- The first level of an input is recognised: an ignition line found off starts the park timer (R59, R64). -/
def settleInput (i : Input) (s : State) : State :=
  match i with
  | .key k => updateKey k (settleKey s.now) s
  | .ignition =>
      if s.panel.ignitionRaw then { s with panel := { s.panel with ignition := .on } }
      else startPark { s with panel := { s.panel with ignition := .off } }

/-- FIRST_RECOGNISED_LEVEL (R59). -/
def execFirstRecognisedLevel (i : Input) (s : State) : Host.Outcome State Fault Refusal :=
  .next (atInstant (firstLevelDue i s) (settleInput i) s)

/-! ### Presses (R59 to R61) -/

/-- The recognition of a press: the raw level is down and the key UP. -/
def pressDue (k : Key) (s : State) : Option Nat :=
  dueWhen (s.powered && (keyLine k s).raw && (keyLine k s).state == .up) (recognised k s)

/-- The key becomes DOWN and its hold starts (R59). -/
def downKey (now : Nat) (x : KeyLine) : KeyLine := { x with state := .down, holdSince := some now }

/-- The block's answer to a press is recorded with its reason, and KEY is raised (R61). -/
def recordKey (k : Key) (answer : Option Reason × State) : State :=
  raise .key { answer.2 with panel := { answer.2.panel with
    lastKey := some ⟨k, answer.1, uptime answer.2⟩ } }

/-- A press is routed: HIRE, STOP, FREE and EXTRA to the meter engine, ACCEPT to the offer board; PANIC starts
a hold with the arming mark clear (R60, R62). -/
def routePress (k : Key) (s : State) : State :=
  match k with
  | .hire => recordKey .hire (pressMeter .hire s)
  | .stop => recordKey .stop (pressMeter .stop s)
  | .free => recordKey .free (pressMeter .free s)
  | .extra => recordKey .extra (pressMeter .extra s)
  | .accept => recordKey .accept (acceptPress s)
  | .panic => { s with panel := { s.panel with panicArmed := false } }

/-- A press is recognised. -/
def pressKey (k : Key) (s : State) : State := routePress k (updateKey k (downKey s.now) s)

/-- KEY_PRESS (R60). -/
def execKeyPress (k : Key) (s : State) : Host.Outcome State Fault Refusal :=
  .next (atInstant (pressDue k s) (pressKey k) s)

/-! ### Releases, the PANIC hold and stuck keys (R59, R62, R63) -/

/-- A key state that a release ends. -/
def KeyState.pressed : KeyState → Bool
  | .down | .heldAtStart | .stuck => true
  | .unsettled | .up => false

/-- The recognition of a release: the raw level is up and the key DOWN, HELD_AT_START or STUCK. -/
def releaseDue (k : Key) (s : State) : Option Nat :=
  dueWhen (s.powered && !(keyLine k s).raw && (keyLine k s).state.pressed) (recognised k s)

/-- The key becomes UP and its hold stops; a PANIC hold leaves no arming mark (R59, R62). -/
def releaseKey (k : Key) (s : State) : State :=
  let t := updateKey k (fun x => { x with state := .up, holdSince := none }) s
  if k = .panic then { t with panel := { t.panel with panicArmed := false } } else t

/-- The hold of PANIC in DOWN reaches 1.5 s with the arming mark clear. -/
def panicDue (s : State) : Option Nat :=
  if s.powered ∧ s.panel.keys.panic.state = .down ∧ ¬ s.panel.panicArmed then
    s.panel.keys.panic.holdSince.map (· + Config.panicMs)
  else none

/-- The arming mark is set and the emergency controller gets one PANEL arming (R62). -/
def armPanic (s : State) : State := arm .panel { s with panel := { s.panel with panicArmed := true } }

/-- PANIC_ARMING (R62). -/
def execPanicArming (s : State) : Host.Outcome State Fault Refusal :=
  .next (atInstant (panicDue s) armPanic s)

/-- The hold of PANIC reached 1.5 s unarmed, and its release was not recognised before that instant (R62). -/
def armsFirst (s : State) : Bool :=
  match panicDue s with
  | none => false
  | some d => decide (d ≤ recognised .panic s)

/-- A release is recognised: a PANIC hold that reached 1.5 s by then arms first (R59, R62). -/
def endHold (k : Key) (s : State) : State :=
  if k = .panic ∧ armsFirst s then releaseKey k (armPanic s) else releaseKey k s

/-- KEY_RELEASE (R59, R62). -/
def execKeyRelease (k : Key) (s : State) : Host.Outcome State Fault Refusal :=
  .next (atInstant (releaseDue k s) (endHold k) s)

/-- The hold of a key in DOWN or HELD_AT_START reaches 30 s. -/
def stuckDue (k : Key) (s : State) : Option Nat :=
  if s.powered ∧ ((keyLine k s).state = .down ∨ (keyLine k s).state = .heldAtStart) then
    (keyLine k s).holdSince.map (· + Config.stuckMs)
  else none

/-- The key becomes STUCK; FAULT is raised for every key but PANIC (R63). -/
def stickKey (k : Key) (s : State) : State :=
  let t := updateKey k (fun x => { x with state := .stuck }) s
  if k = .panic then t else raise .fault t

/-- KEY_STUCK (R63). -/
def execKeyStuck (k : Key) (s : State) : Host.Outcome State Fault Refusal :=
  .next (atInstant (stuckDue k s) (stickKey k) s)

/-! ### The ignition line (R64) -/

/-- The ignition state that a raw level gives. -/
def toIgnition (raw : Bool) : Ignition := if raw then .on else .off

/-- The recognition of an ignition change. -/
def ignitionDue (s : State) : Option Nat :=
  dueWhen (s.powered && !(s.panel.ignition == .unsettled)
    && !(s.panel.ignition == toIgnition s.panel.ignitionRaw)) (ignitionRecognised s)

/-- The ignition came on: the park timer stops and clears, the parked-status mark clears, SPARSE watch
returns to FULL (R16, R17, R64). -/
def endPark (s : State) : State :=
  returnToFull { s with receiver := { s.receiver with
    parkSince := none, parkMarked := false, parkedStatus := false, sparseHeld := false } }

/-- The ignition state changes and the change is handed to the receiver (R64). -/
def changeIgnition (s : State) : State :=
  let t := { s with panel := { s.panel with ignition := toIgnition s.panel.ignitionRaw } }
  if s.panel.ignitionRaw then endPark t else startPark t

/-- IGNITION_CHANGE (R64). -/
def execIgnitionChange (s : State) : Host.Outcome State Fault Refusal :=
  .next (atInstant (ignitionDue s) changeIgnition s)

/-! ### The odometer pulse line (R65) -/

/-- One pulse joins the tally and the calibration count, each saturating (R65). -/
def countPulse (s : State) : State :=
  { s with panel := { s.panel with
      tally := satAdd Config.max16 s.panel.tally 1
      calibration := satAdd Config.max32 s.panel.calibration 1 } }

/-- ODOMETER_PULSE (R65). -/
def execOdometerPulse (s : State) : Host.Outcome State Fault Refusal := .next (whenPowered countPulse s)

/-! ### PANEL STATUS (R66) -/

/-- The content of PANEL STATUS: PANIC appears in no field (R66). -/
def panelContent (s : State) : List Field :=
  let p := s.panel
  optName (p.lastKey.map fun k => Key.code k.key)
  ++ optName (p.lastKey.map fun k => if k.refused.isSome then 1 else 0)
  ++ optName ((p.lastKey.bind (·.refused)).map (·.code))
  ++ optNum Config.max32 (p.lastKey.map (·.second))
  ++ [.name p.keys.hire.state.code, .name p.keys.stop.state.code, .name p.keys.free.state.code,
      .name p.keys.extra.state.code, .name p.keys.accept.state.code, .name p.ignition.code,
      .num Config.max32 p.calibration, .num 65535 (secondsSince p.calibrationSince s)]

/-- PANEL STATUS served: YES restarts the calibration count once the reply is built (R66). -/
def servePanelStatus (restart : Nat) (s : State) : State :=
  match toBool restart with
  | none => answer .psta .badArg [] s
  | some false => answer .psta .ok (panelContent s) s
  | some true =>
      answer .psta .ok (panelContent s)
        { s with panel := { s.panel with calibration := 0, calibrationSince := s.now } }

end Sys2Proof.Machine
end

