-- ==== Sys2Proof/Machine/Settings.lean ====
section
/-! DEFINITION. The settings store (chapter 10, R178 to R190): the settings that SETTING WRITE names, the
writes, readings, COMMIT and REVERT, and the access level. -/

namespace Sys2Proof.Machine

/-! ### The settings of SETTING WRITE (R178) -/

/-- The settings that SETTING WRITE names, in the order of its operand's list. -/
inductive Setting where
  | unitAddress | fleetCode | accessCode | cancelCode | duressCode | alertMode | resetReachesHost
  | pulseConstant | keysOnly | lockTariff | outOfArea | calibrationCode
deriving DecidableEq, Repr

/-- A setting by its position (R204). -/
def toSetting : Nat → Option Setting
  | 0 => some .unitAddress | 1 => some .fleetCode | 2 => some .accessCode | 3 => some .cancelCode
  | 4 => some .duressCode | 5 => some .alertMode | 6 => some .resetReachesHost
  | 7 => some .pulseConstant | 8 => some .keysOnly | 9 => some .lockTariff | 10 => some .outOfArea
  | 11 => some .calibrationCode | _ => none

/-- The metrology settings among them (R178). -/
def Setting.isMetrology : Setting → Bool
  | .pulseConstant | .lockTariff | .outOfArea => true
  | .unitAddress | .fleetCode | .accessCode | .cancelCode | .duressCode | .alertMode | .resetReachesHost
  | .keysOnly | .calibrationCode => false

/-- The access level a setting is written at (R178). -/
def Setting.level : Setting → Nat
  | .pulseConstant | .keysOnly | .lockTariff | .outOfArea | .calibrationCode => 2
  | .unitAddress | .fleetCode | .accessCode | .cancelCode | .duressCode | .alertMode | .resetReachesHost => 1

/-- The pulse constant is 0 or 500 to 20,000 (R178). -/
def isPulseConstant (n : Nat) : Bool := n == 0 || within 500 20000 n

/-- The settings with one set to a value, none where the value lies outside its range (R178). -/
def Setting.write (x : Setting) (v : SettingValue) (w : Settings) : Option Settings :=
  match x, v with
  | .unitAddress, .number n => if within 0 4094 n then some { w with address := n } else none
  | .fleetCode, .number n => if within 0 255 n then some { w with fleetCode := n } else none
  | .accessCode, .code d => if isCode 6 6 d then some { w with accessCode := d } else none
  | .cancelCode, .code d => if isCode 4 8 d then some { w with cancelCode := d } else none
  | .duressCode, .code d => if isCode 4 8 d then some { w with duressCode := d } else none
  | .alertMode, .number n => (toAlertMode n).map fun m => { w with alertMode := m }
  | .resetReachesHost, .number n => (toBool n).map fun b => { w with resetReachesHost := b }
  | .pulseConstant, .number n =>
      if isPulseConstant n then some { w with metrology := { w.metrology with pulseConstant := n } } else none
  | .keysOnly, .number n => (toBool n).map fun b => { w with keysOnly := b }
  | .lockTariff, .number n =>
      (toBool n).map fun b => { w with metrology := { w.metrology with lockTariff := b } }
  | .outOfArea, .number n =>
      if within 0 4 n then some { w with metrology := { w.metrology with outOfArea := n } } else none
  | .calibrationCode, .code d => if isCode 8 8 d then some { w with calibrationCode := d } else none
  | _, _ => none

/-- A setting's value in a reply: a code by its number of digits alone (R183). -/
def Setting.field (x : Setting) (w : Settings) : Field :=
  match x with
  | .unitAddress => .num 4094 w.address
  | .fleetCode => .num 255 w.fleetCode
  | .accessCode => .num 8 w.accessCode.length
  | .cancelCode => .num 8 w.cancelCode.length
  | .duressCode => .num 8 w.duressCode.length
  | .alertMode => .name w.alertMode.code
  | .resetReachesHost => .flag w.resetReachesHost
  | .pulseConstant => .num 20000 w.metrology.pulseConstant
  | .keysOnly => .flag w.keysOnly
  | .lockTariff => .flag w.metrology.lockTariff
  | .outOfArea => .num 4 w.metrology.outOfArea
  | .calibrationCode => .num 8 w.calibrationCode.length

/-- A setting's value differs between two sets of settings (R183). -/
def Setting.differs (x : Setting) (a b : Settings) : Bool :=
  match x with
  | .unitAddress => a.address != b.address
  | .fleetCode => a.fleetCode != b.fleetCode
  | .accessCode => a.accessCode != b.accessCode
  | .cancelCode => a.cancelCode != b.cancelCode
  | .duressCode => a.duressCode != b.duressCode
  | .alertMode => a.alertMode != b.alertMode
  | .resetReachesHost => a.resetReachesHost != b.resetReachesHost
  | .pulseConstant => a.metrology.pulseConstant != b.metrology.pulseConstant
  | .keysOnly => a.keysOnly != b.keysOnly
  | .lockTariff => a.metrology.lockTariff != b.metrology.lockTariff
  | .outOfArea => a.metrology.outOfArea != b.metrology.outOfArea
  | .calibrationCode => a.calibrationCode != b.calibrationCode

/-! ### Working values (R169, R179) -/

/-- The alert latch after the working alert mode has changed from `old`: set when it becomes LATCHED while
the emergency is ACTIVE or ACKNOWLEDGED, cleared when it leaves LATCHED (R169). -/
def followAlertMode (old : AlertMode) (s : State) : State :=
  let new := s.store.working.alertMode
  if new = old then s
  else if old = .latched then { s with emergency := { s.emergency with latch := false } }
  else if new = .latched ∧ s.emergency.state.open then
    { s with emergency := { s.emergency with latch := true } }
  else s

/-- The working settings become those given, with effect at once (R179). -/
def installWorking (w : Settings) (s : State) : State :=
  followAlertMode s.store.working.alertMode { s with store := { s.store with working := w } }

/-! ### Writing settings (R181, R182) -/

/-- SETTING WRITE served: its causes in the order of the table (R181). -/
def serveSettingWrite (a : SettingArgs) (s : State) : State :=
  match toSetting a.setting with
  | none => answer .swrt .badArg [] s
  | some x =>
      match x.write a.value s.store.working with
      | none => answer .swrt .badArg [] s
      | some w =>
          if s.store.level < x.level then answer .swrt .level [] s
          else if x.isMetrology ∧ s.meter.state.onTrip then answer .swrt .refused [] s
          else
            let t := installWorking w s
            answer .swrt .ok [x.field t.store.working, x.field t.store.stored] t

/-- CANNED WRITE served (R181). -/
def serveCannedWrite (a : CannedArgs) (s : State) : State :=
  if ¬ (within 1 32 a.number ∧ a.text.length ≤ 32 ∧ a.text.all printable) then answer .cwrt .badArg [] s
  else if s.store.level < 1 then answer .cwrt .level [] s
  else
    let t := updateWorking (fun w => { w with canned := w.canned.set (a.number - 1) a.text }) s
    answer .cwrt .ok
      [.text (cannedText t.store.working a.number), .text (cannedText t.store.stored a.number)] t

/-- The tariff that the operands of a TARIFF WRITE give, none where one lies outside its range (R106). -/
def toTariff (a : TariffArgs) : Option Tariff :=
  match toBool a.valid, toMode a.mode with
  | some valid, some mode =>
      if within 0 99999 a.flagFall && within 1 9999 a.increment && within 10 2000 a.distanceStep
          && within 5 600 a.timeStep && within 0 10000 a.included && within 0 9999 a.extra then
        some { valid := valid, flagFall := a.flagFall, increment := a.increment
               distanceStep := a.distanceStep, timeStep := a.timeStep, included := a.included
               mode := mode, extra := a.extra }
      else none
  | _, _ => none

/-- A tariff's fields in a reply (R106, R182). -/
def tariffFields (t : Tariff) : List Field :=
  [.flag t.valid, .num 99999 t.flagFall, .num 9999 t.increment, .num 2000 t.distanceStep,
    .num 600 t.timeStep, .num 10000 t.included, .name t.mode.code, .num 9999 t.extra]

/-- The working metrology settings changed by a function. -/
def updateMetrology (f : Metrology → Metrology) : State → State :=
  updateWorking fun w => { w with metrology := f w.metrology }

/-- TARIFF WRITE served (R182). -/
def serveTariffWrite (a : TariffArgs) (s : State) : State :=
  if ¬ within 1 4 a.number then answer .twrt .badArg [] s
  else
    match toTariff a with
    | none => answer .twrt .badArg [] s
    | some x =>
        if s.store.level < 2 then answer .twrt .level [] s
        else if s.meter.state.onTrip then answer .twrt .refused [] s
        else
          let t := updateMetrology (fun m => { m with tariffs := m.tariffs.put a.number x }) s
          answer .twrt .ok (tariffFields (workingTariff a.number t)) t

/-- A run of entries written into a row from a half hour on (R182). -/
def writeRun : Nat → List Nat → List Nat → List Nat
  | _, [], row => row
  | first, n :: rest, row => writeRun (first + 1) rest (row.set first n)

/-- The row of the band table for a day type replaced. -/
def Metrology.putRow (m : Metrology) (day : DayType) (row : List Nat) : Metrology :=
  match day with
  | .workday => { m with workday := row }
  | .restday => { m with restday := row }

/-- A row of the band table in a reply. -/
def rowFields (row : List Nat) : List Field := .count row.length :: row.map fun n => .num 4 n

/-- BANDS WRITE served (R182). -/
def serveBandsWrite (a : BandsArgs) (s : State) : State :=
  match toDayType a.row with
  | none => answer .bwrt .badArg [] s
  | some day =>
      let m := s.store.working.metrology
      if ¬ (within 0 47 a.first ∧ within 1 48 a.tariffs.length ∧ a.first + a.tariffs.length - 1 ≤ 47
          ∧ a.tariffs.all (within 1 4)) then answer .bwrt .badArg [] s
      else if s.store.level < 2 then answer .bwrt .level [] s
      else if s.meter.state.onTrip then answer .bwrt .refused [] s
      else if a.tariffs.any (fun n => !(m.tariffs.get n).valid) then answer .bwrt .refused [] s
      else
        let t := updateMetrology (fun m => m.putRow day (writeRun a.first a.tariffs (m.row day))) s
        answer .bwrt .ok (rowFields (t.store.working.metrology.row day)) t

/-! ### Reading settings (R183) -/

/-- Seconds left of the lockout, or 0. -/
def lockoutLeft (s : State) : Nat := ((s.store.lockoutEnd.map fun t => secondsUntil t s)).getD 0

/-- The state of the store that every SETTING READ carries (R183). -/
def storeFields (s : State) : List Field :=
  [.num 2 s.store.level, .num 3 s.store.failures, .num 60 (lockoutLeft s), .name s.store.commit.code,
    .flag (uncommitted s), .name (copyCode s.store.loaded), .num Config.max32 s.store.generation,
    .name (copyCode s.store.holder)]

/-- Working value, stored value and whether they differ (R183). -/
def valueFields (f : Settings → List Field) (differ : Settings → Settings → Bool) (s : State) : List Field :=
  f s.store.working ++ f s.store.stored ++ [.flag (differ s.store.working s.store.stored)]

/-- The values that a selector names: none where it is not one of the selectors (R183). -/
def selectedFields (q : SettingSelector) (s : State) : Option (List Field) :=
  match toSetting q.which with
  | some x => some (valueFields (fun w => [x.field w]) x.differs s)
  | none =>
      match q.which with
      | 12 =>
          if within 1 4 q.operand then
            some (valueFields (fun w => tariffFields (w.metrology.tariffs.get q.operand))
              (fun a b => a.metrology.tariffs.get q.operand != b.metrology.tariffs.get q.operand) s)
          else none
      | 13 =>
          (toDayType q.operand).map fun day =>
            valueFields (fun w => rowFields (w.metrology.row day))
              (fun a b => a.metrology.row day != b.metrology.row day) s
      | 14 =>
          if within 1 32 q.operand then
            some (valueFields (fun w => [.text (cannedText w q.operand)])
              (fun a b => cannedText a q.operand != cannedText b q.operand) s)
          else none
      | 15 => some []
      | _ => none

/-- SETTING READ served (R183). -/
def serveSettingRead (q : SettingSelector) (s : State) : State :=
  match selectedFields q s with
  | none => answer .sred .badArg [] s
  | some l => answer .sred .ok (storeFields s ++ l) s

/-! ### Commit and revert (R184, R185) -/

/-- The causes that COMMIT and REVERT share: LEVEL, LEVEL, BUSY. -/
def commitCause (s : State) : Option Result :=
  if s.store.level < 1 then some .level
  else if uncommitted s ∧ s.store.level < 2 then some .level
  else if s.store.commit ≠ .none then some .busy
  else none

/-- The content of their replies: commit state and metrology uncommitted. -/
def commitContent (s : State) : List Field := [.name s.store.commit.code, .flag (uncommitted s)]

/-- COMMIT taken: the settings commit mark is dirty and the commit PENDING (R184). -/
def beginCommit (s : State) : State :=
  { s with
    store := { s.store with commit := .pending }
    writer := { s.writer with settingsDirty := true } }

/-- COMMIT served (R184). -/
def serveCommit (s : State) : State :=
  match commitCause s with
  | some r => answer .cmit r [] s
  | none =>
      let t := beginCommit s
      answer .cmit .ok (commitContent t) t

/-- REVERT served (R185). -/
def serveRevert (s : State) : State :=
  match commitCause s with
  | some r => answer .rvrt r [] s
  | none =>
      if uncommitted s ∧ s.meter.state.onTrip then answer .rvrt .refused [] s
      else
        let t := installWorking s.store.stored s
        answer .rvrt .ok (commitContent t) t

/-! ### Access levels (R188 to R190) -/

/-- The level that a code opens: the fleet access code level 1, the calibration code level 2 (R188). -/
def codeLevel (code : Digits) (w : Settings) : Option Nat :=
  if code.length = 6 then (if code = w.accessCode then some 1 else none)
  else if code = w.calibrationCode then some 2
  else none

/-- One failure more: the third starts the lockout of 60 s (R189). -/
def countFailure (s : State) : State :=
  let n := s.store.failures + 1
  { s with store := { s.store with
      failures := n
      lockoutEnd := if n ≥ 3 then some (s.now + Config.lockoutMs) else s.store.lockoutEnd } }

/-- CODE ENTER served (R188, R189). Its OK carries the level alone and its LOCKED the seconds alone, neither with a
presence byte (R198; DEDUCED, log entry 22). -/
def serveCodeEnter (code : Digits) (s : State) : State :=
  if ¬ (isCode 6 6 code ∨ isCode 8 8 code) then answer .cent .badArg [] s
  else if s.store.lockoutEnd.isSome then answer .cent .locked [.num 60 (lockoutLeft s)] s
  else
    match codeLevel code s.store.working with
    | none => answer .cent .refused [] (countFailure s)
    | some n =>
        answer .cent .ok [.num 2 n] { s with store := { s.store with level := n, failures := 0 } }

/-- The end of the lockout. -/
def lockoutDue (s : State) : Option Nat := if s.powered then s.store.lockoutEnd else none

/-- LOCKOUT_END (R189). -/
def execLockoutEnd (s : State) : Host.Outcome State Fault Refusal :=
  .next (atInstant (lockoutDue s)
    (fun s => { s with store := { s.store with failures := 0, lockoutEnd := none } }) s)

/-- The access level returns to 0 (R190). -/
def dropLevel (s : State) : State := { s with store := { s.store with level := 0 } }

end Sys2Proof.Machine
end

