-- ==== Sys2Proof/Machine/Writer.lean ====
section
/-! DEFINITION. The store writer (R138, R119, R132, R135, R171, R184): the order of service, the start of a
write with its content, and its completion. -/

namespace Sys2Proof.Machine

/-! ### What a write holds -/

/-- The checkpoint as it stands: OPEN with the trip in progress while HIRED or STOPPED, EMPTY otherwise,
with the last close (R119, R135). -/
def checkpointContent (s : State) : Checkpoint :=
  { openTrip := (openTripOf s).map fun t =>
      { trip := t, state := s.meter.state, shift := s.accounts.totals.shift.shift
        driver := s.accounts.totals.shift.driver, pulseConstant := pulseConstant s }
    lastClose := s.accounts.lastClose }

/-- A record as stored: UNREPORTED, or NOT_REPORTABLE for a TRIAL trip; what the base has heard stands in the
report mark (R125, R139). -/
def storedRecord (r : TripRecord) : TripRecord := { r with report := reportAtClose r.flags }

/-- The report mark of a record: IN_QUEUE is stored as UNREPORTED (R125). -/
def storedReport (r : TripRecord) : StoredReport :=
  ⟨r.seq, match r.report with
    | .inQueue => .unreported
    | .unreported => .unreported
    | .reported => .reported
    | .notReportable => .notReportable⟩

/-- The copy that a write goes to: the one that does not hold the newest generation, A when none does
(R132, R184). -/
def otherCopy : Option Copy → Copy
  | some .a => .b
  | some .b => .a
  | none => .a

/-- The generation that a write carries (R132, R184). -/
def nextGeneration (g : Nat) : Nat := satAdd Config.max32 g 1

/-- The first log entry, oldest first, whose position is among those given. -/
def oldestAmong (positions : List Nat) (s : State) : Option LogEntry :=
  s.accounts.log.find? fun e => positions.contains e.position

/-! ### The order of service (R138) -/

/-- The totals record as a write takes it. -/
def totalsItem (s : State) : WriteItem :=
  .totals (otherCopy s.accounts.holder) ⟨nextGeneration s.accounts.generation, s.accounts.totals⟩

/-- The settings as a write takes them. -/
def settingsItem (s : State) : WriteItem :=
  .settings (otherCopy s.store.holder) ⟨nextGeneration s.store.generation, s.store.working⟩

/-- The report mark or the settings commit, in the order of service. -/
def lateItem (s : State) : Option WriteItem :=
  match oldestAmong s.writer.reportsDirty s with
  | some e => some (.report e.position (storedReport e.record))
  | none => if s.writer.settingsDirty then some (settingsItem s) else none

/-- The trip record, the totals record or a later item, in the order of service. -/
def accountsItem (s : State) : Option WriteItem :=
  match oldestAmong s.writer.recordsDirty s with
  | some e => some (.record e.position (storedRecord e.record))
  | none => if s.writer.totalsDirty then some (totalsItem s) else lateItem s

/-- The first set mark in the order of service, with its item's content as it stands (R138). -/
def nextItem (s : State) : Option WriteItem :=
  if s.writer.markDirty then some (.mark s.emergency.mark)
  else if s.writer.checkpointDirty then some (.checkpoint (checkpointContent s))
  else accountsItem s

/-- The mark of an item clears (R138). -/
def clearDirty (item : WriteItem) (w : Writer) : Writer :=
  match item with
  | .mark _ => { w with markDirty := false }
  | .checkpoint _ => { w with checkpointDirty := false }
  | .record p _ => { w with recordsDirty := w.recordsDirty.filter (· != p) }
  | .totals _ _ => { w with totalsDirty := false }
  | .report p _ => { w with reportsDirty := w.reportsDirty.filter (· != p) }
  | .settings _ _ => { w with settingsDirty := false }

/-- What the owner of an item notes at the start of its write: the totals have no change unwritten (R132), the
commit is WRITING (R184). -/
def noteStart (item : WriteItem) (s : State) : State :=
  match item with
  | .totals _ _ => { s with accounts := { s.accounts with changed := false } }
  | .settings _ _ => { s with store := { s.store with commit := .writing } }
  | .mark _ | .checkpoint _ | .record _ _ | .report _ _ => s

/-- The writer is IDLE and a mark is set. -/
def writeStartDue (s : State) : Option Nat :=
  dueWhen (s.powered && s.writer.writing.isNone && (nextItem s).isSome) 0

/-- The writer takes the first item and begins its write (R138). -/
def startWrite (s : State) : State :=
  match nextItem s with
  | none => s
  | some item =>
      noteStart item { s with writer := { clearDirty item s.writer with writing := some ⟨item, s.now⟩ } }

/-- STORE_WRITE_START (R138). -/
def execStoreWriteStart (s : State) : Host.Outcome State Fault Refusal :=
  .next (atInstant (writeStartDue s) startWrite s)

/-! ### Completion (R138) -/

/-- A log position changed by a function. -/
def updatePosition (p : Nat) (f : StoredPosition → StoredPosition) (n : Nonvolatile) : Nonvolatile :=
  { n with log := n.log.modify p f }

/-- The nonvolatile memory once an item's write has completed. -/
def written (item : WriteItem) (n : Nonvolatile) : Nonvolatile :=
  match item with
  | .mark k => { n with mark := some k }
  | .checkpoint c => { n with checkpoint := some c }
  | .record p r => updatePosition p (fun x => { x with torn := false, record := some r }) n
  | .totals .a c => { n with totalsA := some c }
  | .totals .b c => { n with totalsB := some c }
  | .report p m => updatePosition p (fun x => { x with report := some m }) n
  | .settings .a c => { n with settingsA := some c }
  | .settings .b c => { n with settingsB := some c }

/-- The nonvolatile memory once an item's write has been torn (R139). -/
def torn (item : WriteItem) (n : Nonvolatile) : Nonvolatile :=
  match item with
  | .mark _ => { n with mark := none }
  | .checkpoint _ => { n with checkpoint := none }
  | .record p _ => updatePosition p (fun x => { x with torn := true, record := none }) n
  | .totals .a _ => { n with totalsA := none }
  | .totals .b _ => { n with totalsB := none }
  | .report p _ => updatePosition p (fun x => { x with report := none }) n
  | .settings .a _ => { n with settingsA := none }
  | .settings .b _ => { n with settingsB := none }

/-- A totals write completes: G and its copy, and the end of a TOTALS REINIT with STORE (R132, R134). -/
def totalsWritten (copy : Copy) (c : TotalsCopy) (s : State) : State :=
  let t := { s with accounts := { s.accounts with generation := c.generation, holder := some copy } }
  if s.accounts.reinit then
    raise .store { t with accounts := { t.accounts with fault := false, reinit := false } }
  else t

/-- A commit write completes: stored values, newest generation and copy, commit state NONE, STORE (R184). -/
def settingsWritten (copy : Copy) (c : SettingsCopy) (s : State) : State :=
  raise .store { s with store := { s.store with
    stored := c.settings, generation := c.generation, holder := some copy, commit := .none } }

/-- The completion of a write is reported to the item's owner (R138). -/
def noteCompletion (item : WriteItem) (s : State) : State :=
  match item with
  | .totals copy c => totalsWritten copy c s
  | .settings copy c => settingsWritten copy c s
  | .mark _ | .checkpoint _ | .record _ _ | .report _ _ => s

/-- The write in progress completes. -/
def completeWrite (s : State) : State :=
  match s.writer.writing with
  | none => s
  | some w =>
      noteCompletion w.item { s with
        nonvolatile := written w.item s.nonvolatile
        writer := { s.writer with writing := none } }

/-- STORE_WRITE_COMPLETE (R138): the memory tells that the write in progress is done. -/
def execStoreWriteComplete (s : State) : Host.Outcome State Fault Refusal :=
  .next (whenPowered completeWrite s)

end Sys2Proof.Machine
end

