-- ==== Sys2Proof/Machine/Power.lean ====
section
/-! DEFINITION. Power loss and power-on (R139, R187, R133, R136, R137, R172, R173, R122, R19, R203): what a
loss tears, and the loading, repair, recovery and resumption that follow a power-on or the reset pin. -/

namespace Sys2Proof.Machine

/-! ### Power loss (R139) -/

/-- Without power no write goes on, nothing is transmitted and the host-reset line is not driven. -/
def loseSupply (s : State) : State :=
  { s with
    powered := false
    writer := { s.writer with writing := none }
    receiver := { s.receiver with transmission := none }
    link := { s.link with hostReset := none } }

/-- A power loss tears the write in progress, that of an onset's emergency mark too: R139 and R173 tear it, where
R171 lets the mark stand (DESIGN CHOICE, log entry 53). -/
def losePower (s : State) : State :=
  match s.writer.writing with
  | none => loseSupply s
  | some w => loseSupply { s with nonvolatile := torn w.item s.nonvolatile }

/-- POWER_LOSS (R139). -/
def execPowerLoss (s : State) : Host.Outcome State Fault Refusal := .next (whenPowered losePower s)

/-! ### Loading (R187, R133, R136) -/

/-- What becomes of a write in progress when the reset pin, and not a power loss, resets the part: the manual
does not say; Config.writeAtResetPin chooses among the old content, a torn item and the new content (log
entry 9). -/
def settleWrite (s : State) : State :=
  match s.writer.writing with
  | none => s
  | some w =>
      let n := s.nonvolatile
      { s with
        nonvolatile :=
          match Config.writeAtResetPin s.freeIndex with
          | 0 => n
          | 1 => torn w.item n
          | _ => written w.item n
        freeIndex := s.freeIndex + 1 }

/-- Of two stored copies, the valid one with the higher generation, copy A when they are equal, with its name;
none when neither is valid (R133, R187). -/
def newestCopy {α : Type} (generation : α → Nat) (a b : Option α) : Option (Copy × α) :=
  match a, b with
  | some x, some y => if generation x < generation y then some (.b, y) else some (.a, x)
  | some x, none => some (.a, x)
  | none, some y => some (.b, y)
  | none, none => none

/-- Every block in its power-on state, with the nonvolatile memory, the pins' levels and the model's own
fields kept (R23, R46, R57, R67, R93, R142, R157, R177, R191, R203). -/
def blank (s : State) : State :=
  { State.reset with
    receiver := { resetReceiver with voiceReq := s.receiver.voiceReq }
    panel := { resetPanel with
      keys :=
        ⟨resetKey s.panel.keys.hire.raw, resetKey s.panel.keys.stop.raw, resetKey s.panel.keys.free.raw,
          resetKey s.panel.keys.extra.raw, resetKey s.panel.keys.accept.raw, resetKey s.panel.keys.panic.raw⟩
      ignitionRaw := s.panel.ignitionRaw }
    accounts := { State.reset.accounts with fault := false }
    nonvolatile := s.nonvolatile
    link := resetLink
    freeIndex := s.freeIndex
    pending := s.pending }

/-- The settings are loaded from the valid copy with the newest generation, or from the defaults with FAULT
(R187). -/
def loadSettings (s : State) : State :=
  match newestCopy SettingsCopy.generation s.nonvolatile.settingsA s.nonvolatile.settingsB with
  | some (name, c) =>
      { s with store := { s.store with
          working := c.settings, stored := c.settings, generation := c.generation, holder := some name
          loaded := some name } }
  | none => raise .fault s

/-- The totals record is loaded, or zeroed with the totals fault set and FAULT raised (R133). -/
def loadTotals (s : State) : State :=
  match newestCopy TotalsCopy.generation s.nonvolatile.totalsA s.nonvolatile.totalsB with
  | some (name, c) =>
      { s with accounts := { s.accounts with
          totals := c.totals, generation := c.generation, holder := some name, loaded := some name } }
  | none => raise .fault { s with accounts := { s.accounts with fault := true } }

/-- Steps forward from one sequence number to another around the cycle 1 to 65,535. -/
def forward (a b : Nat) : Nat := (b + Config.max16 - a) % Config.max16

/-- A record with the report state that its report mark stores; a mark of another record or a torn one
leaves it as stored, a TRIAL trip NOT_REPORTABLE (R125, R136, R139; DESIGN CHOICE, log entry 29). -/
def loadRecord (position : Nat) (p : StoredPosition) : Option LogEntry :=
  if p.torn then none
  else
    p.record.map fun r =>
      { position := position, holdOff := none
        record := { r with report :=
          match p.report with
          | some m => if m.seq = r.seq then m.report else r.report
          | none => r.report } }

/-- The records of the stored positions from `position` on. -/
def loadRecords : Nat → List StoredPosition → List LogEntry
  | _, [] => []
  | position, p :: rest =>
      match loadRecord position p with
      | some e => e :: loadRecords (position + 1) rest
      | none => loadRecords (position + 1) rest

/-- The newest record: none of the next 32 numbers after it is held by another loaded record (R136). -/
def isNewest (all : List LogEntry) (e : LogEntry) : Bool :=
  all.all fun o => let d := forward e.record.seq o.record.seq; d == 0 || decide (32 < d)

/-- A record into a list in the order of the log, oldest first, by its steps to the newest. -/
def insertRecord (newest : Nat) (e : LogEntry) : List LogEntry → List LogEntry
  | [] => [e]
  | o :: os =>
      if forward o.record.seq newest < forward e.record.seq newest then e :: o :: os
      else o :: insertRecord newest e os

/-- The loaded records in the order of the log (R136). -/
def orderRecords (all : List LogEntry) : List LogEntry :=
  match all.find? (isNewest all) with
  | none => all
  | some n => all.foldr (insertRecord n.record.seq) []

/-- The log is loaded; FAULT is raised once if any position fails its check (R136). -/
def loadLog (s : State) : State :=
  let log := orderRecords (loadRecords 0 s.nonvolatile.log)
  let t := { s with accounts := { s.accounts with
    log := log
    nextSeq := ((log.getLast?).map fun e => nextNumber Config.max16 e.record.seq).getD 1 } }
  if s.nonvolatile.log.any (·.torn) then raise .fault t else t

/-- The checkpoint is loaded: one that fails its check counts as EMPTY with no last close, and raises FAULT
(R136). -/
def loadCheckpoint (s : State) : State :=
  match s.nonvolatile.checkpoint with
  | none => raise .fault s
  | some c => { s with accounts := { s.accounts with lastClose := c.lastClose } }

/-! ### Repair and recovery (R137, R136) -/

/-- A closed trip missing from the log is appended from the last close (R137 item 1). -/
def repairLog (s : State) : State :=
  match s.accounts.lastClose with
  | none => s
  | some r =>
      if (findRecord r.seq s).isNone ∧ (s.accounts.log = [] ∨ r.seq = s.accounts.nextSeq) then
        appendRecord (storedRecord r) s
      else s

/-- The records after the one with a number, oldest first. -/
def recordsAfter (seq : Nat) : List LogEntry → List LogEntry
  | [] => []
  | e :: es => if e.record.seq == seq then es else recordsAfter seq es

/-- Trips in the log that the totals have not counted are added, oldest first, and the totals record is marked
dirty (R137 item 2). -/
def repairTotals (s : State) : State :=
  match s.accounts.fault, s.accounts.totals.marker with
  | false, some m =>
      match recordsAfter m s.accounts.log with
      | [] => s
      | e :: es => markTotals ((e :: es).foldl (fun s x => updateTotals (addTrip x.record) s) s)
  | _, _ => s

/-- The record of an interrupted trip: the checkpoint's fields with its K, zone at close 0, and the
INTERRUPTED flag (R136). -/
def interruptedRecord (o : OpenTrip) : TripRecord :=
  let r := closedRecord o.trip o.pulseConstant o.shift o.driver 0
  { r with flags := { r.flags with interrupted := true } }

/-- The trip of an OPEN checkpoint is closed into the accounts, and the checkpoint is marked dirty (R136). -/
def recoverTrip (s : State) : State :=
  match s.nonvolatile.checkpoint with
  | some ⟨some o, _⟩ => markCheckpoint (closeIntoAccounts (interruptedRecord o) s)
  | _ => s

/-! ### The emergency, the meter and the voice handshake (R172, R173, R122, R19) -/

/-- The emergency resumes in a state with source RESUMED, the mark as given, and an EMERGENCY entry (R172). -/
def resumeEmergency (state : EmState) (mark : MarkKind) (s : State) : State :=
  placeEntry .emergency 0 .none none { s with emergency := { s.emergency with
    state := state, sources := ⟨false, false, true⟩, onset := some s.now, mark := mark } }

/-- The emergency resumes as ACTIVE: the latch follows the mode and EMERGENCY is raised (R172). -/
def resumeActive (s : State) : State := raise .emergency (latchIfLatched (resumeEmergency .active .active s))

/-- The stored mark is read: one that fails its check is taken as ACTIVE, marked dirty, with FAULT (R172,
R173). -/
def loadMark (s : State) : State :=
  match s.nonvolatile.mark with
  | some .none => s
  | some .active => resumeActive s
  | some .covert => resumeEmergency .covert .covert s
  | none => raise .fault (setMark .active (resumeActive s))

/-- The meter state after the recovery: FREE with the shift open and the totals sound, OFF otherwise (R122). -/
def startMeter (s : State) : State :=
  { s with meter := { s.meter with
      state := if s.accounts.totals.shiftOpen ∧ ¬ s.accounts.fault then .free else .off } }

/-- A VOICE_REQ found asserted counts as asserted at power-on (R19). -/
def findVoice (s : State) : State := if s.receiver.voiceReq then requestVoice s else s

/-- The power-on work in its order: settings, totals, log and checkpoint, repair, recovery, emergency mark,
meter state, voice request (R187, R133, R136, R137, R172, R122, R19). -/
def powerUp (s : State) : State :=
  let s := loadTotals (loadSettings (blank s))
  let s := loadCheckpoint (loadLog s)
  let s := recoverTrip (repairTotals (repairLog s))
  findVoice (startMeter (loadMark s))

/-- POWER_ON (R187): supply returns, or the reset pin acts on a powered part. -/
def execPowerOn (s : State) : Host.Outcome State Fault Refusal :=
  .next (powerUp (if s.powered then settleWrite s else s))

end Sys2Proof.Machine
end

