-- ==== Sys2Proof/Machine/Wire.lean ====
section
/-! DEFINITION. Bytes of what crosses the ports (R193, R198, R204, R205, R207): the fields, reply frames and uplink
blocks that the part sends, and the request frames that the host sends. -/

namespace Sys2Proof.Machine

/-! ### Fields (R204) -/

/-- The fewest of 1, 2, 4 or 6 bytes that hold a number. -/
def numberWidth (largest : Nat) : Nat :=
  if largest < 256 then 1 else if largest < 65536 then 2 else if largest < 4294967296 then 4 else 6

/-- A number in bytes, most significant first. -/
def numberBytes : Nat → Nat → List Byte
  | 0, _ => []
  | width + 1, n => byte (n / 256 ^ width) :: numberBytes width n

/-- The number a field carries: one beyond the largest its bytes hold is free (DESIGN CHOICE, log entry 10). -/
def fieldNumber (largest n : Nat) : Nat :=
  if n < 256 ^ numberWidth largest then n else Config.beyondField largest n

/-- A set as one byte, bit 0 for its first member. -/
def setNumber : List Bool → Nat
  | [] => 0
  | b :: bs => (if b then 1 else 0) + 2 * setNumber bs

/-- A field in bytes (R204). -/
def Field.bytes : Field → List Byte
  | .num largest n => numberBytes (numberWidth largest) (fieldNumber largest n)
  | .signed i => numberBytes 6 (i % 281474976710656).toNat
  | .name n => [byte n]
  | .flag b => [byte (if b then 1 else 0)]
  | .set l => [byte (setNumber l)]
  | .time none => [0xFF#8, 0#8, 0#8, 0#8, 0#8]
  | .time (some t) => byte t.day.code :: numberBytes 4 t.second
  | .text t => byte t.length :: t
  | .count n => [byte n]

/-- Fields one after another, with no padding (R204). -/
def contentBytes (l : List Field) : List Byte := l.flatMap Field.bytes

/-! ### Reply frames (R197, R198, R205) -/

/-- Four characters as bytes. -/
def chars (n : Nat) : List Byte := numberBytes 4 n

/-- The four characters of a tag (chapter 11, Requests and where they are specified). -/
def Tag.chars : Tag → List Byte
  | .lsta => Machine.chars 0x4C535441
  | .uqst => Machine.chars 0x55515354
  | .posn => Machine.chars 0x504F534E
  | .zlod => Machine.chars 0x5A4C4F44
  | .zpnt => Machine.chars 0x5A504E54
  | .zclr => Machine.chars 0x5A434C52
  | .zred => Machine.chars 0x5A524544
  | .zsta => Machine.chars 0x5A535441
  | .psta => Machine.chars 0x50535441
  | .bred => Machine.chars 0x42524544
  | .otak => Machine.chars 0x4F54414B
  | .odis => Machine.chars 0x4F444953
  | .ofoc => Machine.chars 0x4F464F43
  | .aabn => Machine.chars 0x4141424E
  | .msta => Machine.chars 0x4D535441
  | .mkey => Machine.chars 0x4D4B4559
  | .sopn => Machine.chars 0x534F504E
  | .scls => Machine.chars 0x53434C53
  | .tset => Machine.chars 0x54534554
  | .tred => Machine.chars 0x54524544
  | .ttot => Machine.chars 0x54544F54
  | .tini => Machine.chars 0x54494E49
  | .ired => Machine.chars 0x49524544
  | .mmrk => Machine.chars 0x4D4D524B
  | .mrpl => Machine.chars 0x4D52504C
  | .mdel => Machine.chars 0x4D44454C
  | .scan => Machine.chars 0x5343414E
  | .stxt => Machine.chars 0x53545854
  | .erai => Machine.chars 0x45524149
  | .ecan => Machine.chars 0x4543414E
  | .esta => Machine.chars 0x45535441
  | .aclr => Machine.chars 0x41434C52
  | .cent => Machine.chars 0x43454E54
  | .ldrp => Machine.chars 0x4C445250
  | .swrt => Machine.chars 0x53575254
  | .sred => Machine.chars 0x53524544
  | .twrt => Machine.chars 0x54575254
  | .bwrt => Machine.chars 0x42575254
  | .cwrt => Machine.chars 0x43575254
  | .cmit => Machine.chars 0x434D4954
  | .rvrt => Machine.chars 0x52565254
  | .fevt => Machine.chars 0x46455654
  | .rstr => Machine.chars 0x52535452
  | .idnt => Machine.chars 0x49444E54
  | .bad => Machine.chars 0x3F3F3F3F
  | .other t0 t1 t2 t3 => [t0, t1, t2, t3]

/-- Content bytes of one reply frame at most (R198). -/
abbrev partSize : Nat := 238

/-- Parts of a content, at least one (R198). -/
def partCount (n : Nat) : Nat := max 1 ((n + (partSize - 1)) / partSize)

/-- One frame of a reply: the part numbered k of `count`, with bit 7 of its part field set when a further
part follows (R205). -/
def partFrame (r : Reply) (content : List Byte) (count k : Nat) : List Byte :=
  frameBytes (r.tag.chars ++
    [byte r.result.code, byte (k + (if k < count then 128 else 0))] ++
    (content.drop ((k - 1) * partSize)).take partSize)

/-- The frames of a reply in part order (R198). -/
def replyFrames (r : Reply) : List (List Byte) :=
  let content := contentBytes r.content
  let count := partCount content.length
  (List.range count).map fun k => partFrame r content count (k + 1)

/-- The bytes of a reply, its parts one straight after another (R192, R198). -/
def replyBytes (r : Reply) : List Byte := (replyFrames r).flatten

/-! ### Request frames (R193, R204) -/

/-- A list in bytes: its count, then its items. -/
def listBytes {α : Type} (item : α → List Byte) (l : List α) : List Byte := byte l.length :: l.flatMap item

/-- A text or a code in bytes: its length, then its characters. -/
def textBytes (t : Text) : List Byte := byte t.length :: t

/-- A number in one byte. -/
def one (n : Nat) : List Byte := numberBytes 1 n
/-- A number in two bytes. -/
def two (n : Nat) : List Byte := numberBytes 2 n
/-- A number in four bytes. -/
def four (n : Nat) : List Byte := numberBytes 4 n

/-- One rectangle of a ZONE LOAD. -/
def rectBytes (r : RectArgs) : List Byte :=
  four r.west ++ four r.south ++ four r.east ++ four r.north ++ one r.zone ++ one r.area ++
    listBytes one r.adjacent

/-- The operands of a TARIFF WRITE. -/
def tariffBytes (a : TariffArgs) : List Byte :=
  one a.number ++ one a.valid ++ four a.flagFall ++ two a.increment ++ two a.distanceStep ++ two a.timeStep ++
    two a.included ++ one a.mode ++ two a.extra

/-- The operands of a SETTING WRITE: the value takes the encoding of the setting it names. -/
def settingBytes (a : SettingArgs) : List Byte :=
  one a.setting ++
    match a.value with
    | .code d => textBytes d
    | .number n => if [0, 7].contains a.setting then two n else one n

/-- The operands of a TRIP READ: a number with the first two selectors alone. -/
def tripSelectorBytes (a : TripSelector) : List Byte :=
  one a.which ++ if a.which < 2 then two a.number else []

/-- The operands of a SETTING READ: a number or row with positions 12 to 14 alone. -/
def selectorBytes (a : SettingSelector) : List Byte :=
  one a.which ++ if 12 ≤ a.which ∧ a.which ≤ 14 then one a.operand else []

/-- A payload in bytes: its fields as `f` gives them, or the bytes of the wrong size. -/
def payloadBytes {α : Type} (f : α → List Byte) : Payload α → List Byte
  | .fields a => f a
  | .wrongSize b => b

/-- The payload bytes of a recognised request, none for any other command (R193, R204). -/
def requestPayload : Instr → List Byte
  | .position p => payloadBytes (fun a => four a.easting ++ four a.northing ++ one a.quality) p
  | .zoneLoad p => payloadBytes (listBytes rectBytes) p
  | .zoneRead p => payloadBytes (fun a => one a.first ++ one a.count) p
  | .timeSet p => payloadBytes (fun a => one a.dayType ++ four a.second) p
  | .tripRead p => payloadBytes tripSelectorBytes p
  | .zonePoint p | .panelStatus p | .meterKey p | .sendCanned p => payloadBytes one p
  | .offerFocus p | .offerTake p | .offerDismiss p | .shiftOpen p | .inboxRead p | .messageMark p
  | .messageDelete p => payloadBytes two p
  | .messageReply p => payloadBytes (fun a => two a.number ++ one a.code) p
  | .sendText p | .emergencyCancel p | .codeEnter p => payloadBytes textBytes p
  | .settingWrite p => payloadBytes settingBytes p
  | .cannedWrite p => payloadBytes (fun a => one a.number ++ textBytes a.text) p
  | .tariffWrite p => payloadBytes tariffBytes p
  | .bandsWrite p => payloadBytes (fun a => one a.row ++ one a.first ++ listBytes one a.tariffs) p
  | .settingRead p => payloadBytes selectorBytes p
  | .zoneClear p | .zoneStatus p | .assignmentAbandon p | .boardRead p | .shiftClose p | .meterStatus p
  | .totalsRead p | .totalsReinit p | .uplinkStatus p | .emergencyRaise p | .emergencyStatus p | .alertClear p
  | .commit p | .revert p | .levelDrop p | .fetchEvent p | .restart p | .identify p | .linkStatus p =>
      payloadBytes (fun _ => []) p
  | .unknownRequest _ _ _ _ | .powerOn | .powerLoss | .cycleHeader _ | .windowOpen | .windowStretch
  | .missedHeader | .offer _ _ | .withdraw _ _ | .award _ _ | .lost _ _ | .text _ _ | .page _ | .emergAck _ | .standDown _
  | .remoteReset _ | .hostResetPulseEnd | .slotStart _ _ | .transmissionEnd | .claimDeadline _
  | .statusTimerExpiry | .emergencyBeacon | .parkTimer60s | .enterSparse | .timeOfDaySecond
  | .voiceReqAsserted | .voiceReqReleased | .fixStale | .fixLost | .inputRawChange _ _
  | .firstRecognisedLevel _ | .keyPress _ | .keyRelease _ | .panicArming | .keyStuck _ | .ignitionChange
  | .odometerPulse | .offerExpiry _ | .noAnswer _ | .resumeWindowClose | .meterSecond
  | .tripReportPlacement | .reportHoldOffEnd _ | .totalsPeriodEnd | .storeWriteStart | .storeWriteComplete
  | .receiptPlacement | .reportTimerExpiry | .lockoutEnd | .badFrame _ | .earlyFrame _ | .frameAbandon
  | .replyComplete => []

/-! ### Uplink blocks (R7, R207) -/

/-- Position of an item's kind in the table of R7. -/
def UplinkItem.kind : UplinkItem → Nat
  | .status _ _ _ => 0 | .claim _ => 1 | .decline _ => 2 | .slotReq => 3 | .receipt _ _ => 4
  | .canned _ => 5 | .freetext _ => 6 | .tripReport _ => 7 | .emergency _ _ _ _ _ => 8

/-- The fields of an uplink item in the order of R7's table (R162 for the EMERGENCY item, chapter 12 for the
40-byte trip summary). -/
def UplinkItem.fields : UplinkItem → List Field
  | .status cab zone offer => [.name cab, .num 250 zone] ++ optNum 65535 offer
  | .claim n => [.num 65535 n]
  | .decline n => [.num 65535 n]
  | .slotReq => []
  | .receipt n code => [.num 65535 n, .num 32 code]
  | .canned n => [.num 32 n]
  | .freetext t => [.text t]
  | .tripReport r => recordHead r ++ recordTail r
  | .emergency fix zone meter fare duress =>
      optField [.num 9999999 0, .num 9999999 0, .name 0]
        (fun f => [.num 9999999 f.easting, .num 9999999 f.northing, .name f.quality.code]) fix
      ++ optNum 65535 (fix.map (·.age))
      ++ [.num 250 zone, .name meter.code, .num Config.maxFare fare, .flag duress]

/-- A transmission as the block the radio port sends: type 03h, sender, kind, fields, check (R207). -/
def uplinkBlock (t : Transmission) : List Byte :=
  let covered := 0x03#8 :: numberBytes 2 t.sender ++ [byte t.item.kind] ++ contentBytes t.item.fields
  covered ++ checkBytes covered

end Sys2Proof.Machine
end

