-- ==== Sys2Proof/Machine/Link.lean ====
section
/-! DEFINITION. The host link (chapter 11, R192 to R203): FETCH EVENT, RESTART and IDENTIFY, the handing of a
good frame's request to the block that owns it, the frame receiver byte by byte, the reception of whole requests,
bad and early frames, unrecognised requests and the sending of replies. -/

namespace Sys2Proof.Machine

/-! ### Requests of the link (R200 to R202) -/

/-- A kind of event in a reply: 1 to 12 by urgency (chapter 12, event reply). -/
def eventField (k : EventKind) : Field := .name k.urgency

/-- FETCH EVENT served: the most urgent kind leaves the set; the reply gives it, or NONE, and the kinds that
remain (R200). -/
def serveFetchEvent (s : State) : State :=
  match s.link.events with
  | [] => answer .fevt .ok [.name 0, .count 0] s
  | k :: rest =>
      answer .fevt .ok (eventField k :: .count rest.length :: rest.map eventField)
        { s with link := { s.link with events := rest } }

/-- RESTART served: the set is emptied, the access level is 0, the receiver is marked for reset (R201). -/
def serveRestart (s : State) : State :=
  answer .rstr .ok [] (updateRx (fun r => { r with resetMarked := true })
    { dropLevel s with link := { s.link with events := [] } })

/-- "MESTIVA " (R202). -/
def familyText : Text := [0x4D#8, 0x45#8, 0x53#8, 0x54#8, 0x49#8, 0x56#8, 0x41#8, 0x20#8]

/-- "MC-540" (R202). -/
def partText : Text := [0x4D#8, 0x43#8, 0x2D#8, 0x35#8, 0x34#8, 0x30#8]

/-- The content of IDENTIFY (R202). -/
def identity (s : State) : List Field :=
  [.text familyText, .text partText, .num 255 2, .num Config.max32 (uptime s), .num 65535 s.link.earlyCount,
    .num 244 244]

/-- IDENTIFY served: once the reply is built the early-frame count becomes 0 (R202). -/
def serveIdentify (s : State) : State :=
  answer .idnt .ok (identity s) { s with link := { s.link with earlyCount := 0 } }

/-! ### Requests and the blocks that own them (R197) -/

/-- A tag is one of the table of requests (R197). -/
def recognisedTag (t0 t1 t2 t3 : Byte) : Bool :=
  match decodeRequest t0 t1 t2 t3 [] with
  | .unknownRequest _ _ _ _ => false
  | _ => true

/-- The tag of the request that a command is: none for a command that is no request of the host's, an
UNKNOWN_REQUEST of a recognised tag among them (R197). -/
def requestTag : Instr → Option Tag
  | .linkStatus _ => some .lsta | .uplinkStatus _ => some .uqst | .position _ => some .posn
  | .zoneLoad _ => some .zlod | .zonePoint _ => some .zpnt | .zoneClear _ => some .zclr
  | .zoneRead _ => some .zred | .zoneStatus _ => some .zsta | .panelStatus _ => some .psta
  | .boardRead _ => some .bred | .offerTake _ => some .otak | .offerDismiss _ => some .odis
  | .offerFocus _ => some .ofoc | .assignmentAbandon _ => some .aabn | .meterStatus _ => some .msta
  | .meterKey _ => some .mkey | .shiftOpen _ => some .sopn | .shiftClose _ => some .scls
  | .timeSet _ => some .tset | .tripRead _ => some .tred | .totalsRead _ => some .ttot
  | .totalsReinit _ => some .tini | .inboxRead _ => some .ired | .messageMark _ => some .mmrk
  | .messageReply _ => some .mrpl | .messageDelete _ => some .mdel | .sendCanned _ => some .scan
  | .sendText _ => some .stxt | .emergencyRaise _ => some .erai | .emergencyCancel _ => some .ecan
  | .emergencyStatus _ => some .esta | .alertClear _ => some .aclr | .codeEnter _ => some .cent
  | .levelDrop _ => some .ldrp | .settingWrite _ => some .swrt | .settingRead _ => some .sred
  | .tariffWrite _ => some .twrt | .bandsWrite _ => some .bwrt | .cannedWrite _ => some .cwrt
  | .commit _ => some .cmit | .revert _ => some .rvrt | .fetchEvent _ => some .fevt
  | .restart _ => some .rstr | .identify _ => some .idnt
  | .unknownRequest t0 t1 t2 t3 => if recognisedTag t0 t1 t2 t3 then none else some (.other t0 t1 t2 t3)
  | .powerOn | .powerLoss | .cycleHeader _ | .windowOpen | .windowStretch | .missedHeader | .offer _ _
  | .withdraw _ _ | .award _ _ | .lost _ _ | .text _ _ | .page _ | .emergAck _ | .standDown _
  | .remoteReset _ | .hostResetPulseEnd | .slotStart _ _ | .transmissionEnd | .claimDeadline _
  | .statusTimerExpiry | .emergencyBeacon | .parkTimer60s | .enterSparse | .timeOfDaySecond
  | .voiceReqAsserted | .voiceReqReleased | .fixStale | .fixLost | .inputRawChange _ _
  | .firstRecognisedLevel _ | .keyPress _ | .keyRelease _ | .panicArming | .keyStuck _ | .ignitionChange
  | .odometerPulse | .offerExpiry _ | .noAnswer _ | .resumeWindowClose | .meterSecond
  | .tripReportPlacement | .reportHoldOffEnd _ | .totalsPeriodEnd | .storeWriteStart | .storeWriteComplete
  | .receiptPlacement | .reportTimerExpiry | .lockoutEnd | .badFrame _ | .earlyFrame _ | .frameAbandon
  | .replyComplete => none

/-- A recognised request: a payload of the wrong size is answered BAD_ARG, any other is handed to its block
(R197 items 2 and 3). -/
def handOn {α : Type} (tag : Tag) (p : Payload α) (serve : α → State → State) (s : State) : State :=
  match p with
  | .wrongSize _ => answer tag .badArg [] s
  | .fields a => serve a s

/-- A good frame is taken as the request that its bytes spell: an unrecognised tag is answered UNKNOWN with that
tag, a recognised one is handed on. A command that is no request changes nothing (R197). -/
def serveRequest (c : Instr) (s : State) : State :=
  match c with
  | .linkStatus p => handOn .lsta p (fun _ s => answer .lsta .ok (linkContent s) s) s
  | .uplinkStatus p => handOn .uqst p (fun _ => serveUplinkStatus) s
  | .position p => handOn .posn p servePosition s
  | .zoneLoad p => handOn .zlod p serveZoneLoad s
  | .zonePoint p => handOn .zpnt p serveZonePoint s
  | .zoneClear p => handOn .zclr p (fun _ => serveZoneClear) s
  | .zoneRead p => handOn .zred p serveZoneRead s
  | .zoneStatus p => handOn .zsta p (fun _ s => answer .zsta .ok (zoneContent s) s) s
  | .panelStatus p => handOn .psta p servePanelStatus s
  | .boardRead p => handOn .bred p (fun _ => serveBoardRead) s
  | .offerTake p => handOn .otak p serveOfferTake s
  | .offerDismiss p => handOn .odis p serveOfferDismiss s
  | .offerFocus p => handOn .ofoc p serveOfferFocus s
  | .assignmentAbandon p => handOn .aabn p (fun _ => serveAssignmentAbandon) s
  | .meterStatus p => handOn .msta p (fun _ s => answer .msta .ok (meterContent s) s) s
  | .meterKey p => handOn .mkey p serveMeterKey s
  | .shiftOpen p => handOn .sopn p serveShiftOpen s
  | .shiftClose p => handOn .scls p (fun _ => serveShiftClose) s
  | .timeSet p => handOn .tset p serveTimeSet s
  | .tripRead p => handOn .tred p serveTripRead s
  | .totalsRead p => handOn .ttot p (fun _ s => answer .ttot .ok (totalsContent s) s) s
  | .totalsReinit p => handOn .tini p (fun _ => serveTotalsReinit) s
  | .inboxRead p => handOn .ired p serveInboxRead s
  | .messageMark p => handOn .mmrk p serveMessageMark s
  | .messageReply p => handOn .mrpl p serveMessageReply s
  | .messageDelete p => handOn .mdel p serveMessageDelete s
  | .sendCanned p => handOn .scan p serveSendCanned s
  | .sendText p => handOn .stxt p serveSendText s
  | .emergencyRaise p => handOn .erai p (fun _ => serveEmergencyRaise) s
  | .emergencyCancel p => handOn .ecan p serveEmergencyCancel s
  | .emergencyStatus p => handOn .esta p (fun _ s => answer .esta .ok (emergencyContent s) s) s
  | .alertClear p => handOn .aclr p (fun _ => serveAlertClear) s
  | .codeEnter p => handOn .cent p serveCodeEnter s
  | .levelDrop p => handOn .ldrp p (fun _ s => answer .ldrp .ok [] (dropLevel s)) s
  | .settingWrite p => handOn .swrt p serveSettingWrite s
  | .settingRead p => handOn .sred p serveSettingRead s
  | .tariffWrite p => handOn .twrt p serveTariffWrite s
  | .bandsWrite p => handOn .bwrt p serveBandsWrite s
  | .cannedWrite p => handOn .cwrt p serveCannedWrite s
  | .commit p => handOn .cmit p (fun _ => serveCommit) s
  | .revert p => handOn .rvrt p (fun _ => serveRevert) s
  | .fetchEvent p => handOn .fevt p (fun _ => serveFetchEvent) s
  | .restart p => handOn .rstr p (fun _ => serveRestart) s
  | .identify p => handOn .idnt p (fun _ => serveIdentify) s
  | .unknownRequest t0 t1 t2 t3 => answer (.other t0 t1 t2 t3) .unknown [] s
  | .powerOn | .powerLoss | .cycleHeader _ | .windowOpen | .windowStretch | .missedHeader | .offer _ _
  | .withdraw _ _ | .award _ _ | .lost _ _ | .text _ _ | .page _ | .emergAck _ | .standDown _
  | .remoteReset _ | .hostResetPulseEnd | .slotStart _ _ | .transmissionEnd | .claimDeadline _
  | .statusTimerExpiry | .emergencyBeacon | .parkTimer60s | .enterSparse | .timeOfDaySecond
  | .voiceReqAsserted | .voiceReqReleased | .fixStale | .fixLost | .inputRawChange _ _
  | .firstRecognisedLevel _ | .keyPress _ | .keyRelease _ | .panicArming | .keyStuck _ | .ignitionChange
  | .odometerPulse | .offerExpiry _ | .noAnswer _ | .resumeWindowClose | .meterSecond
  | .tripReportPlacement | .reportHoldOffEnd _ | .totalsPeriodEnd | .storeWriteStart | .storeWriteComplete
  | .receiptPlacement | .reportTimerExpiry | .lockoutEnd | .badFrame _ | .earlyFrame _ | .frameAbandon
  | .replyComplete => s

/-- The tag and payload bytes of a good frame are taken as a request (R197). -/
def serveBody (body : List Byte) (s : State) : State :=
  match decodeBody body with
  | none => s
  | some c => serveRequest c s

/-! ### The frame receiver (R192, R194, R195, R196) -/

/-- A lead byte in HUNT begins a frame, an early one while a reply is owed (R194, R196). -/
def beginFrame (s : State) : State :=
  let early := s.link.owed.isSome
  let t := updateRx (fun r => { r with
    phase := .length, early := early, broken := false, length := 0, body := [], check := [] }) s
  if early then beginEarlyFrame t else t

/-- A frame ends bad: an early one is discarded, any other is answered BAD_FRAME with the tag "????" (R195,
R196). -/
def endBad (s : State) : State :=
  let t := hunt s
  if s.link.rx.early then t else answer .bad .badFrame [] t

/-- A complete frame is judged after its second check byte and the receiver returns to HUNT: an early one is
discarded, a bad one answered BAD_FRAME, and a good one is taken as a request (R194, R195, R196). -/
def judgeFrame (s : State) : State :=
  let r := s.link.rx
  if r.early ∨ r.broken ∨ r.check ≠ checkBytes (byte r.length :: r.body) then endBad s
  else serveBody r.body (hunt s)

/-- A byte of a frame is received in LENGTH, BODY or CHECK, or hunted over (R194). -/
def takeByte (b : LineByte) (s : State) : State :=
  let r := s.link.rx
  match r.phase with
  | .hunt => if b.value = 0x5A#8 ∧ ¬ b.broken then beginFrame s else s
  | .length =>
      let n := b.value.toNat
      let t := updateRx (fun r => { r with length := n, broken := r.broken || b.broken }) s
      if 4 ≤ n ∧ n ≤ 244 then updateRx (fun r => { r with phase := .body }) t else endBad t
  | .body =>
      updateRx (fun r =>
        let body := r.body ++ [b.value]
        { r with
          body := body, broken := r.broken || b.broken
          phase := if body.length ≥ r.length then .check else .body }) s
  | .check =>
      let t := updateRx (fun r => { r with check := r.check ++ [b.value], broken := r.broken || b.broken }) s
      if t.link.rx.check.length ≥ 2 then judgeFrame t else t

/-- Bytes received one after another at this instant, each dating the gap that follows it (R194). -/
def takeLineBytes : List LineByte → State → State
  | [], s => s
  | b :: bs, s => takeLineBytes bs (takeByte b (updateRx (fun r => { r with lastByte := s.now }) s))

/-- Bytes reach a powered part, a frame that a long gap cut short having been dropped (R194). -/
def receiveBytes (bytes : List LineByte) (s : State) : State :=
  if s.powered ∧ bytes ≠ [] then takeLineBytes bytes (dropStale s) else s

/-- Bytes as a line without faults gives them (R192). -/
def unbroken (bytes : List Byte) : List LineByte := bytes.map fun b => ⟨b, false⟩

/-- The bytes of a recognised request's frame (R193, R204). -/
def requestFrame (c : Instr) : List Byte :=
  match requestTag c with
  | none => []
  | some tag => frameBytes (tag.chars ++ requestPayload c)

/-- A whole good frame begins in HUNT: it is early and discarded while a reply is owed, and a request
otherwise (R194, R196). -/
def huntFrame (c : Instr) (s : State) : State :=
  if s.link.owed.isSome then beginEarlyFrame s else serveRequest c s

/-- A request as a whole good frame reaches the link, its bytes at one instant (DESIGN CHOICE, log entry 11). In
HUNT it is taken whole; while the receiver follows another frame its bytes are that frame's (R194, R196). -/
def receiveFrame (c : Instr) (follow : State → State) (s : State) : State :=
  if s.powered then
    let t := dropStale s
    if t.link.rx.phase = .hunt then huntFrame c t else follow t
  else s

/-- A recognised request reaches the link: the bytes that another frame does not take are received as the line goes
on (R194). -/
def request (c : Instr) (s : State) : State := receiveFrame c (takeLineBytes (unbroken (requestFrame c))) s

/-- The bytes of a frame with an unrecognised tag are received while another is followed. Its payload, of at most 240
bytes, is free: the command does not carry it (R193; DESIGN CHOICE, log entry 11). -/
def followUnknown (t0 t1 t2 t3 : Byte) (s : State) : State :=
  takeLineBytes (unbroken (frameBytes ([t0, t1, t2, t3] ++ (Config.unknownPayload s.freeIndex).take 240)))
    { s with freeIndex := s.freeIndex + 1 }

/-- UNKNOWN_REQUEST (R197): answered UNKNOWN with the tag it carried. -/
def execUnknownRequest (t0 t1 t2 t3 : Byte) (s : State) : Host.Outcome State Fault Refusal :=
  .next (if recognisedTag t0 t1 t2 t3 then s
    else receiveFrame (.unknownRequest t0 t1 t2 t3) (followUnknown t0 t1 t2 t3) s)

/-- BAD_FRAME (R195). -/
def execBadFrame (bytes : List LineByte) (s : State) : Host.Outcome State Fault Refusal :=
  .next (receiveBytes bytes s)

/-- EARLY_FRAME (R196): a frame that begins while a reply is owed, or goes on after having begun so. -/
def execEarlyFrame (bytes : List LineByte) (s : State) : Host.Outcome State Fault Refusal :=
  .next (if s.link.owed.isSome ∨ (dropStale s).link.rx.early then receiveBytes bytes s else s)

/-- The gap that abandons a frame: the first millisecond more than 20 after its last byte. -/
def frameAbandonDue (s : State) : Option Nat :=
  dueWhen (s.powered && !(s.link.rx.phase == .hunt)) (s.link.rx.lastByte + (Config.gapMs + 1))

/-- FRAME_ABANDON (R194): the frame is dropped with no reply and no event. -/
def execFrameAbandon (s : State) : Host.Outcome State Fault Refusal :=
  .next (atInstant (frameAbandonDue s) hunt s)

/-! ### Sending a reply (R192, R196, R198) -/

/-- Milliseconds that bytes take on the line at 115,200 bit/s, ten bits each (R192). -/
def lineMs (bytes : Nat) : Nat := (bytes * 10000 + 115199) / 115200

/-- The earliest end of a reply: its bytes sent from the instant its request was judged (R192, R198). -/
def replyEndDue (s : State) : Option Nat :=
  if s.powered then s.link.owed.map fun o => o.since + lineMs (replyBytes o.reply).length else none

/-- The last byte of the reply is sent: no reply is owed, and a receiver marked for reset returns to HUNT
unless it still follows an early frame (R196, R201). -/
def endReply (s : State) : State :=
  let t := { s with link := { s.link with owed := none } }
  if s.link.rx.resetMarked ∧ ¬ (s.link.rx.phase ≠ .hunt ∧ s.link.rx.early) then hunt t else t

/-- REPLY_COMPLETE (R196). -/
def execReplyComplete (s : State) : Host.Outcome State Fault Refusal :=
  .next (atInstant (replyEndDue s) endReply s)

end Sys2Proof.Machine
end

