-- ==== Sys2Proof/Machine/Clock.lean ====
section
/-! DEFINITION. The part's own clock: the steps that its timers and conditions bring about, each with the
instant at which it comes about. Machine/Step.lean lets them come about on an empty queue (DESIGN CHOICE, log
entries 2 and 3). -/

namespace Sys2Proof.Machine

/-- The keys of the panel. -/
def allKeys : List Key := [.hire, .stop, .free, .extra, .accept, .panic]

/-- The debounced inputs. -/
def allInputs : List Input := .ignition :: allKeys.map .key

/-- The slot transmission under way ends at the latest with its slot; a beacon is a SHORT item and fits as
long (R1, R7). -/
def transmissionEndDue (s : State) : Option Nat :=
  if s.powered then s.receiver.transmission.map (·.start + Config.slotLengthMs) else none

/-- A write completes at the latest 20 ms after its start (R138). -/
def writeCompleteDue (s : State) : Option Nat :=
  if s.powered then s.writer.writing.map (·.start + Config.writeMs) else none

/-- A reply ends at the latest when its first byte went 5 ms after the judging (R198). -/
def replyLatest (s : State) : Option Nat := (replyEndDue s).map (· + 5)

/-- The next slot of the cycle, with the world's draw (R29, R32; DESIGN CHOICE, log entry 4). -/
def nextSlotStep (s : State) : List (Option Nat × Instr) :=
  if h : s.receiver.nextSlot < 10 then
    [(slotDue s.receiver.nextSlot s,
      .slotStart ⟨s.receiver.nextSlot, h⟩ (Fin.ofNat 16 (Config.slotDraw s.freeIndex)))]
  else []

/-- Steps of the receiver and the scheduler. -/
def radioSteps (s : State) : List (Option Nat × Instr) :=
  [ (hostResetDue s, .hostResetPulseEnd), (windowOpenDue s, .windowOpen), (windowStretchDue s, .windowStretch),
    (missedHeaderDue s, .missedHeader), (transmissionEndDue s, .transmissionEnd),
    (statusTimerDue s, .statusTimerExpiry), (beaconDue s, .emergencyBeacon), (parkMarkDue s, .parkTimer60s),
    (enterSparseDue s, .enterSparse), (timeOfDayDue s, .timeOfDaySecond) ]
  ++ nextSlotStep s
  ++ s.scheduler.queue.map fun e => (claimDeadlineDue e.key s, .claimDeadline e.key)

/-- Steps of the inputs. -/
def inputSteps (s : State) : List (Option Nat × Instr) :=
  [(ignitionDue s, .ignitionChange), (panicDue s, .panicArming)]
  ++ allInputs.map (fun i => (firstLevelDue i s, .firstRecognisedLevel i))
  ++ allKeys.map (fun k => (pressDue k s, .keyPress k))
  ++ allKeys.map (fun k => (releaseDue k s, .keyRelease k))
  ++ allKeys.map (fun k => (stuckDue k s, .keyStuck k))

/-- Steps of the board, the locator, the meter, the accounts, the writer, the inbox, the emergency, the store
and the link. -/
def blockSteps (s : State) : List (Option Nat × Instr) :=
  [ (fixAgeDue .fresh Config.fixStaleMs s, .fixStale), (fixAgeDue .stale Config.fixLostMs s, .fixLost),
    (resumeCloseDue s, .resumeWindowClose), (meterSecondDue s, .meterSecond),
    (tripReportDue s, .tripReportPlacement), (totalsPeriodDue s, .totalsPeriodEnd),
    (writeStartDue s, .storeWriteStart), (writeCompleteDue s, .storeWriteComplete),
    (receiptDue s, .receiptPlacement), (reportDue s, .reportTimerExpiry), (lockoutDue s, .lockoutEnd),
    (frameAbandonDue s, .frameAbandon), (replyLatest s, .replyComplete) ]
  ++ s.board.entries.map (fun o => (offerExpiryDue o.number s, .offerExpiry o.number))
  ++ s.board.entries.map (fun o => (noAnswerDue o.number s, .noAnswer o.number))
  ++ s.accounts.log.map (fun e => (holdOffDue e.record.seq s, .reportHoldOffEnd e.record.seq))

/-- Every step of the part's own with its instant, none where its conditions do not hold. -/
def ownSteps (s : State) : List (Option Nat × Instr) := radioSteps s ++ inputSteps s ++ blockSteps s

/-- A step is due: its instant has come. -/
def isDue (now : Nat) (x : Option Nat × Instr) : Bool :=
  match x.1 with
  | none => false
  | some t => decide (t ≤ now)

/-- The steps that are due now. -/
def dueSteps (s : State) : List Instr := ((ownSteps s).filter (isDue s.now)).map (·.2)

/-- One of the steps due is put in the queue: which of several goes first is free (DESIGN CHOICE, log entry 3). -/
def queueDue (due : List Instr) (s : State) : State :=
  { s with
    pending := (due.drop (Config.firstStep s.freeIndex % due.length)).take 1
    freeIndex := s.freeIndex + 1 }

/-- What passes on an empty queue: nothing without power; else a step that is due is queued, or, when none
is, uptime moves on by one millisecond (DESIGN CHOICE, log entry 2). -/
def idle (s : State) : State :=
  if s.powered then
    match dueSteps s with
    | [] => { s with now := s.now + 1 }
    | d :: ds => queueDue (d :: ds) s
  else s

end Sys2Proof.Machine
end

