-- ==== Sys2Proof/Machine/Requests.lean ====
section
/-! DEFINITION. The meanings of the host's requests (chapter 11, Requests and where they are specified): each is a
whole good frame that reaches the link, and the block that owns it serves it. -/

namespace Sys2Proof.Machine

/-! ### The channel receiver -/

/-- LINK_STATUS (R22). -/
def execLinkStatus (p : Payload Unit) (s : State) : Host.Outcome State Fault Refusal :=
  .next (request (.linkStatus p) s)

/-! ### The uplink scheduler -/

/-- UPLINK_STATUS (R45). -/
def execUplinkStatus (p : Payload Unit) (s : State) : Host.Outcome State Fault Refusal :=
  .next (request (.uplinkStatus p) s)

/-! ### The zone locator -/

/-- POSITION (R47). -/
def execPosition (p : Payload PositionArgs) (s : State) : Host.Outcome State Fault Refusal :=
  .next (request (.position p) s)

/-- ZONE_LOAD (R50). -/
def execZoneLoad (p : Payload (List RectArgs)) (s : State) : Host.Outcome State Fault Refusal :=
  .next (request (.zoneLoad p) s)

/-- ZONE_POINT (R50). -/
def execZonePoint (p : Payload Nat) (s : State) : Host.Outcome State Fault Refusal :=
  .next (request (.zonePoint p) s)

/-- ZONE_CLEAR (R50). -/
def execZoneClear (p : Payload Unit) (s : State) : Host.Outcome State Fault Refusal :=
  .next (request (.zoneClear p) s)

/-- ZONE_READ (R51). -/
def execZoneRead (p : Payload ZoneReadArgs) (s : State) : Host.Outcome State Fault Refusal :=
  .next (request (.zoneRead p) s)

/-- ZONE_STATUS (R56). -/
def execZoneStatus (p : Payload Unit) (s : State) : Host.Outcome State Fault Refusal :=
  .next (request (.zoneStatus p) s)

/-! ### The panel scanner -/

/-- PANEL_STATUS (R66). -/
def execPanelStatus (p : Payload Nat) (s : State) : Host.Outcome State Fault Refusal :=
  .next (request (.panelStatus p) s)

/-! ### The offer board -/

/-- OFFER_FOCUS (R75). -/
def execOfferFocus (p : Payload Nat) (s : State) : Host.Outcome State Fault Refusal :=
  .next (request (.offerFocus p) s)

/-- OFFER_TAKE (R78). -/
def execOfferTake (p : Payload Nat) (s : State) : Host.Outcome State Fault Refusal :=
  .next (request (.offerTake p) s)

/-- OFFER_DISMISS (R90). -/
def execOfferDismiss (p : Payload Nat) (s : State) : Host.Outcome State Fault Refusal :=
  .next (request (.offerDismiss p) s)

/-- ASSIGNMENT_ABANDON (R89). -/
def execAssignmentAbandon (p : Payload Unit) (s : State) : Host.Outcome State Fault Refusal :=
  .next (request (.assignmentAbandon p) s)

/-- BOARD_READ (R92). -/
def execBoardRead (p : Payload Unit) (s : State) : Host.Outcome State Fault Refusal :=
  .next (request (.boardRead p) s)

/-! ### The meter engine -/

/-- METER_KEY (R105). -/
def execMeterKey (p : Payload Nat) (s : State) : Host.Outcome State Fault Refusal :=
  .next (request (.meterKey p) s)

/-- SHIFT_OPEN (R98). -/
def execShiftOpen (p : Payload Nat) (s : State) : Host.Outcome State Fault Refusal :=
  .next (request (.shiftOpen p) s)

/-- SHIFT_CLOSE (R99). -/
def execShiftClose (p : Payload Unit) (s : State) : Host.Outcome State Fault Refusal :=
  .next (request (.shiftClose p) s)

/-- METER_STATUS (R120). -/
def execMeterStatus (p : Payload Unit) (s : State) : Host.Outcome State Fault Refusal :=
  .next (request (.meterStatus p) s)

/-- TIME_SET (R121). -/
def execTimeSet (p : Payload TimeArgs) (s : State) : Host.Outcome State Fault Refusal :=
  .next (request (.timeSet p) s)

/-! ### The trip log and totals unit -/

/-- TRIP_READ (R140). -/
def execTripRead (p : Payload TripSelector) (s : State) : Host.Outcome State Fault Refusal :=
  .next (request (.tripRead p) s)

/-- TOTALS_READ (R141). -/
def execTotalsRead (p : Payload Unit) (s : State) : Host.Outcome State Fault Refusal :=
  .next (request (.totalsRead p) s)

/-- TOTALS_REINIT (R134). -/
def execTotalsReinit (p : Payload Unit) (s : State) : Host.Outcome State Fault Refusal :=
  .next (request (.totalsReinit p) s)

/-! ### The message inbox -/

/-- MESSAGE_REPLY (R150). -/
def execMessageReply (p : Payload ReplyArgs) (s : State) : Host.Outcome State Fault Refusal :=
  .next (request (.messageReply p) s)

/-- MESSAGE_MARK (R151). -/
def execMessageMark (p : Payload Nat) (s : State) : Host.Outcome State Fault Refusal :=
  .next (request (.messageMark p) s)

/-- MESSAGE_DELETE (R152). -/
def execMessageDelete (p : Payload Nat) (s : State) : Host.Outcome State Fault Refusal :=
  .next (request (.messageDelete p) s)

/-- INBOX_READ (R153). -/
def execInboxRead (p : Payload Nat) (s : State) : Host.Outcome State Fault Refusal :=
  .next (request (.inboxRead p) s)

/-- SEND_CANNED (R156). -/
def execSendCanned (p : Payload Nat) (s : State) : Host.Outcome State Fault Refusal :=
  .next (request (.sendCanned p) s)

/-- SEND_TEXT (R156). -/
def execSendText (p : Payload Text) (s : State) : Host.Outcome State Fault Refusal :=
  .next (request (.sendText p) s)

/-! ### The emergency controller -/

/-- EMERGENCY_RAISE (R174). -/
def execEmergencyRaise (p : Payload Unit) (s : State) : Host.Outcome State Fault Refusal :=
  .next (request (.emergencyRaise p) s)

/-- EMERGENCY_CANCEL (R166). -/
def execEmergencyCancel (p : Payload Digits) (s : State) : Host.Outcome State Fault Refusal :=
  .next (request (.emergencyCancel p) s)

/-- EMERGENCY_STATUS (R175). -/
def execEmergencyStatus (p : Payload Unit) (s : State) : Host.Outcome State Fault Refusal :=
  .next (request (.emergencyStatus p) s)

/-- ALERT_CLEAR (R170). -/
def execAlertClear (p : Payload Unit) (s : State) : Host.Outcome State Fault Refusal :=
  .next (request (.alertClear p) s)

/-! ### The settings store -/

/-- SETTING_WRITE (R181). -/
def execSettingWrite (p : Payload SettingArgs) (s : State) : Host.Outcome State Fault Refusal :=
  .next (request (.settingWrite p) s)

/-- CANNED_WRITE (R181). -/
def execCannedWrite (p : Payload CannedArgs) (s : State) : Host.Outcome State Fault Refusal :=
  .next (request (.cannedWrite p) s)

/-- TARIFF_WRITE (R182). -/
def execTariffWrite (p : Payload TariffArgs) (s : State) : Host.Outcome State Fault Refusal :=
  .next (request (.tariffWrite p) s)

/-- BANDS_WRITE (R182). -/
def execBandsWrite (p : Payload BandsArgs) (s : State) : Host.Outcome State Fault Refusal :=
  .next (request (.bandsWrite p) s)

/-- SETTING_READ (R183). -/
def execSettingRead (p : Payload SettingSelector) (s : State) : Host.Outcome State Fault Refusal :=
  .next (request (.settingRead p) s)

/-- COMMIT (R184). -/
def execCommit (p : Payload Unit) (s : State) : Host.Outcome State Fault Refusal :=
  .next (request (.commit p) s)

/-- REVERT (R185). -/
def execRevert (p : Payload Unit) (s : State) : Host.Outcome State Fault Refusal :=
  .next (request (.revert p) s)

/-- CODE_ENTER (R188). -/
def execCodeEnter (p : Payload Digits) (s : State) : Host.Outcome State Fault Refusal :=
  .next (request (.codeEnter p) s)

/-- LEVEL_DROP (R190). -/
def execLevelDrop (p : Payload Unit) (s : State) : Host.Outcome State Fault Refusal :=
  .next (request (.levelDrop p) s)

/-! ### The host link -/

/-- FETCH_EVENT (R200). -/
def execFetchEvent (p : Payload Unit) (s : State) : Host.Outcome State Fault Refusal :=
  .next (request (.fetchEvent p) s)

/-- RESTART (R201). -/
def execRestart (p : Payload Unit) (s : State) : Host.Outcome State Fault Refusal :=
  .next (request (.restart p) s)

/-- IDENTIFY (R202). -/
def execIdentify (p : Payload Unit) (s : State) : Host.Outcome State Fault Refusal :=
  .next (request (.identify p) s)

end Sys2Proof.Machine
end

