-- ==== Sys2Proof/Machine/Dispatch.lean ====
section
/-! DEFINITION. The dispatch of a command to its meaning, one arm per row of spec/opcode_table.json. -/

namespace Sys2Proof.Machine

def exec (i : Instr) (s : State) : Host.Outcome State Fault Refusal :=
  match i with
  | .powerOn => Sys2Proof.Machine.execPowerOn s
  | .powerLoss => Sys2Proof.Machine.execPowerLoss s
  | .cycleHeader h => Sys2Proof.Machine.execCycleHeader h s
  | .windowOpen => Sys2Proof.Machine.execWindowOpen s
  | .windowStretch => Sys2Proof.Machine.execWindowStretch s
  | .missedHeader => Sys2Proof.Machine.execMissedHeader s
  | .offer head o => Sys2Proof.Machine.execOffer head o s
  | .withdraw head number => Sys2Proof.Machine.execWithdraw head number s
  | .award head number => Sys2Proof.Machine.execAward head number s
  | .lost head number => Sys2Proof.Machine.execLost head number s
  | .text head t => Sys2Proof.Machine.execText head t s
  | .page head => Sys2Proof.Machine.execPage head s
  | .emergAck head => Sys2Proof.Machine.execEmergAck head s
  | .standDown head => Sys2Proof.Machine.execStandDown head s
  | .remoteReset head => Sys2Proof.Machine.execRemoteReset head s
  | .hostResetPulseEnd => Sys2Proof.Machine.execHostResetPulseEnd s
  | .slotStart slot draw => Sys2Proof.Machine.execSlotStart slot draw s
  | .transmissionEnd => Sys2Proof.Machine.execTransmissionEnd s
  | .claimDeadline number => Sys2Proof.Machine.execClaimDeadline number s
  | .statusTimerExpiry => Sys2Proof.Machine.execStatusTimerExpiry s
  | .emergencyBeacon => Sys2Proof.Machine.execEmergencyBeacon s
  | .parkTimer60s => Sys2Proof.Machine.execParkTimer60s s
  | .enterSparse => Sys2Proof.Machine.execEnterSparse s
  | .timeOfDaySecond => Sys2Proof.Machine.execTimeOfDaySecond s
  | .voiceReqAsserted => Sys2Proof.Machine.execVoiceReqAsserted s
  | .voiceReqReleased => Sys2Proof.Machine.execVoiceReqReleased s
  | .position p => Sys2Proof.Machine.execPosition p s
  | .fixStale => Sys2Proof.Machine.execFixStale s
  | .fixLost => Sys2Proof.Machine.execFixLost s
  | .zoneLoad p => Sys2Proof.Machine.execZoneLoad p s
  | .zonePoint p => Sys2Proof.Machine.execZonePoint p s
  | .zoneClear p => Sys2Proof.Machine.execZoneClear p s
  | .zoneRead p => Sys2Proof.Machine.execZoneRead p s
  | .zoneStatus p => Sys2Proof.Machine.execZoneStatus p s
  | .inputRawChange input high => Sys2Proof.Machine.execInputRawChange input high s
  | .firstRecognisedLevel input => Sys2Proof.Machine.execFirstRecognisedLevel input s
  | .keyPress k => Sys2Proof.Machine.execKeyPress k s
  | .keyRelease k => Sys2Proof.Machine.execKeyRelease k s
  | .panicArming => Sys2Proof.Machine.execPanicArming s
  | .keyStuck k => Sys2Proof.Machine.execKeyStuck k s
  | .ignitionChange => Sys2Proof.Machine.execIgnitionChange s
  | .odometerPulse => Sys2Proof.Machine.execOdometerPulse s
  | .panelStatus p => Sys2Proof.Machine.execPanelStatus p s
  | .offerExpiry number => Sys2Proof.Machine.execOfferExpiry number s
  | .noAnswer number => Sys2Proof.Machine.execNoAnswer number s
  | .offerFocus p => Sys2Proof.Machine.execOfferFocus p s
  | .offerTake p => Sys2Proof.Machine.execOfferTake p s
  | .offerDismiss p => Sys2Proof.Machine.execOfferDismiss p s
  | .assignmentAbandon p => Sys2Proof.Machine.execAssignmentAbandon p s
  | .boardRead p => Sys2Proof.Machine.execBoardRead p s
  | .resumeWindowClose => Sys2Proof.Machine.execResumeWindowClose s
  | .meterSecond => Sys2Proof.Machine.execMeterSecond s
  | .meterKey p => Sys2Proof.Machine.execMeterKey p s
  | .shiftOpen p => Sys2Proof.Machine.execShiftOpen p s
  | .shiftClose p => Sys2Proof.Machine.execShiftClose p s
  | .meterStatus p => Sys2Proof.Machine.execMeterStatus p s
  | .timeSet p => Sys2Proof.Machine.execTimeSet p s
  | .tripReportPlacement => Sys2Proof.Machine.execTripReportPlacement s
  | .reportHoldOffEnd number => Sys2Proof.Machine.execReportHoldOffEnd number s
  | .totalsPeriodEnd => Sys2Proof.Machine.execTotalsPeriodEnd s
  | .storeWriteStart => Sys2Proof.Machine.execStoreWriteStart s
  | .storeWriteComplete => Sys2Proof.Machine.execStoreWriteComplete s
  | .tripRead p => Sys2Proof.Machine.execTripRead p s
  | .totalsRead p => Sys2Proof.Machine.execTotalsRead p s
  | .totalsReinit p => Sys2Proof.Machine.execTotalsReinit p s
  | .receiptPlacement => Sys2Proof.Machine.execReceiptPlacement s
  | .inboxRead p => Sys2Proof.Machine.execInboxRead p s
  | .messageMark p => Sys2Proof.Machine.execMessageMark p s
  | .messageReply p => Sys2Proof.Machine.execMessageReply p s
  | .messageDelete p => Sys2Proof.Machine.execMessageDelete p s
  | .sendCanned p => Sys2Proof.Machine.execSendCanned p s
  | .sendText p => Sys2Proof.Machine.execSendText p s
  | .uplinkStatus p => Sys2Proof.Machine.execUplinkStatus p s
  | .reportTimerExpiry => Sys2Proof.Machine.execReportTimerExpiry s
  | .emergencyRaise p => Sys2Proof.Machine.execEmergencyRaise p s
  | .emergencyCancel p => Sys2Proof.Machine.execEmergencyCancel p s
  | .emergencyStatus p => Sys2Proof.Machine.execEmergencyStatus p s
  | .alertClear p => Sys2Proof.Machine.execAlertClear p s
  | .settingWrite p => Sys2Proof.Machine.execSettingWrite p s
  | .cannedWrite p => Sys2Proof.Machine.execCannedWrite p s
  | .tariffWrite p => Sys2Proof.Machine.execTariffWrite p s
  | .bandsWrite p => Sys2Proof.Machine.execBandsWrite p s
  | .settingRead p => Sys2Proof.Machine.execSettingRead p s
  | .commit p => Sys2Proof.Machine.execCommit p s
  | .revert p => Sys2Proof.Machine.execRevert p s
  | .codeEnter p => Sys2Proof.Machine.execCodeEnter p s
  | .lockoutEnd => Sys2Proof.Machine.execLockoutEnd s
  | .levelDrop p => Sys2Proof.Machine.execLevelDrop p s
  | .fetchEvent p => Sys2Proof.Machine.execFetchEvent p s
  | .restart p => Sys2Proof.Machine.execRestart p s
  | .identify p => Sys2Proof.Machine.execIdentify p s
  | .linkStatus p => Sys2Proof.Machine.execLinkStatus p s
  | .unknownRequest t0 t1 t2 t3 => Sys2Proof.Machine.execUnknownRequest t0 t1 t2 t3 s
  | .badFrame bytes => Sys2Proof.Machine.execBadFrame bytes s
  | .earlyFrame bytes => Sys2Proof.Machine.execEarlyFrame bytes s
  | .frameAbandon => Sys2Proof.Machine.execFrameAbandon s
  | .replyComplete => Sys2Proof.Machine.execReplyComplete s

end Sys2Proof.Machine
end

