-- ==== Sys2Proof/Safety.lean ====
section
/-! DEFINITION. What a safe run keeps: the invariants that the manual's prose states of the whole part, in the
terms that claims use, and the conditions under which the part hears what reaches it. -/

namespace Sys2Proof.Machine

/-! ### Kinds of commands -/

/-- The request commands whose payload is of the wrong size, with its bytes (R197 item 2). -/
def wrongSizeRequests (bytes : List Byte) : List Instr :=
  [.linkStatus (.wrongSize bytes), .uplinkStatus (.wrongSize bytes), .position (.wrongSize bytes),
    .zoneLoad (.wrongSize bytes), .zonePoint (.wrongSize bytes), .zoneClear (.wrongSize bytes),
    .zoneRead (.wrongSize bytes), .zoneStatus (.wrongSize bytes), .panelStatus (.wrongSize bytes),
    .boardRead (.wrongSize bytes), .offerTake (.wrongSize bytes), .offerDismiss (.wrongSize bytes),
    .offerFocus (.wrongSize bytes), .assignmentAbandon (.wrongSize bytes), .meterStatus (.wrongSize bytes),
    .meterKey (.wrongSize bytes), .shiftOpen (.wrongSize bytes), .shiftClose (.wrongSize bytes),
    .timeSet (.wrongSize bytes), .tripRead (.wrongSize bytes), .totalsRead (.wrongSize bytes),
    .totalsReinit (.wrongSize bytes), .inboxRead (.wrongSize bytes), .messageMark (.wrongSize bytes),
    .messageReply (.wrongSize bytes), .messageDelete (.wrongSize bytes), .sendCanned (.wrongSize bytes),
    .sendText (.wrongSize bytes), .emergencyRaise (.wrongSize bytes), .emergencyCancel (.wrongSize bytes),
    .emergencyStatus (.wrongSize bytes), .alertClear (.wrongSize bytes), .codeEnter (.wrongSize bytes),
    .levelDrop (.wrongSize bytes), .settingWrite (.wrongSize bytes), .settingRead (.wrongSize bytes),
    .tariffWrite (.wrongSize bytes), .bandsWrite (.wrongSize bytes), .cannedWrite (.wrongSize bytes),
    .commit (.wrongSize bytes), .revert (.wrongSize bytes), .fetchEvent (.wrongSize bytes),
    .restart (.wrongSize bytes), .identify (.wrongSize bytes)]

/-- The head of the downlink item that a command is, with whether its kind takes UNIT targets alone (R5). -/
def itemHead : Instr → Option (ItemHead × Bool)
  | .offer head _ | .withdraw head _ | .text head _ => some (head, false)
  | .award head _ | .lost head _ | .page head | .emergAck head | .standDown head
  | .remoteReset head => some (head, true)
  | _ => none

/-! ### Conditions under which a command is heard -/

/-- A whole request that reaches the link is judged at once: the part is powered, its receiver hunts and no
reply is owed (R194, R196). -/
abbrev Listening (s : State) : Prop := s.powered = true ∧ s.link.rx.phase = .hunt ∧ s.link.owed = none

/-- An item block is received: the part is powered, it decodes the cycle, which in SPARSE watch is a listened one
and is not yet over, and fewer than eight blocks of the cycle have come (R4, R15). -/
abbrev ItemsHeard (s : State) : Prop :=
  s.powered = true ∧ s.receiver.sync = .locked ∧ s.receiver.itemsOpen = true
    ∧ s.now < s.receiver.cycleStart + 1200
    ∧ (s.receiver.watch = .full ∨ s.receiver.watch = .sparse ∧ s.receiver.cycleListened = true)
    ∧ s.receiver.itemCount < 8

/-- The item names this part by its unit address, which is set (R6). -/
abbrev NamesThisUnit (head : ItemHead) (s : State) : Prop :=
  head.target = 2 ∧ head.value = s.store.working.address ∧ s.store.working.address ≠ 0

/-- A UNIT item block for this part is received in FULL watch: its check and its encoding are right and it names
the unit address (R4, R6). -/
abbrev ForThisUnit (head : ItemHead) (s : State) : Prop :=
  ItemsHeard s ∧ head.checkOk = true ∧ head.encodingOk = true ∧ NamesThisUnit head s ∧ s.receiver.watch = .full

/-- A UNIT item block for this part is received in a listened cycle of SPARSE watch (R15). -/
abbrev ForThisUnitInSparse (head : ItemHead) (s : State) : Prop :=
  ItemsHeard s ∧ head.checkOk = true ∧ head.encodingOk = true ∧ NamesThisUnit head s ∧ s.receiver.watch = .sparse

/-- An item block for the fleet or for a zone is received, in FULL or in SPARSE watch (R4, R6). -/
abbrev ForManyUnits (head : ItemHead) (s : State) : Prop :=
  ItemsHeard s ∧ head.checkOk = true ∧ head.encodingOk = true ∧
    (head.target = 0 ∨ head.target = 1 ∧ 1 ≤ head.value ∧ head.value ≤ 250)

/-- The part with one more item block of the cycle counted (R4). -/
abbrev blockCounted (s : State) : State :=
  { s with receiver := { s.receiver with itemCount := s.receiver.itemCount + 1 } }

/-- The part back in FULL watch with LINK raised; the next expected header, its span and the hold on the SPARSE test
are as another state has them (R17). -/
abbrev backToFull (s t : State) : State :=
  { s with
    receiver := { s.receiver with
      watch := .full, expected := t.receiver.expected, span := t.receiver.span
      sparseHeld := t.receiver.sparseHeld }
    link := { s.link with events := insertEvent .link s.link.events } }

/-- A header block is good for a fleet code: each condition of R2, its slot entries read as R206 gives them. -/
structure HeaderGood (h : HeaderBlock) (fleetCode : Nat) : Prop where
  check : h.checkOk = true
  fleet : h.fleetCode = fleetCode
  cycle : h.cycle ≤ 4095
  day : h.dayType ≤ 1
  second : h.second ≤ 86399
  tenSlots : h.slots.length = 10
  slots : ∀ f ∈ h.slots, f.kind ≤ 3 ∧ (f.kind = 3 → 1 ≤ f.address ∧ f.address ≤ 4094)
  pairs : h.heard.length ≤ 10
  heard : ∀ p ∈ h.heard, p.slot ≤ 9 ∧ 1 ≤ p.address ∧ p.address ≤ 4094

/-- The conditions of R29 and R18 at a slot's start: sync LOCKED, the radio neither granted the transmitter nor
waiting for it, the unit address in 1 to 4,094. -/
abbrev MayTransmit (s : State) : Prop :=
  s.receiver.sync = .locked ∧ s.receiver.voice ≠ .granted ∧ s.receiver.voice ≠ .pending
    ∧ 1 ≤ s.store.working.address ∧ s.store.working.address ≤ 4094

/-! ### Ranges and effects that several rules share -/

/-- The fields of an OFFER lie in the ranges of R5. -/
abbrev OfferInRange (o : OfferFields) : Prop :=
  1 ≤ o.number ∧ o.number ≤ 65535 ∧ o.cls ≤ 2 ∧ o.nextJob ≤ 1 ∧ 1 ≤ o.pickup ∧ o.pickup ≤ 250 ∧
    5 ≤ o.timeToLive ∧ o.timeToLive ≤ 255 ∧
    (∀ x, o.text = some x → x.length ≤ 40 ∧ ∀ b ∈ x, 0x20 ≤ b.toNat ∧ b.toNat ≤ 0x7E) ∧
    (∀ n, o.estimate = some n → n ≤ 999999)

/-- The fields of a TEXT lie in the ranges of R5. -/
abbrev TextInRange (x : TextFields) : Prop :=
  1 ≤ x.number ∧ x.number ≤ 65535 ∧ x.priority ≤ 1 ∧ 1 ≤ x.text.length ∧ x.text.length ≤ 160 ∧
    (∀ b ∈ x.text, 0x20 ≤ b.toNat ∧ b.toNat ≤ 0x7E) ∧ x.replies.length ≤ 4 ∧
    ∀ c ∈ x.replies, 1 ≤ c ∧ c ≤ 32

/-- The fields of a downlink item lie in the ranges of R5. -/
def FieldsInRange : Instr → Prop
  | .offer _ o => OfferInRange o
  | .text _ x => TextInRange x
  | .withdraw _ n | .award _ n | .lost _ n => 1 ≤ n ∧ n ≤ 65535
  | _ => True

/-- The cab condition and the served set admit an offer, the base has not paused offers and the watch is FULL
(R71). -/
structure OfferAdmitted (head : ItemHead) (o : OfferFields) (s : State) : Prop where
  watch : s.receiver.watch = .full
  paused : s.receiver.offersPaused = false
  free : assignment s = none
  calm : s.emergency.state = .idle ∨ s.emergency.state = .covert
  meter : s.meter.state = .free ∨ s.meter.state.onTrip = true ∧ o.cls = 1 ∧ o.nextJob = 1
  served : head.target = 2 ∨ o.pickup ∈ servedSet s

/-- The board after the entry with a number closed with an outcome: state, outcome, close order and focus. -/
abbrev closedOn (n : Nat) (outcome : OfferOutcome) (b : Board) : Board :=
  { b with
    entries := b.entries.map fun o =>
      if o.number == n then { o with state := .closed, outcome := some outcome } else o
    closeOrder := b.closeOrder ++ [n]
    focus := if b.focus = some n then none else b.focus }

/-- An event kind is pending (R199). -/
abbrev Pending (k : EventKind) (s : State) : Prop := k ∈ s.link.events

/-- The cab condition of R71 admits an entry of the board: no assignment, the emergency IDLE or COVERT, and the meter
FREE, or on a trip for a BOOKED offer that is allowed as the next job. -/
structure CabAdmits (o : Offer) (s : State) : Prop where
  free : assignment s = none
  calm : s.emergency.state = .idle ∨ s.emergency.state = .covert
  meter : s.meter.state = .free ∨ s.meter.state.onTrip = true ∧ o.cls = .booked ∧ o.nextJob = true

/-- An entry has closed DROPPED: it stands so on the board, in the close order, with OFFER_CLOSED pending (R70,
R74). -/
structure Dropped (o : Offer) (t : State) : Prop where
  entry : { o with state := .closed, outcome := some .dropped } ∈ t.board.entries
  order : o.number ∈ t.board.closeOrder
  event : Pending .offerClosed t

/-- The PRESENTED entries of one state were tested again by the cab condition and the served set of another: those
no longer admitted closed DROPPED, every other entry stands (R71, R74). -/
structure Retested (s t : State) : Prop where
  dropped : ∀ o ∈ s.board.entries, o.state = .presented →
    ¬(CabAdmits o t ∧ (o.target = .unit ∨ o.pickup ∈ servedSet t)) → Dropped o t
  kept : ∀ o ∈ s.board.entries,
    o.state ≠ .presented ∨ CabAdmits o t ∧ (o.target = .unit ∨ o.pickup ∈ servedSet t) → o ∈ t.board.entries

/-- The largest value of a total (R129). -/
abbrev mostTotal : Nat := 999999999999

/-- The six additions of a closed trip, each saturating (R128). -/
def plusTrip (r : TripRecord) (a : Sums) : Sums :=
  { trips := min mostTotal (a.trips + 1), fare := min mostTotal (a.fare + r.fare)
    extras := min mostTotal (a.extras + r.extrasTotal)
    hiredDistance := min mostTotal (a.hiredDistance + r.distance)
    totalDistance := min mostTotal (a.totalDistance + r.distance)
    hiredSeconds := min mostTotal (a.hiredSeconds + r.duration) }

/-- The totals with a closed trip added: a TRIAL trip counts among the trial trips alone (R128). -/
def withTrip (x : Totals) (r : TripRecord) : Totals :=
  if r.flags.trial then
    { x with
      shift := { x.shift with trialTrips := min mostTotal (x.shift.trialTrips + 1) }, marker := some r.seq }
  else
    { x with
      shift := { x.shift with sums := plusTrip r x.shift.sums }, life := plusTrip r x.life, marker := some r.seq }

/-- The totals when a log gains a record: an UNREPORTED or IN_QUEUE record that it overwrites is counted, except
under the totals fault (R124). -/
def overwriteCounted (log : List LogEntry) (fault : Bool) (x : Totals) : Totals :=
  match log with
  | e :: _ =>
      if 32 ≤ log.length ∧ fault = false ∧ (e.record.report = .unreported ∨ e.record.report = .inQueue) then
        { x with shift := { x.shift with overwritten := min mostTotal (x.shift.overwritten + 1) } }
      else x
  | [] => x

/-- A log gains a record as its newest: at an empty position, or, with 32 records, at the oldest one's, which leaves
(R124). -/
def Appended (r : TripRecord) (log new : List LogEntry) : Prop :=
  (log.length < 32 → ∃ p, p < 32 ∧ (∀ e ∈ log, e.position ≠ p) ∧ new = log ++ [⟨p, r, none⟩]) ∧
    ∀ e rest, log = e :: rest → 32 ≤ log.length → new = rest ++ [⟨e.position, r, none⟩]

/-- The sequence number after another, around the cycle 1 to 65,535 (R124). -/
def numberAfter (n : Nat) : Nat := if n < 65535 then n + 1 else 1

/-- A STATUS was generated between two states: with no STATUS entry in the queue one was placed, WAITING with
attempts 0; with a SENT one the regeneration mark was set (R26, R42). -/
structure StatusGenerated (s t : State) : Prop where
  placed : (∀ e ∈ s.scheduler.queue, e.kind ≠ .status) →
    ∃ e ∈ t.scheduler.queue, e.kind = .status ∧ e.state = .waiting ∧ e.attempts = 0
  sent : ∀ e, s.scheduler.queue.find? (fun x => x.kind == .status) = some e → e.key = 0 → e.state = .sent →
    t.scheduler.regenerate = true

/-! ### Refusals of the keys -/

/-- The reason a HIRE, STOP, FREE or EXTRA is refused for, none where it is taken: the cells of R95 with the
reasons of R96. -/
def meterRefusal (k : MeterKey) (s : State) : Option Reason :=
  match k, s.meter.state with
  | .hire, .free =>
      if s.store.working.metrology.pulseConstant = 0 ∨ s.store.working.metrology.tariffs.t1.valid = false then
        some .uncalibrated
      else if s.accounts.fault then some .totalsFault else none
  | .hire, .stopped => if s.meter.resumeOpen then none else some .state
  | .stop, .hired | .free, .stopped => none
  | .extra, .hired | .extra, .stopped =>
      match s.meter.trip with
      | some x => if x.extrasCount < 9 then none else some .state
      | none => some .state
  | _, _ => some .state

/-- The reason an ACCEPT is refused for, none where it is taken (R77). -/
def acceptRefusal (s : State) : Option Reason :=
  if s.meter.state = .off then some .state
  else if s.emergency.state = .active ∨ s.emergency.state = .acknowledged then some .emergency
  else if ∃ o ∈ s.board.entries, o.state.claimOpen = true then some .alreadyOpen
  else if s.store.working.address = 0 then some .noAddress
  else if chosenOffer s = none then some .noOffer
  else none

/-- A state with the reply of a request that was judged at the instant of another state. -/
abbrev replied (s : State) (tag : Tag) (r : Result) (content : List Field) (t : State) : State :=
  { t with link := { t.link with owed := some ⟨⟨tag, r, content⟩, s.now⟩ } }

/-! ### Invariants -/

/-- The pending-event set holds each kind at most once, in order of urgency (R199). -/
abbrev EventsOrdered (s : State) : Prop := s.link.events.Pairwise fun a b => a.urgency < b.urgency

/-- The access level is 0, 1 or 2; the code-failure count stands at 3 exactly while the lockout runs and below
3 otherwise (R188, R189). -/
abbrev LevelSound (s : State) : Prop :=
  s.store.level ≤ 2 ∧ (s.store.lockoutEnd = none → s.store.failures ≤ 2)
    ∧ (s.store.lockoutEnd ≠ none → s.store.failures = 3)

/-- While the radio has the transmitter the part does not transmit, and a powered part is in IDLE exactly while
VOICE_REQ is released (R18, R19). -/
abbrev VoiceSound (s : State) : Prop :=
  (s.receiver.voice = .granted → s.receiver.transmission = none)
    ∧ (s.powered = true → (s.receiver.voice = .idle ↔ s.receiver.voiceReq = false))

/-- SPARSE watch is kept only with the uplink queue empty and the emergency IDLE (R16, R17). -/
abbrev SparseSound (s : State) : Prop :=
  s.receiver.watch = .sparse → s.scheduler.queue = [] ∧ s.emergency.state = .idle

/-- Sync tracking: a header is expected exactly outside SEARCH; a slot map stands only in LOCKED, with ten
slots; the miss count is 0 in LOCKED, 1 to 3 in COAST and at most 4 in SEARCH; a window makes at most five
stretches; the kept header values lie in their corrected ranges (R2, R8 to R10, R22). -/
structure SyncSound (s : State) : Prop where
  expected : s.receiver.expected = none ↔ s.receiver.sync = .search
  window : s.receiver.windowOpen = true → s.receiver.expected ≠ none
  slots : ∀ l, s.receiver.slotMap = some l → s.receiver.sync = .locked ∧ l.length = 10
  lockedMisses : s.receiver.sync = .locked → s.receiver.misses = 0
  coastMisses : s.receiver.sync = .coast → 1 ≤ s.receiver.misses ∧ s.receiver.misses ≤ 3
  searchMisses : s.receiver.misses ≤ 4
  stretches : s.receiver.stretches ≤ 5 ∧ s.receiver.lastStretch ≤ 5
  persistence : 1 ≤ s.receiver.persistence ∧ s.receiver.persistence ≤ 16
  interval : 30 ≤ s.receiver.statusInterval ∧ s.receiver.statusInterval ≤ 600

/-- The offer board holds at most eight entries, no two with one number, at most one of them in an open claim
state, and its close order names entries that stand (R69, R72, R76). -/
structure BoardSound (s : State) : Prop where
  size : s.board.entries.length ≤ 8
  distinct : (s.board.entries.map (·.number)).Nodup
  oneClaim : s.board.entries.countP (·.state.claimOpen) ≤ 1
  closed : ∀ n ∈ s.board.closeOrder, n ∈ s.board.entries.map (·.number)

/-- No two entries of the uplink queue are the same item, each kind keeps its cap, and the entries stand in rank
order: by class, and within a class by the instant of their placement, which has passed (R25, R26, R27). -/
structure QueueSound (s : State) : Prop where
  distinct : (s.scheduler.queue.map fun e => (e.kind, e.key)).Nodup
  caps : ∀ kind : EntryKind, s.scheduler.queue.countP (fun e => kind.sharesCap e.kind) ≤ kind.cap
  placed : ∀ e ∈ s.scheduler.queue, e.placed ≤ s.now
  ranked : s.scheduler.queue.Pairwise fun a b =>
    a.kind.cls.code < b.kind.cls.code ∨ a.kind.cls = b.kind.cls ∧ a.placed ≤ b.placed

/-- The inbox holds at most 16 records, no two with one number, and a RECEIPT entry in the uplink queue is that of a
QUEUED record (R143, R147, R148). -/
structure InboxSound (s : State) : Prop where
  size : s.inbox.messages.length ≤ 16
  distinct : (s.inbox.messages.map (·.number)).Nodup
  receipts : ∀ e ∈ s.scheduler.queue, e.kind = .receipt →
    ∃ m ∈ s.inbox.messages, m.number = e.key ∧ m.receipt = .queued

/-- The log holds at most 32 records, each at a position of its own, with consecutive sequence numbers that the next
number continues (R123, R124). -/
structure LogSound (s : State) : Prop where
  size : s.accounts.log.length ≤ 32
  positions : (s.accounts.log.map (·.position)).Nodup
  inside : ∀ e ∈ s.accounts.log, e.position < 32
  consecutive : ∀ l a b m, s.accounts.log = l ++ a :: b :: m → b.record.seq = numberAfter a.record.seq
  next : ∀ l a, s.accounts.log = l ++ [a] → s.accounts.nextSeq = numberAfter a.record.seq

/-- The metrology of the settings lies in its ranges: K, and of every tariff the flag fall, the distance step and the
time step (R106, R178). -/
structure MetrologyOk (w : Settings) : Prop where
  pulses : w.metrology.pulseConstant = 0 ∨
    500 ≤ w.metrology.pulseConstant ∧ w.metrology.pulseConstant ≤ 20000
  flagFall : ∀ n, (w.metrology.tariffs.get n).flagFall ≤ 99999
  distanceStep : ∀ n, 10 ≤ (w.metrology.tariffs.get n).distanceStep ∧
    (w.metrology.tariffs.get n).distanceStep ≤ 2000
  timeStep : ∀ n, 5 ≤ (w.metrology.tariffs.get n).timeStep ∧ (w.metrology.tariffs.get n).timeStep ≤ 600

/-- A write in progress carries no settings outside the ranges of R106 and R178. -/
abbrev WritingOk (w : Option Writing) : Prop :=
  ∀ x copy c, w = some x → x.item = .settings copy c → MetrologyOk c.settings

/-- The step size of a tariff in progress units, from the working K and the tariff's steps (R107). -/
def stepUnits (n : Nat) (s : State) : Nat :=
  let t := s.store.working.metrology.tariffs.get n
  (t.distanceStep * s.store.working.metrology.pulseConstant + 500) / 1000 * t.timeStep

/-- The fare of a trip in progress never exceeds 999,999; during a trip K is set and the accumulator stays below one
step of the tariff in force; the metrology that a trip could be run by, working, stored or in nonvolatile memory, lies
in its ranges (R106, R111, R112, R178). -/
structure FareSound (s : State) : Prop where
  fare : ∀ t, s.meter.trip = some t → t.fare ≤ Config.maxFare
  calibrated : s.meter.state.onTrip = true → s.store.working.metrology.pulseConstant ≠ 0
  accumulator : ∀ t, s.meter.state.onTrip = true → s.meter.trip = some t → t.acc < (stepUnits t.tariff s : Int)
  working : MetrologyOk s.store.working
  stored : MetrologyOk s.store.stored
  copyA : ∀ c, s.nonvolatile.settingsA = some c → MetrologyOk c.settings
  copyB : ∀ c, s.nonvolatile.settingsB = some c → MetrologyOk c.settings
  writing : WritingOk s.writer.writing

end Sys2Proof.Machine
end

