-- ==== Sys2Proof/Certificates/Slice0/Obligations.lean ====
section
/-! DEFINITION. The statements for the provers, each from the numbered rules of spec/ that its entry in
OBLIGATIONS.json cites. -/

open Sys2Proof Sys2Proof.Machine

/-! ### The whole part -/

/-- A step takes the command at the front of the queue and runs it with the queue's rest. -/
def Obligations.StepRunsTheFrontCommand : Prop :=
  ∀ (c : Instr) (rest : List Instr) (s : State),
    step { s with pending := c :: rest } = exec c { s with pending := rest }

/-- No command stops the part: every command answers a next state, and none touches the queue of the commands that
wait behind it. Uptime is never set: a command other than a power-on never takes it back, and a power-on starts it
from 0. -/
def Obligations.EveryCommandGoesOn : Prop :=
  ∀ (c : Instr) (s : State), ∃ t, exec c s = .next t ∧ t.pending = s.pending ∧
    (c = .powerOn → t.now = 0) ∧ (c ≠ .powerOn → s.now ≤ t.now)

/-- On an empty queue the clock runs: the model's choice of log entries 2 and 3. Without power nothing happens; a
powered part queues one of the steps that are due, or, with none due, lets one millisecond pass. -/
def Obligations.EmptyQueueRunsTheClock : Prop :=
  ∀ s : State, s.pending = [] →
    (s.powered = false → step s = .next s) ∧
    (s.powered = true → dueSteps s = [] → step s = .next { s with now := s.now + 1 }) ∧
    (s.powered = true → dueSteps s ≠ [] →
      ∃ d ∈ dueSteps s, step s = .next { s with pending := [d], freeIndex := s.freeIndex + 1 })

/-- Requests that no block sees. A whole request that begins while a reply is owed is an early frame: counted, LINK
raised, and otherwise discarded (R196). Without power none is received. One that comes while the receiver follows
another frame is received byte by byte as that frame's bytes, just as the same bytes that no request makes (R194; that
a command is a whole frame, its bytes at one instant, is the model's choice of log entry 11, and so is the payload of
an unrecognised tag, which is free). A frame whose last byte
came more than 20 ms before is dropped first, and the request is taken as one that finds HUNT (R194, log entry 35). A
request whose payload is of the wrong size is answered BAD_ARG with its own tag. -/
def Obligations.RequestsTurnedAway : Prop :=
  (∀ (c : Instr) (tag : Tag) (s : State), requestTag c = some tag →
    (s.powered = true → s.link.rx.phase = .hunt → s.link.owed ≠ none →
      exec c s = .next (raise .link { s with link := { s.link with
        earlyCount := min 65535 (s.link.earlyCount + 1) } })) ∧
    (s.powered = false → exec c s = .next s) ∧
    (∀ bytes, decodeFrame bytes = some c → (∀ t0 t1 t2 t3, c ≠ .unknownRequest t0 t1 t2 t3) →
      s.powered = true → s.link.rx.phase ≠ .hunt → s.now ≤ s.link.rx.lastByte + 20 →
      exec c s = exec (.badFrame (bytes.map fun b => ⟨b, false⟩)) s) ∧
    (∀ t0 t1 t2 t3, c = .unknownRequest t0 t1 t2 t3 →
      s.powered = true → s.link.rx.phase ≠ .hunt → s.now ≤ s.link.rx.lastByte + 20 →
      ∃ payload, payload.length ≤ 240 ∧
        exec c s = exec (.badFrame ((frameBytes ([t0, t1, t2, t3] ++ payload)).map fun b => ⟨b, false⟩))
          { s with freeIndex := s.freeIndex + 1 }) ∧
    (s.powered = true → s.link.rx.phase ≠ .hunt → s.link.rx.lastByte + 20 < s.now →
      exec c s = exec c { s with link := { s.link with rx := { resetRx with
        lastByte := s.link.rx.lastByte
        resetMarked := s.link.rx.resetMarked && s.link.owed.isSome } } })) ∧
  (∀ bytes, ∀ c ∈ wrongSizeRequests bytes, ∀ s : State, Listening s →
    ∃ tag, requestTag c = some tag ∧
      exec c s = .next { s with link := { s.link with owed := some ⟨⟨tag, .badArg, []⟩, s.now⟩ } })

/-! ### Power -/

/-- A power loss tears the write in progress: that item alone fails its check afterwards, and every other part of the
nonvolatile memory stands. That an onset's own mark write is torn too is the model's choice between R139 and R171 (log
entry 53). The transmission under way and the host-reset pulse end with the supply (log entry 13). -/
def Obligations.PowerLossTearsTheWrite : Prop :=
  ∀ s : State, s.powered = true → ∃ t, exec .powerLoss s = .next t ∧
    t = { s with
      powered := false
      writer := { s.writer with writing := none }
      receiver := { s.receiver with transmission := none }
      link := { s.link with hostReset := none }
      nonvolatile := t.nonvolatile } ∧
    (s.writer.writing = none → t.nonvolatile = s.nonvolatile) ∧
    (∀ k i, s.writer.writing = some ⟨.mark k, i⟩ → t.nonvolatile = { s.nonvolatile with mark := none }) ∧
    (∀ c i, s.writer.writing = some ⟨.checkpoint c, i⟩ →
      t.nonvolatile = { s.nonvolatile with checkpoint := none }) ∧
    (∀ p r i, s.writer.writing = some ⟨.record p r, i⟩ →
      t.nonvolatile = { s.nonvolatile with
        log := s.nonvolatile.log.modify p fun x => { x with torn := true, record := none } }) ∧
    (∀ c i, s.writer.writing = some ⟨.totals .a c, i⟩ →
      t.nonvolatile = { s.nonvolatile with totalsA := none }) ∧
    (∀ c i, s.writer.writing = some ⟨.totals .b c, i⟩ →
      t.nonvolatile = { s.nonvolatile with totalsB := none }) ∧
    (∀ p m i, s.writer.writing = some ⟨.report p m, i⟩ →
      t.nonvolatile = { s.nonvolatile with
        log := s.nonvolatile.log.modify p fun x => { x with report := none } }) ∧
    (∀ c i, s.writer.writing = some ⟨.settings .a c, i⟩ →
      t.nonvolatile = { s.nonvolatile with settingsA := none }) ∧
    (∀ c i, s.writer.writing = some ⟨.settings .b c, i⟩ →
      t.nonvolatile = { s.nonvolatile with settingsB := none })

/-- Power-on loads the settings: the valid copy with the higher generation, copy A on a tie, into working and stored
values alike; with no valid copy the defaults, and FAULT. The access level, the code failures, the lockout and the
commit start afresh. -/
def Obligations.PowerOnLoadsTheSettings : Prop :=
  ∀ s : State, s.powered = false → ∃ t, exec .powerOn s = .next t ∧
    t.store.working = t.store.stored ∧ t.store.level = 0 ∧ t.store.failures = 0 ∧
    t.store.lockoutEnd = none ∧ t.store.commit = .none ∧
    (∀ a b, s.nonvolatile.settingsA = some a → s.nonvolatile.settingsB = some b →
      t.store.working = (if a.generation < b.generation then b else a).settings ∧
      t.store.generation = max a.generation b.generation ∧
      t.store.holder = some (if a.generation < b.generation then .b else .a) ∧
      t.store.loaded = t.store.holder) ∧
    (∀ a, s.nonvolatile.settingsA = some a → s.nonvolatile.settingsB = none →
      t.store.working = a.settings ∧ t.store.generation = a.generation ∧
      t.store.holder = some .a ∧ t.store.loaded = some .a) ∧
    (∀ b, s.nonvolatile.settingsA = none → s.nonvolatile.settingsB = some b →
      t.store.working = b.settings ∧ t.store.generation = b.generation ∧
      t.store.holder = some .b ∧ t.store.loaded = some .b) ∧
    (s.nonvolatile.settingsA = none → s.nonvolatile.settingsB = none →
      t.store.working = defaultSettings ∧ t.store.generation = 0 ∧ t.store.holder = none ∧
      t.store.loaded = none ∧ Pending .fault t)

/-- Power-on loads the totals, the log and the checkpoint, and repairs them. The totals are those of the valid copy of
the higher generation, copy A on a tie; with no valid copy all counts are 0, the totals fault is set and FAULT raised.
The log holds every position that passes its check, in the order of the numbers, each record with the report state of
its own report mark (log entry 29); a torn position raises FAULT. A last close that the log lacks and that is the next
number is appended, and so is one that finds the log empty, under its own number: the model's deduction from R137 and
R124 (log entry 31). The records after the totals marker are added to the totals. The meter starts FREE where the
totals show the shift open, OFF where they show it closed or the fault holds. -/
def Obligations.PowerOnLoadsTheAccounts : Prop :=
  ∀ s : State, s.powered = false → ∃ t, exec .powerOn s = .next t ∧ t.meter.trip = none ∧
    t.meter.state = (if t.accounts.totals.shiftOpen ∧ t.accounts.fault = false then .free else .off) ∧
    (∀ a b, s.nonvolatile.totalsA = some a → s.nonvolatile.totalsB = some b →
      t.accounts.generation = max a.generation b.generation ∧
      t.accounts.holder = some (if a.generation < b.generation then .b else .a) ∧ t.accounts.fault = false) ∧
    (∀ a, s.nonvolatile.totalsA = some a → s.nonvolatile.totalsB = none →
      t.accounts.generation = a.generation ∧ t.accounts.holder = some .a ∧ t.accounts.fault = false) ∧
    (∀ b, s.nonvolatile.totalsA = none → s.nonvolatile.totalsB = some b →
      t.accounts.generation = b.generation ∧ t.accounts.holder = some .b ∧ t.accounts.fault = false) ∧
    (s.nonvolatile.totalsA = none → s.nonvolatile.totalsB = none →
      t.accounts.totals = emptyTotals ∧ t.accounts.generation = 0 ∧ t.accounts.holder = none ∧
      t.accounts.fault = true ∧ Pending .fault t) ∧
    ((∃ x ∈ s.nonvolatile.log, x.torn = true) → Pending .fault t) ∧
    (s.nonvolatile.checkpoint = none → Pending .fault t ∧ t.accounts.lastClose = none) ∧
    (∀ e ∈ t.accounts.log.getLast?, t.accounts.nextSeq = numberAfter e.record.seq) ∧
    (t.accounts.log = [] → t.accounts.nextSeq = 1) ∧
    (s.nonvolatile.checkpoint = none ∨ s.nonvolatile.checkpoint = some ⟨none, none⟩ →
      (∀ e, e ∈ t.accounts.log ↔ ∃ (p : Nat) (x : StoredPosition) (r : TripRecord),
        s.nonvolatile.log[p]? = some x ∧ x.torn = false ∧ x.record = some r ∧
        e = ⟨p, { r with report :=
          match x.report with
          | some m => if m.seq = r.seq then m.report else r.report
          | none => r.report }, none⟩) ∧
      (let ahead (a b : LogEntry) := (b.record.seq + 65535 - a.record.seq) % 65535
        let newest (n : LogEntry) := ∀ o ∈ t.accounts.log, ahead n o = 0 ∨ 32 < ahead n o;
        (∃ n ∈ t.accounts.log, newest n) →
          ∃ n ∈ t.accounts.log, newest n ∧ t.accounts.log.Pairwise fun a b => ahead b n ≤ ahead a n)) ∧
    (∀ c, s.nonvolatile.checkpoint = none ∨ s.nonvolatile.checkpoint = some ⟨none, none⟩ ∨
        (∃ r, s.nonvolatile.checkpoint = some ⟨none, some r⟩ ∧
          s.nonvolatile.log.countP (fun x => !x.torn && x.record.isSome) < 32) →
      (s.nonvolatile.totalsA = some c ∧ s.nonvolatile.totalsB = none ∨
        s.nonvolatile.totalsA = none ∧ s.nonvolatile.totalsB = some c ∨
        (∃ a b, s.nonvolatile.totalsA = some a ∧ s.nonvolatile.totalsB = some b ∧
          c = if a.generation < b.generation then b else a)) →
      (∀ m l e after, c.totals.marker = some m → t.accounts.log = l ++ e :: after → e.record.seq = m →
        (∀ x ∈ l, x.record.seq ≠ m) →
        t.accounts.totals = after.foldl (fun x y => withTrip x y.record) c.totals ∧
        t.writer.totalsDirty = !after.isEmpty) ∧
      (c.totals.marker = none ∨ (∀ m, c.totals.marker = some m → ∀ x ∈ t.accounts.log, x.record.seq ≠ m) →
        t.accounts.totals = c.totals ∧ t.writer.totalsDirty = false)) ∧
    (∀ r u, s.nonvolatile.checkpoint = some ⟨none, some r⟩ →
      exec .powerOn { s with nonvolatile := { s.nonvolatile with checkpoint := some ⟨none, none⟩ } } = .next u →
      t.accounts.lastClose = some r ∧
      ((∀ e ∈ u.accounts.log, e.record.seq ≠ r.seq) → (u.accounts.log = [] ∨ r.seq = u.accounts.nextSeq) →
        Appended { r with report := if r.flags.trial then .notReportable else .unreported } u.accounts.log
          t.accounts.log ∧
        ∀ e ∈ t.accounts.log.getLast?, e.position ∈ t.writer.recordsDirty) ∧
      ((∃ e ∈ u.accounts.log, e.record.seq = r.seq) ∨ u.accounts.log ≠ [] ∧ r.seq ≠ u.accounts.nextSeq →
        t.accounts.log = u.accounts.log ∧ t.accounts.totals = u.accounts.totals))

/-- Power-on clears what is not kept: the receiver, the scheduler but for a resumed emergency's entry, the locator,
the scanner, the board, the inbox and the link; the nonvolatile memory stands as the loss left it. That the pins'
levels stand, with their debounce started afresh, is the model's choice (log entry 7). -/
def Obligations.PowerOnClearsTheBlocks : Prop :=
  ∀ s : State, s.powered = false → ∃ t, exec .powerOn s = .next t ∧
    t.powered = true ∧ t.now = 0 ∧ t.nonvolatile = s.nonvolatile ∧ t.pending = s.pending ∧
    t.receiver = { resetReceiver with voiceReq := s.receiver.voiceReq, voice := t.receiver.voice } ∧
    t.scheduler = { resetScheduler with queue := t.scheduler.queue } ∧
    t.locator = resetLocator ∧
    t.panel = { resetPanel with
      keys := ⟨resetKey s.panel.keys.hire.raw, resetKey s.panel.keys.stop.raw,
        resetKey s.panel.keys.free.raw, resetKey s.panel.keys.extra.raw,
        resetKey s.panel.keys.accept.raw, resetKey s.panel.keys.panic.raw⟩
      ignitionRaw := s.panel.ignitionRaw } ∧
    t.board = resetBoard ∧ t.inbox = resetInbox ∧
    t.link = { resetLink with events := t.link.events } ∧
    t.writer.writing = none

/-- Power-on closes an interrupted trip: the record takes the next number and the checkpoint's fields with its own
pulse constant, zone at close 0 and the INTERRUPTED flag; it joins the log as its newest and is the last close, and
the checkpoint is marked dirty. With the totals fault clear it is added to the totals as a close by FREE is, and under
the fault the totals stand. The state before the recovery is the one that a power-on with the trip taken out of the
checkpoint leaves. -/
def Obligations.PowerOnClosesTheInterruptedTrip : Prop :=
  ∀ (s u : State) (o : OpenTrip) (l : Option TripRecord), s.powered = false →
    s.nonvolatile.checkpoint = some ⟨some o, l⟩ →
    exec .powerOn { s with nonvolatile := { s.nonvolatile with checkpoint := some ⟨none, l⟩ } } = .next u →
    ∃ t r, exec .powerOn s = .next t ∧ t.accounts.lastClose = some r ∧
      (t.accounts.log.getLast?).map (·.record) = some r ∧ r.seq = u.accounts.nextSeq ∧
      t.accounts.nextSeq = numberAfter r.seq ∧ Appended r u.accounts.log t.accounts.log ∧
      r.duration = o.trip.seconds ∧ r.pulses = o.trip.pulses ∧
      r.distance = o.trip.pulses * 1000 / o.pulseConstant ∧ r.fare = o.trip.fare ∧
      r.extrasCount = o.trip.extrasCount ∧ r.extrasTotal = o.trip.extrasTotal ∧
      r.shift = o.shift ∧ r.driver = o.driver ∧ r.hireTime = o.trip.hireTime ∧
      r.tariffAtHire = o.trip.tariffAtHire ∧ r.tariffsUsed = o.trip.tariffsUsed ∧
      r.zoneAtHire = o.trip.zoneAtHire ∧ r.zoneAtClose = 0 ∧ r.offer = o.trip.offer ∧
      r.implausible = o.trip.implausible ∧ r.flags = { o.trip.flags with interrupted := true } ∧
      r.report = (if o.trip.flags.trial then .notReportable else .unreported) ∧
      t.accounts.fault = u.accounts.fault ∧
      (u.accounts.fault = false →
        t.accounts.totals = withTrip (overwriteCounted u.accounts.log false u.accounts.totals) r ∧
        t.writer.totalsDirty = true) ∧
      (u.accounts.fault = true → t.accounts.totals = u.accounts.totals ∧
        t.writer.totalsDirty = u.writer.totalsDirty) ∧
      t.meter.trip = none ∧ t.writer.checkpointDirty = true

/-- Power-on reads the emergency mark: NONE starts IDLE; ACTIVE resumes as ACTIVE with source RESUMED, one WAITING
EMERGENCY entry and EMERGENCY raised; COVERT resumes as COVERT with the acknowledged flag clear and no event; a torn
mark is taken as ACTIVE, marked dirty, with FAULT. -/
def Obligations.PowerOnReadsTheEmergencyMark : Prop :=
  ∀ s : State, s.powered = false → ∃ t, exec .powerOn s = .next t ∧
    t.emergency.acknowledged = false ∧ t.emergency.reportSince = none ∧ t.emergency.lastEnd = .none ∧
    (s.nonvolatile.mark = some .none →
      t.emergency.state = .idle ∧ t.emergency.sources = ⟨false, false, false⟩ ∧
      t.emergency.onset = none ∧ t.emergency.latch = false ∧ t.scheduler.queue = [] ∧
      t.writer.markDirty = false) ∧
    (s.nonvolatile.mark = some .active ∨ s.nonvolatile.mark = none →
      t.emergency.state = .active ∧ t.emergency.sources = ⟨false, false, true⟩ ∧
      t.emergency.onset = some 0 ∧ t.emergency.mark = .active ∧ Pending .emergency t ∧
      t.emergency.latch = (t.store.working.alertMode == .latched)) ∧
    (s.nonvolatile.mark = some .active → t.writer.markDirty = false) ∧
    (s.nonvolatile.mark = none → t.writer.markDirty = true ∧ Pending .fault t) ∧
    (s.nonvolatile.mark = some .covert →
      t.emergency.state = .covert ∧ t.emergency.sources = ⟨false, false, true⟩ ∧
      t.emergency.onset = some 0 ∧ t.emergency.latch = false ∧ t.writer.markDirty = false ∧
      ¬ Pending .emergency t) ∧
    (s.nonvolatile.mark ≠ some .none →
      ∃ e, t.scheduler.queue = [e] ∧ e.kind = .emergency ∧ e.state = .waiting ∧ e.attempts = 0)

/-! ### The channel receiver -/

/-- A good header is taken in SEARCH, and in LOCKED or COAST while the window is open. It dates the cycle, makes sync
LOCKED (a change raises LINK), clears the misses, keeps its values as corrected and sets the time of day. In FULL
watch it installs its slot map, its items are taken and the next header is expected 1,200 ms on. In SPARSE watch,
shown with no uplink entry standing, the next expected header is that of the next listened cycle, and the map and the
items are taken only in a listened cycle: by the unit address of the choice that expected it, in SEARCH by the address
in force (log entry 50). What the header report does to the uplink entries is stated apart. -/
def Obligations.GoodHeaderIsTaken : Prop :=
  ∀ (h : HeaderBlock) (s : State), s.powered = true → HeaderGood h s.store.working.fleetCode →
    (s.receiver.sync = .search ∨ s.receiver.windowOpen = true) →
    let address := if s.receiver.sync = .search then s.store.working.address else s.receiver.listenAddress
    ∃ t, exec (.cycleHeader h) s = .next t ∧
      t.now = s.now ∧ t.receiver.sync = .locked ∧ (s.receiver.sync ≠ .locked → Pending .link t) ∧
      t.receiver.cycleStart = s.now ∧ t.receiver.windowOpen = false ∧ t.receiver.misses = 0 ∧
      t.receiver.lastStretch = (if s.receiver.sync = .search then 0 else s.receiver.stretches) ∧
      t.receiver.cycle = some h.cycle ∧ t.receiver.heard = h.heard ∧
      t.receiver.listenAddress = s.store.working.address ∧
      (t.receiver.cycleListened = true ↔ h.cycle % 8 = address % 8) ∧
      (s.receiver.watch = .full →
        t.receiver.watch = .full ∧ t.receiver.expected = some (s.now + 1200) ∧ t.receiver.span = 1 ∧
        (∃ l, t.receiver.slotMap = some l ∧ h.slots.map toSlotUse = l.map some) ∧ t.receiver.itemsOpen = true) ∧
      (s.receiver.watch = .sparse → s.scheduler.queue = [] →
        t.receiver.watch = .sparse ∧ 1 ≤ t.receiver.span ∧ t.receiver.span ≤ 8 ∧
        (h.cycle + t.receiver.span) % 8 = s.store.working.address % 8 ∧
        t.receiver.expected = some (s.now + t.receiver.span * 1200) ∧
        (h.cycle % 8 = address % 8 →
          (∃ l, t.receiver.slotMap = some l ∧ h.slots.map toSlotUse = l.map some) ∧ t.receiver.itemsOpen = true) ∧
        (h.cycle % 8 ≠ address % 8 → t.receiver.slotMap = none ∧ t.receiver.itemsOpen = false)) ∧
      t.receiver.nextSlot = 0 ∧ t.receiver.itemCount = 0 ∧
      t.receiver.persistence = (if h.persistence = 0 then 1 else if h.persistence ≤ 16 then h.persistence else 16) ∧
      t.receiver.statusInterval =
        (if h.statusInterval = 0 then 120
          else if h.statusInterval < 30 then 30 else if 600 < h.statusInterval then 600 else h.statusInterval) ∧
      t.receiver.offersPaused = h.offersPaused ∧
      t.receiver.time =
        some ⟨⟨if h.dayType = 0 then .workday else .restday, h.second⟩, .header, s.now⟩ ∧
      t.receiver.voice = s.receiver.voice ∧ t.scheduler.contentionUsed = false ∧
      t.meter = s.meter ∧ t.locator = s.locator ∧ t.panel = s.panel ∧ t.store = s.store ∧
      t.nonvolatile = s.nonvolatile

/-- A header block that is not good is treated as not received, and so is any block without power (log entry 13); a
good header outside the window in LOCKED or COAST is not taken: it sets no timing and produces no report, and by log
entry 17 the items that follow it are not taken. -/
def Obligations.OtherHeadersAreNotTaken : Prop :=
  ∀ (h : HeaderBlock) (s : State),
    (¬ HeaderGood h s.store.working.fleetCode ∨ s.powered = false →
      exec (.cycleHeader h) s = .next s) ∧
    (s.powered = true → HeaderGood h s.store.working.fleetCode → s.receiver.sync ≠ .search →
      s.receiver.windowOpen = false →
      exec (.cycleHeader h) s = .next { s with receiver := { s.receiver with itemsOpen := false } })

/-- The header report and the miss report answer each transmission. In any queue of distinct items: an entry heard,
other than a RECEIPT or a STATUS, leaves the queue; one unheard below the fifth attempt, other than a CLAIM, waits
again with one attempt more, EMERGENCY at most at five; one REQUESTING that is heard awaits its grant; one that awaits
its grant waits on, or gives up after the sixth wait; one that waits stands. Each kind's own effects of being heard
and of failing are shown on a queue of one entry, and the fill record's on an empty queue. At a miss nothing is heard.
A step of the clock moves uptime on to its own instant, never back (log entry 1). -/
def Obligations.ReportsAnswerTransmissions : Prop :=
  let again (e : Entry) (n : Nat) : Entry :=
    { e with state := .waiting, attempts := n, sentAs := none, grantWait := none }
  let distinct (s : State) := (s.scheduler.queue.map fun e => (e.kind, e.key)).Nodup
  (∀ (h : HeaderBlock) (s : State), s.powered = true → HeaderGood h s.store.working.fleetCode →
    (s.receiver.sync = .search ∨ s.receiver.windowOpen = true) →
    let heard (x : SentAs) := x.cycle < 4096 ∧ h.cycle = (x.cycle + 1) % 4096 ∧ ⟨x.slot, x.address⟩ ∈ h.heard
    ∃ t, exec (.cycleHeader h) s = .next t ∧ t.scheduler.fill = none ∧
      (distinct s → ∀ e ∈ s.scheduler.queue,
        (∀ x, e.sentAs = some x → e.state = .sent → heard x → e.kind ≠ .receipt → e.kind ≠ .status →
          ∀ y ∈ t.scheduler.queue, ¬(y.kind = e.kind ∧ y.key = e.key)) ∧
        (∀ x, e.sentAs = some x → e.state = .requesting → heard x →
          { e with state := .awaitGrant, sentAs := none, grantWait := some 1 } ∈ t.scheduler.queue) ∧
        (∀ x, e.sentAs = some x → e.state = .sent ∨ e.state = .requesting → ¬ heard x →
          (e.kind = .emergency → again e (min 5 (e.attempts + 1)) ∈ t.scheduler.queue) ∧
          (e.kind ≠ .emergency → e.kind ≠ .claim → e.attempts + 1 < 5 →
            again e (e.attempts + 1) ∈ t.scheduler.queue)) ∧
        (∀ w, e.state = .awaitGrant → e.grantWait = some w → e.kind.long = true →
          (w < 6 → { e with grantWait := some (w + 1) } ∈ t.scheduler.queue) ∧
          (6 ≤ w → e.attempts + 1 < 5 → again e (e.attempts + 1) ∈ t.scheduler.queue)) ∧
        (e.state = .waiting → e ∈ t.scheduler.queue)) ∧
      (∀ f, s.scheduler.queue = [] → s.scheduler.fill = some f → t.scheduler.queue = [] ∧
        (heard f → t.scheduler.statusSince = s.now) ∧
        (¬ heard f → t.scheduler.statusSince = s.scheduler.statusSince) ∧
        (t.receiver.parkedStatus = true ↔ s.receiver.parkedStatus = true ∨
          heard f ∧ ∃ m, s.scheduler.parkMark = some m ∧ m < f.instant))) ∧
  (∀ (h : HeaderBlock) (s : State) (e : Entry) (x : SentAs), s.powered = true →
    HeaderGood h s.store.working.fleetCode → (s.receiver.sync = .search ∨ s.receiver.windowOpen = true) →
    s.scheduler.queue = [e] → s.scheduler.fill = none → e.state = .sent → e.sentAs = some x →
    let heard := x.cycle < 4096 ∧ h.cycle = (x.cycle + 1) % 4096 ∧ ⟨x.slot, x.address⟩ ∈ h.heard
    let fails := ¬ heard ∧ 5 ≤ e.attempts + 1
    let results (delivered : Bool) :=
      let l := s.scheduler.results ++ [⟨e.key, e.kind, delivered⟩]
      l.drop (l.length - 8)
    let receipted (outcome : ReceiptState) (t : State) : Prop :=
      ∀ m, (s.inbox.messages.map (·.number)).Nodup → findMessage e.key s = some m →
        (m.outstanding = false → findMessage e.key t = some { m with receipt := outcome }) ∧
        (∀ c, m.outstanding = true → m.chosen = some c →
          ∃ y, findMessage e.key t = some y ∧
            y = { m with receiptCode := c, outstanding := false, receipt := y.receipt } ∧
            (y.receipt = .due ∨ y.receipt = .queued))
    ∃ t, exec (.cycleHeader h) s = .next t ∧
      (heard → e.kind ≠ .receipt → e.kind ≠ .status → t.scheduler.queue = []) ∧
      (e.kind = .claim →
        (heard → ∀ o, findOffer e.key s = some o → o.state = .claiming →
          ∃ o', findOffer e.key t = some o' ∧
            (s.now < (o.expiry + 15) * 1000 → o' = { o with state := .awaitingAward }) ∧
            ((o.expiry + 15) * 1000 ≤ s.now →
              o' = { o with state := .closed, outcome := some .noAnswer } ∧ Pending .offerClosed t)) ∧
        (¬ heard → e.attempts + 1 < 5 → (∀ d, e.deadline = some d → s.now < d * 1000) →
          t.scheduler.queue = [again e (e.attempts + 1)] ∧ t.board = s.board) ∧
        (∀ d, ¬ heard → e.attempts + 1 < 5 → e.deadline = some d → d * 1000 ≤ s.now →
          t.scheduler.queue = [] ∧ ∀ o, findOffer e.key s = some o → o.state = .claiming →
            t.board = closedOn e.key .expired s.board ∧ Pending .offerClosed t) ∧
        (fails → t.scheduler.queue = [] ∧ ∀ o, findOffer e.key s = some o → o.state = .claiming →
          t.board = closedOn e.key .claimFailed s.board ∧ Pending .offerClosed t)) ∧
      (e.kind = .status →
        (heard → t.scheduler.statusSince = s.now ∧ t.scheduler.regenerate = false ∧
          (t.receiver.parkedStatus = true ↔ s.receiver.parkedStatus = true ∨
            ∃ m, s.scheduler.parkMark = some m ∧ m < x.instant) ∧
          (s.scheduler.regenerate = false → t.scheduler.queue = []) ∧
          (s.scheduler.regenerate = true → t.scheduler.queue =
            [{ kind := .status, key := 0, content := .none, state := .waiting, attempts := 0, deadline := none
               placed := s.now, sentAs := none, grantWait := none }])) ∧
        (¬ heard → t.scheduler.regenerate = false ∧ t.scheduler.statusSince = s.scheduler.statusSince) ∧
        (fails → t.scheduler.queue = [])) ∧
      (e.kind = .receipt →
        (heard → receipted .sent t) ∧ (fails → receipted .failed t ∧ Pending .uplinkResult t)) ∧
      (e.kind = .tripReport → ∀ r, findRecord e.key s = some r →
        (heard → t.accounts = { s.accounts with
            log := s.accounts.log.map fun y => if y.record.seq == e.key then
              { y with record := { y.record with report := .reported }, holdOff := none } else y } ∧
          r.position ∈ t.writer.reportsDirty) ∧
        (fails → t.scheduler.queue = [] ∧ t.accounts = { s.accounts with
          log := s.accounts.log.map fun y => if y.record.seq == e.key then
            { y with record := { y.record with report := .unreported }, holdOff := some (s.now + 60000) }
          else y })) ∧
      (e.kind = .emergency → s.emergency.state ≠ .idle →
        (heard → t.emergency = { s.emergency with reportSince := some s.now }) ∧
        (¬ heard → t.emergency = s.emergency)) ∧
      (e.kind = .canned ∨ e.kind = .freetext →
        (heard → t.scheduler.results = results true ∧ Pending .uplinkResult t) ∧
        (fails → t.scheduler.queue = [] ∧ t.scheduler.results = results false ∧ Pending .uplinkResult t)) ∧
      (e.kind = .decline → fails → t.scheduler.queue = [] ∧ t.board = s.board) ∧
      (¬ heard → e.kind ≠ .claim → e.kind ≠ .emergency → e.attempts + 1 < 5 →
        t.scheduler.queue = [again e (e.attempts + 1)] ∧
        t.board = s.board ∧ t.inbox = s.inbox ∧ t.accounts = s.accounts ∧ t.emergency = s.emergency)) ∧
  (∀ (s : State) (p : Nat), s.powered = true → s.receiver.expected = some p → s.receiver.windowOpen = true →
    s.receiver.stretches = 5 → distinct s →
    ∃ t, exec .missedHeader s = .next t ∧ t.now = max s.now (p + 130) ∧ t.scheduler.fill = none ∧
      t.scheduler.statusSince = s.scheduler.statusSince ∧
      ∀ e ∈ s.scheduler.queue, e.sentAs ≠ none → e.state = .sent ∨ e.state = .requesting →
        (e.kind = .emergency → again e (min 5 (e.attempts + 1)) ∈ t.scheduler.queue) ∧
        (e.kind ≠ .emergency → e.kind ≠ .claim → e.attempts + 1 < 5 →
          again e (e.attempts + 1) ∈ t.scheduler.queue))

/-- The window of an expected header instant p opens at p - 30 ms; each close without a header stretches it by 20 ms,
up to five times. A header is missed when the window closes for the fifth stretch, at p + 130 ms: the slot map is
cleared, the miss counted, the cycle number advanced by the span. LOCKED goes to COAST; the fourth miss in a row goes
from COAST to SEARCH, where nothing is expected. Otherwise the next header is expected in FULL watch at p + 1,200 ms,
and in SPARSE watch, shown with no uplink entry standing, at the next listened cycle from p; that the listened cycles
are then those of the unit address in force at the miss is the model's choice (log entry 50). A step of the clock
moves uptime on to its own instant, never back (log entry 1). -/
def Obligations.HeaderIsAwaitedAndMissed : Prop :=
  (∀ (s : State) (p : Nat), s.powered = true → s.receiver.expected = some p →
    (s.receiver.windowOpen = false →
      exec .windowOpen s = .next { s with
        now := max s.now (p - 30)
        receiver := { s.receiver with windowOpen := true, stretches := 0 } }) ∧
    (s.receiver.windowOpen = true → s.receiver.stretches < 5 →
      exec .windowStretch s = .next { s with
        now := max s.now (p + 30 + 20 * s.receiver.stretches)
        receiver := { s.receiver with stretches := s.receiver.stretches + 1 } })) ∧
  (∀ (s : State) (p : Nat), s.powered = true → s.receiver.expected = some p → s.receiver.windowOpen = true →
    s.receiver.stretches = 5 → s.receiver.sync ≠ .search →
    ∃ t, exec .missedHeader s = .next t ∧
      t.now = max s.now (p + 130) ∧ t.receiver.slotMap = none ∧ t.receiver.windowOpen = false ∧
      t.receiver.itemsOpen = false ∧ t.receiver.misses = s.receiver.misses + 1 ∧
      t.receiver.cycle = s.receiver.cycle.map (fun c => (c + s.receiver.span) % 4096) ∧
      (s.receiver.sync = .locked → t.receiver.sync = .coast ∧ Pending .link t) ∧
      (s.receiver.sync = .coast → s.receiver.misses + 1 < 4 → t.receiver.sync = .coast) ∧
      (s.receiver.sync = .coast → 4 ≤ s.receiver.misses + 1 →
        t.receiver.sync = .search ∧ t.receiver.expected = none ∧ t.receiver.searchSince = t.now ∧
        Pending .link t) ∧
      (t.receiver.sync = .coast → t.receiver.listenAddress = s.store.working.address ∧
        (s.receiver.watch = .full → t.receiver.expected = some (p + 1200) ∧ t.receiver.span = 1) ∧
        (s.receiver.watch = .sparse → s.scheduler.queue = [] →
          1 ≤ t.receiver.span ∧ t.receiver.span ≤ 8 ∧
          (t.receiver.cycle.getD 0 + t.receiver.span) % 8 = s.store.working.address % 8 ∧
          t.receiver.expected = some (p + t.receiver.span * 1200))) ∧
      t.receiver.time = s.receiver.time ∧ t.receiver.voice = s.receiver.voice ∧ t.meter = s.meter ∧
      t.locator = s.locator ∧ t.panel = s.panel ∧ t.store = s.store ∧ t.emergency = s.emergency ∧
      t.nonvolatile = s.nonvolatile)

/-- SPARSE watch is entered when its conditions hold together: sync stands, LINK is raised, and with no window open
the next expected header is that of the next listened cycle, 1 to 8 cycles on. That the listened cycles, the current
one among them, are chosen at this instant by the unit address then in force is the model's choice (log entry 50).
Where a condition fails, nothing happens; nor while the test is held back because no condition has changed since a
UNIT item returned the watch to FULL (log entry 51). The slot map stands (log entry 42). -/
def Obligations.SparseWatchIsEntered : Prop :=
  ∀ s : State, s.powered = true → s.receiver.watch = .full →
    (s.receiver.parkSince ≠ none → s.receiver.parkMarked = true → s.receiver.parkedStatus = true →
      (s.meter.state = .off ∨ s.meter.state = .free ∧ assignment s = none) → s.emergency.state = .idle →
      s.scheduler.queue = [] → s.receiver.sparseHeld = false →
      ∃ t, exec .enterSparse s = .next t ∧
        t = { s with
          receiver := { s.receiver with
            watch := .sparse, expected := t.receiver.expected, span := t.receiver.span
            listenAddress := s.store.working.address
            cycleListened := (s.receiver.cycle.getD 0) % 8 == s.store.working.address % 8 }
          link := { s.link with events := insertEvent .link s.link.events } } ∧
        (s.receiver.windowOpen = true ∨ s.receiver.expected = none →
          t.receiver.expected = s.receiver.expected ∧ t.receiver.span = s.receiver.span) ∧
        (s.receiver.windowOpen = false → s.receiver.expected ≠ none →
          1 ≤ t.receiver.span ∧ t.receiver.span ≤ 8 ∧
          (s.receiver.cycle.getD 0 + t.receiver.span) % 8 = s.store.working.address % 8 ∧
          t.receiver.expected = some (s.receiver.cycleStart + t.receiver.span * 1200))) ∧
    (s.receiver.parkSince = none ∨ s.receiver.parkMarked = false ∨ s.receiver.parkedStatus = false ∨
      s.meter.state.onTrip = true ∨ s.meter.state = .free ∧ assignment s ≠ none ∨ s.emergency.state ≠ .idle ∨
      s.scheduler.queue ≠ [] ∨ s.receiver.sparseHeld = true → exec .enterSparse s = .next s)

/-- The time of day runs on: a second later the second of day is one more, or 0 after 86,399, with the day type and
the source held; while UNKNOWN it does not run. The host-reset pulse ends 50 ms after it began. The voice handshake: a
request asserted in IDLE is HELD while the emergency is ACTIVE, PENDING behind a transmission, GRANTED otherwise, and
changes nothing in another voice state; a release goes to IDLE from any state; the end of the transmission under way
grants a PENDING request. A step of the clock moves uptime on to its own instant, never back (log entry 1). -/
def Obligations.TimePulseAndVoice : Prop :=
  (∀ s : State, s.powered = true →
    (s.receiver.time = none → exec .timeOfDaySecond s = .next s) ∧
    (∀ r, s.receiver.time = some r →
      exec .timeOfDaySecond s = .next { s with
        now := max s.now (r.since + 1000)
        receiver := { s.receiver with time := some { r with
          time := ⟨r.time.day, if r.time.second < 86399 then r.time.second + 1 else 0⟩
          since := r.since + 1000 } } }) ∧
    (∀ i, s.link.hostReset = some i →
      exec .hostResetPulseEnd s = .next { s with
        now := max s.now (i + 50), link := { s.link with hostReset := none } }) ∧
    (s.link.hostReset = none → exec .hostResetPulseEnd s = .next s)) ∧
  (∀ s : State, s.powered = true →
    (s.receiver.voiceReq = false →
      exec .voiceReqAsserted s = .next { s with receiver := { s.receiver with
        voiceReq := true
        voice :=
          if s.receiver.voice = .idle then
            if s.emergency.state = .active then .held
            else if s.receiver.transmission = none then .granted else .pending
          else s.receiver.voice } }) ∧
    (s.receiver.voiceReq = true →
      exec .voiceReqReleased s = .next { s with receiver := { s.receiver with
        voiceReq := false, voice := .idle } }) ∧
    (s.receiver.transmission ≠ none →
      exec .transmissionEnd s = .next { s with receiver := { s.receiver with
        transmission := none
        voice := if s.receiver.voice = .pending then .granted else s.receiver.voice } }))

/-! ### Downlink items -/

/-- An item that is not received changes nothing: without power (log entry 13), out of a decoded cycle (sync not
LOCKED, the cycle's header not taken, the cycle over by log entry 17, or not a listened one in SPARSE watch), past the
eighth block of its cycle, or with a wrong check. One received is counted among the eight and discarded with no reply
and no event where it lies outside its encoding, a field lies outside its range, its kind does not allow its target,
the target is not this part's, or it is an OFFER for a zone outside the served set. A UNIT item taken in SPARSE watch
returns it to FULL, with LINK. -/
def Obligations.DiscardedItemsChangeNothing : Prop :=
  ∀ (c : Instr) (head : ItemHead) (unitKind : Bool) (s : State), itemHead c = some (head, unitKind) →
    (s.powered = false ∨ s.receiver.sync ≠ .locked ∨ s.receiver.itemsOpen = false ∨
      s.receiver.cycleStart + 1200 ≤ s.now ∨ s.receiver.watch = .sparse ∧ s.receiver.cycleListened = false ∨
      8 ≤ s.receiver.itemCount ∨ head.checkOk = false → exec c s = .next s) ∧
    (ItemsHeard s → head.checkOk = true →
      (head.encodingOk = false ∨ ¬ FieldsInRange c ∨ 2 < head.target ∨ unitKind = true ∧ head.target ≠ 2 ∨
        head.target = 2 ∧ (s.store.working.address = 0 ∨ head.value ≠ s.store.working.address) ∨
        head.target = 1 ∧ (head.value < 1 ∨ 250 < head.value) ∨
        (∃ o, c = .offer head o) ∧ head.target = 1 ∧ head.value ∉ servedSet s) →
      exec c s = .next (blockCounted s)) ∧
    (∀ t, ForThisUnitInSparse head s → FieldsInRange c → exec c s = .next t →
      t.receiver.watch = .full ∧ Pending .link t)

/-- An OFFER in range that is for this cab. Admitted by the cab condition, the served set and the base, in FULL watch:
a new number takes an empty place as the last entry, PRESENTED, with OFFER_NEW; on a full board it takes the place of
the CLOSED entry that closed first, or, with none CLOSED, that of the PRESENTED entry of the lowest class below its
own, the earliest expiry and the earliest arrival, which leaves with an overflow counted; where none ranks below it,
the overflow alone is counted; a number that stands open is refreshed with OFFER_NEW and makes no new entry; one that
stands CLOSED is ignored. Not admitted, it leaves all but the count of blocks as it was, and a UNIT one acts as a
PAGE. -/
def Obligations.OfferJoinsTheBoard : Prop :=
  ∀ (head : ItemHead) (o : OfferFields) (s : State), ItemsHeard s →
    head.checkOk = true → head.encodingOk = true → OfferInRange o →
    (head.target = 0 ∨ head.target = 1 ∧ 1 ≤ head.value ∧ head.value ≤ 250 ∧ head.value ∈ servedSet s ∨
      NamesThisUnit head s) →
    let heard := { s.receiver with itemCount := s.receiver.itemCount + 1 }
    let cls : OfferClass := if o.cls = 0 then .street else if o.cls = 1 then .booked else .priority
    let new : Offer :=
      { number := o.number, cls := cls, nextJob := o.nextJob == 1
        target := if head.target = 0 then .all else if head.target = 1 then .zone else .unit
        pickup := o.pickup, arrival := s.now / 1000, expiry := s.now / 1000 + o.timeToLive
        text := o.text, estimate := o.estimate, state := .presented, origin := none, outcome := none }
    let lower (x : Offer) := x.state = .presented ∧ x.cls.code < cls.code
    let sooner (x y : Offer) := x.cls.code < y.cls.code ∨ x.cls = y.cls ∧ x.expiry < y.expiry
    (OfferAdmitted head o s →
      (findOffer o.number s = none → s.board.entries.length < 8 →
        exec (.offer head o) s = .next (raise .offerNew { s with
          receiver := heard, board := { s.board with entries := s.board.entries ++ [new] } })) ∧
      (∀ n rest, findOffer o.number s = none → s.board.entries.length = 8 → s.board.closeOrder = n :: rest →
        exec (.offer head o) s = .next (raise .offerNew { s with
          receiver := heard
          board := { s.board with
            entries := s.board.entries.filter (fun x => x.number != n) ++ [new]
            closeOrder := s.board.closeOrder.filter (fun m => m != n) } })) ∧
      (∀ l v m, findOffer o.number s = none → s.board.entries.length = 8 → s.board.closeOrder = [] →
        s.board.entries = l ++ v :: m → lower v → (∀ x ∈ l, lower x → sooner v x) →
        (∀ x ∈ m, lower x → ¬ sooner x v) →
        exec (.offer head o) s = .next (raise .offerNew { s with
          receiver := heard
          board := { s.board with
            entries := s.board.entries.filter (fun x => x.number != v.number) ++ [new]
            focus := if s.board.focus = some v.number then none else s.board.focus
            overflow := min 65535 (s.board.overflow + 1) } })) ∧
      (findOffer o.number s = none → s.board.entries.length = 8 → s.board.closeOrder = [] →
        (∀ x ∈ s.board.entries, ¬ lower x) →
        exec (.offer head o) s = .next { s with
          receiver := heard
          board := { s.board with overflow := min 65535 (s.board.overflow + 1) } }) ∧
      (∀ x, findOffer o.number s = some x → x.state ≠ .closed →
        exec (.offer head o) s = .next (raise .offerNew { s with
          receiver := heard
          board := { s.board with entries := s.board.entries.map fun y =>
            if y.number == o.number then
              { y with expiry := max y.expiry new.expiry, text := o.text, estimate := o.estimate }
            else y } })) ∧
      (∀ x, findOffer o.number s = some x → x.state = .closed →
        exec (.offer head o) s = .next (blockCounted s))) ∧
    (¬ OfferAdmitted head o s →
      (s.receiver.watch = .full ∨ head.target ≠ 2 → exec (.offer head o) s = .next (blockCounted s)) ∧
      (head.target = 2 → exec (.offer head o) s = exec (.page head) s))

/-- A LOST naming an entry in CLAIMING or AWAITING_AWARD closes it LOST, and a CLAIMING one's CLAIM leaves the queue;
any other LOST is ignored, the assignment standing: it acts as a PAGE does. -/
def Obligations.LostClosesTheClaim : Prop :=
  ∀ (head : ItemHead) (n : Nat) (s : State), 1 ≤ n → n ≤ 65535 →
    let closed (o : Offer) (t : State) : State :=
      { blockCounted s with
        board := closedOn n .lost s.board
        scheduler := { s.scheduler with
          queue :=
            if o.state = .claiming then
              s.scheduler.queue.filter (fun e => !(e.kind == .claim && e.key == o.number))
            else s.scheduler.queue
          slotReq := t.scheduler.slotReq }
        link := { s.link with events := insertEvent .offerClosed s.link.events } }
    (∀ o, findOffer n s = some o → o.state = .claiming ∨ o.state = .awaitingAward →
      (ForThisUnit head s → ∃ t, exec (.lost head n) s = .next t ∧ t = closed o t) ∧
      (ForThisUnitInSparse head s → ∃ t, exec (.lost head n) s = .next t ∧ t = backToFull (closed o t) t)) ∧
    ((∀ o, findOffer n s = some o → o.state ≠ .claiming ∧ o.state ≠ .awaitingAward) →
      exec (.lost head n) s = exec (.page head) s)

/-- A WITHDRAW, whatever its target, closes a PRESENTED, CLAIMING or AWAITING_AWARD entry WITHDRAWN, whatever the
emergency; a CLAIMING one's CLAIM leaves the queue. The assignment withdrawn ends with a STATUS and no DECLINE. A
WITHDRAW naming a CLOSED entry or none is ignored; one naming this unit acts then as a PAGE does. -/
def Obligations.WithdrawClosesOpenEntries : Prop :=
  ∀ (head : ItemHead) (n : Nat) (s : State), 1 ≤ n → n ≤ 65535 →
    let inPlace := ForThisUnit head s ∨ ForManyUnits head s
    let closed (o : Offer) (t : State) : State :=
      { blockCounted s with
        board := closedOn n .withdrawn s.board
        scheduler := { s.scheduler with
          queue :=
            if o.state = .claiming then
              s.scheduler.queue.filter (fun e => !(e.kind == .claim && e.key == o.number))
            else s.scheduler.queue
          slotReq := t.scheduler.slotReq }
        link := { s.link with events := insertEvent .offerClosed s.link.events } }
    (∀ o, findOffer n s = some o → o.state ≠ .closed → o.state ≠ .awarded →
      (inPlace → ∃ t, exec (.withdraw head n) s = .next t ∧ t = closed o t) ∧
      (ForThisUnitInSparse head s →
        ∃ t, exec (.withdraw head n) s = .next t ∧ t = backToFull (closed o t) t)) ∧
    (∀ o, findOffer n s = some o → o.state = .awarded → inPlace ∨ ForThisUnitInSparse head s →
      ∃ t, exec (.withdraw head n) s = .next t ∧
        (∃ o', findOffer n t = some o' ∧ o' = { o with state := .closed, outcome := some .withdrawn }) ∧
        Pending .offerClosed t ∧ StatusGenerated s t ∧
        (∀ e ∈ t.scheduler.queue, e.kind = .decline → e ∈ s.scheduler.queue) ∧
        t.meter = s.meter ∧ t.inbox = s.inbox ∧ t.emergency = s.emergency ∧ t.accounts = s.accounts) ∧
    ((∀ o, findOffer n s = some o → o.state = .closed) →
      (inPlace → exec (.withdraw head n) s = .next (blockCounted s)) ∧
      (head.target = 2 → exec (.withdraw head n) s = exec (.page head) s))

/-- An AWARD of a claim in CLAIMING or AWAITING_AWARD, the emergency IDLE or COVERT: the entry becomes the assignment,
its CLAIM leaves the queue, AWARD is raised, a STATUS is generated and no entry stays PRESENTED: each closes DROPPED.
With the emergency ACTIVE or ACKNOWLEDGED the entry closes DECLINED and a DECLINE is placed, where none for the number
stands and fewer than three do. A repeat of the assignment's award is ignored: it acts as a PAGE does; any other AWARD
leaves the board as it was and places a DECLINE, where none for the number stands and fewer than three do. In SPARSE
watch each returns the watch to FULL. -/
def Obligations.AwardMakesTheAssignment : Prop :=
  ∀ (head : ItemHead) (n : Nat) (s : State), 1 ≤ n → n ≤ 65535 →
    let taken := ForThisUnit head s ∨ ForThisUnitInSparse head s
    (∀ o, taken → findOffer n s = some o → o.state = .claiming ∨ o.state = .awaitingAward →
      s.emergency.state = .idle ∨ s.emergency.state = .covert →
      ∃ t, exec (.award head n) s = .next t ∧
        findOffer n t = some { o with state := .awarded } ∧ Pending .award t ∧
        (o.state = .claiming → ∀ e ∈ t.scheduler.queue, ¬(e.kind = .claim ∧ e.key = o.number)) ∧
        StatusGenerated s t ∧ (∀ x ∈ t.board.entries, x.state ≠ .presented) ∧ t.receiver.watch = .full ∧
        (BoardSound s → ∀ x ∈ s.board.entries, x.state = .presented → Dropped x t) ∧
        t.meter = s.meter ∧ t.inbox = s.inbox ∧ t.emergency = s.emergency ∧ t.accounts = s.accounts) ∧
    (∀ o, taken → findOffer n s = some o → o.state = .claiming ∨ o.state = .awaitingAward →
      s.emergency.state = .active ∨ s.emergency.state = .acknowledged →
      ∃ t, exec (.award head n) s = .next t ∧ t.receiver.watch = .full ∧
        findOffer n t = some { o with state := .closed, outcome := some .declined } ∧
        Pending .offerClosed t ∧
        ((∀ e ∈ s.scheduler.queue, ¬(e.kind = .decline ∧ e.key = n)) →
          s.scheduler.queue.countP (fun e => e.kind == .decline) < 3 →
          ∃ e ∈ t.scheduler.queue, e.kind = .decline ∧ e.key = n ∧ e.state = .waiting)) ∧
    (∀ o, findOffer n s = some o → o.state = .awarded → exec (.award head n) s = exec (.page head) s) ∧
    (taken → (∀ o, findOffer n s = some o → o.state = .presented ∨ o.state = .closed) →
      ∃ t, exec (.award head n) s = .next t ∧ t.board = s.board ∧ t.receiver.watch = .full ∧
        (s.receiver.watch = .full → t.link = s.link) ∧ (s.receiver.watch = .sparse → Pending .link t) ∧
        ((∀ e ∈ s.scheduler.queue, ¬(e.kind = .decline ∧ e.key = n)) →
          s.scheduler.queue.countP (fun e => e.kind == .decline) < 3 →
          ∃ e ∈ t.scheduler.queue, e.kind = .decline ∧ e.key = n ∧ e.state = .waiting))

/-- A TEXT in range, whatever its target. A new number is stored as the youngest record, UNREAD, with MESSAGE, where
the inbox holds fewer than 16, or where the earliest record that is READ or REPLIED, NORMAL and with receipt NONE or
SENT makes room for it; its receipt is NONE for a zone or the fleet, and for this unit DUE, or QUEUED once its RECEIPT
is placed. With 16 records and none such it is refused: not stored, the inbox-full count one more, the refusal mark
set, MESSAGE raised. A number that stands is a duplicate: no MESSAGE, every record as it was but for the receipt of
that one, which from SENT or FAILED becomes DUE, or QUEUED once placed. -/
def Obligations.TextIsStoredOrRefused : Prop :=
  ∀ (head : ItemHead) (x : TextFields) (s : State), TextInRange x →
    let inPlace := ForThisUnit head s ∨ ForManyUnits head s
    let taken := inPlace ∨ ForThisUnitInSparse head s
    let evictable (m : Message) :=
      m.read ≠ .unread ∧ m.priority = .normal ∧ (m.receipt = .none ∨ m.receipt = .sent)
    let youngest (kept : List Message) (t : State) : Prop :=
      ∃ m, t.inbox.messages.getLast? = some m ∧
        t.inbox.messages.map (·.number) = kept.map (·.number) ++ [x.number] ∧
        m.number = x.number ∧ m.text = x.text ∧ m.replies = x.replies ∧
        m.priority = (if x.priority = 0 then .normal else .urgent) ∧
        m.target = (if head.target = 0 then .all else if head.target = 1 then .zone else .unit) ∧
        m.arrival = timeOfDay s ∧ m.read = .unread ∧ m.receiptCode = 0 ∧ m.chosen = none ∧
        m.outstanding = false ∧ (head.target ≠ 2 → m.receipt = .none) ∧
        (head.target = 2 → m.receipt = .due ∨ m.receipt = .queued) ∧ Pending .message t ∧
        t.inbox.fullCount = s.inbox.fullCount ∧ t.inbox.refused = s.inbox.refused ∧ t.board = s.board ∧
        t.meter = s.meter ∧ t.accounts = s.accounts ∧ t.emergency = s.emergency ∧ t.store = s.store
    let refused : State := raise .message { blockCounted s with
      inbox := { s.inbox with fullCount := min 65535 (s.inbox.fullCount + 1), refused := true } }
    (taken → findMessage x.number s = none → s.inbox.messages.length < 16 →
      ∃ t, exec (.text head x) s = .next t ∧ youngest s.inbox.messages t) ∧
    (∀ l old m, taken → findMessage x.number s = none → s.inbox.messages = l ++ old :: m →
      s.inbox.messages.length = 16 → (s.inbox.messages.map (·.number)).Nodup → evictable old →
      (∀ y ∈ l, ¬ evictable y) → ∃ t, exec (.text head x) s = .next t ∧ youngest (l ++ m) t) ∧
    (findMessage x.number s = none → s.inbox.messages.length = 16 → (∀ m ∈ s.inbox.messages, ¬ evictable m) →
      (inPlace → exec (.text head x) s = .next refused) ∧
      (ForThisUnitInSparse head s → ∃ t, exec (.text head x) s = .next t ∧ t = backToFull refused t)) ∧
    (∀ m, taken → findMessage x.number s = some m → (s.inbox.messages.map (·.number)).Nodup →
      (∀ y ∈ s.inbox.messages, y.receipt ≠ .due) →
      ∃ t y, exec (.text head x) s = .next t ∧ findMessage x.number t = some y ∧
        y = { m with receipt := y.receipt } ∧
        (m.receipt = .sent ∨ m.receipt = .failed → y.receipt = .due ∨ y.receipt = .queued) ∧
        (m.receipt ≠ .sent → m.receipt ≠ .failed → y = m) ∧
        (∀ z ∈ s.inbox.messages, z.number ≠ x.number → z ∈ t.inbox.messages) ∧
        t.inbox.messages.length = s.inbox.messages.length ∧ t.inbox.fullCount = s.inbox.fullCount ∧
        (Pending .message t → Pending .message s) ∧ t.board = s.board ∧ t.meter = s.meter ∧
        t.accounts = s.accounts ∧ t.emergency = s.emergency ∧ t.store = s.store)

/-- A PAGE returns SPARSE watch to FULL: LINK is raised, and with no window open the next expected header is at the
first cycle boundary that has not passed, by log entry 37 the end of the cycle also where the item comes at its very
start. In FULL watch it has no effect beyond being counted as an item. It makes no reply, no uplink entry and no other
event. The conditions of SPARSE watch, none of which it changed, are not tested again for it (log entry 51). -/
def Obligations.PageReturnsToFullWatch : Prop :=
  ∀ (head : ItemHead) (s : State),
    (ForThisUnit head s → exec (.page head) s = .next (blockCounted s)) ∧
    (ForThisUnitInSparse head s → s.receiver.cycleStart ≤ s.now →
      ∃ t, exec (.page head) s = .next t ∧ t = backToFull (blockCounted s) t ∧
        (s.receiver.windowOpen = false → s.receiver.expected ≠ none →
          t.receiver.expected = some (s.receiver.cycleStart + 1200) ∧ t.receiver.span = 1) ∧
        (s.receiver.windowOpen = true →
          t.receiver.expected = s.receiver.expected ∧ t.receiver.span = s.receiver.span) ∧
        exec .enterSparse t = .next t)

/-- An EMERG_ACK in ACTIVE makes the state ACKNOWLEDGED with EMERGENCY raised, a held voice request granted or made
PENDING, the alert line as it was, the emergency mark not dirtied and the EMERGENCY entry standing; in COVERT it sets
the acknowledged flag alone; in IDLE and ACKNOWLEDGED it is ignored: it acts as a PAGE does. -/
def Obligations.EmergAckActsByTheState : Prop :=
  ∀ (head : ItemHead) (s : State),
    let heard := { s.receiver with itemCount := s.receiver.itemCount + 1 }
    (ForThisUnit head s → s.emergency.state = .active →
      exec (.emergAck head) s = .next (raise .emergency { s with
        emergency := { s.emergency with state := .acknowledged }
        receiver := { heard with
          voice :=
            if s.receiver.voice = .held then
              if s.receiver.transmission = none then .granted else .pending
            else s.receiver.voice } })) ∧
    (∀ t, s.emergency.state = .active → exec (.emergAck head) s = .next t → alertLine t = alertLine s) ∧
    (ForThisUnit head s → s.emergency.state = .covert →
      exec (.emergAck head) s = .next { s with
        receiver := heard, emergency := { s.emergency with acknowledged := true } }) ∧
    (s.emergency.state = .idle ∨ s.emergency.state = .acknowledged →
      exec (.emergAck head) s = exec (.page head) s)

/-- A STAND_DOWN, or an EMERGENCY CANCEL with the cancel code that is not the duress code too, ends the emergency from
ACTIVE or ACKNOWLEDGED: the EMERGENCY entry leaves the queue, the report timer stops, flag and sources clear, the mark
becomes NONE and dirty, EMERGENCY is raised with the last end given. A stand-down ends COVERT as well, with no event
and the last end left; in IDLE it is ignored and acts as a PAGE does, in SPARSE watch by the return to FULL. -/
def Obligations.StandDownAndCancelEndTheEmergency : Prop :=
  ∀ (s : State),
    let ended (t : State) :=
      t.emergency.state = .idle ∧ t.emergency.acknowledged = false ∧
        t.emergency.sources = ⟨false, false, false⟩ ∧ t.emergency.reportSince = none ∧
        t.emergency.latch = s.emergency.latch ∧ t.emergency.onset = s.emergency.onset ∧
        t.emergency.mark = .none ∧ t.writer.markDirty = true ∧ t.scheduler.lastBeacon = none ∧
        (∀ e ∈ t.scheduler.queue, ¬(e.kind = .emergency ∧ e.key = 0)) ∧
        (∀ e ∈ s.scheduler.queue, e.kind ≠ .emergency → e ∈ t.scheduler.queue) ∧
        (s.receiver.voice ≠ .held → t.receiver.voice = s.receiver.voice) ∧
        t.board = s.board ∧ t.meter = s.meter ∧ t.inbox = s.inbox ∧ t.accounts = s.accounts ∧
        t.store = s.store ∧ t.nonvolatile = s.nonvolatile
    (∀ head, ForThisUnit head s →
      (s.emergency.state = .active ∨ s.emergency.state = .acknowledged →
        ∃ t, exec (.standDown head) s = .next t ∧ ended t ∧ t.emergency.lastEnd = .standDown ∧
          Pending .emergency t) ∧
      (s.emergency.state = .covert →
        ∃ t, exec (.standDown head) s = .next t ∧ ended t ∧ t.emergency.lastEnd = s.emergency.lastEnd ∧
          t.link = s.link) ∧
      (s.emergency.state = .idle →
        exec (.standDown head) s = .next { s with
          receiver := { s.receiver with itemCount := s.receiver.itemCount + 1 } })) ∧
    (∀ head, s.emergency.state = .idle → exec (.standDown head) s = exec (.page head) s ∧
      (ForThisUnitInSparse head s →
        ∃ t, exec (.standDown head) s = .next t ∧ t = backToFull (blockCounted s) t)) ∧
    (∀ code : Digits, Listening s → 4 ≤ code.length → code.length ≤ 8 →
      (∀ b ∈ code, 0x30 ≤ b.toNat ∧ b.toNat ≤ 0x39) →
      s.emergency.state = .active ∨ s.emergency.state = .acknowledged →
      code = s.store.working.cancelCode → code ≠ s.store.working.duressCode →
      ∃ t, exec (.emergencyCancel (.fields code)) s = .next t ∧ ended t ∧ t.emergency.lastEnd = .cancel ∧
        Pending .emergency t ∧ t.link.owed = some ⟨⟨.ecan, .ok, [.name 0]⟩, s.now⟩)

/-- The duress code moves ACTIVE or ACKNOWLEDGED to COVERT and answers as a cancel does: the acknowledged flag tells
which it was; the EMERGENCY entry, the report timer, the sources and the onset stand; the mark becomes COVERT and
dirty; EMERGENCY is raised and the last end is CANCEL. A cancel while the emergency is shown IDLE, and one with
neither code, is REFUSED and changes nothing. -/
def Obligations.DuressGoesCovert : Prop :=
  ∀ (code : Digits) (s : State), Listening s → 4 ≤ code.length → code.length ≤ 8 →
    (∀ b ∈ code, 0x30 ≤ b.toNat ∧ b.toNat ≤ 0x39) →
    (s.emergency.state = .active ∨ s.emergency.state = .acknowledged → code = s.store.working.duressCode →
      ∃ t, exec (.emergencyCancel (.fields code)) s = .next t ∧
        t = { s with
          emergency := { s.emergency with
            state := .covert, acknowledged := s.emergency.state == .acknowledged, lastEnd := .cancel
            mark := .covert }
          writer := { s.writer with markDirty := true }
          receiver := { s.receiver with voice := t.receiver.voice }
          link := { s.link with
            events := insertEvent .emergency s.link.events
            owed := some ⟨⟨.ecan, .ok, [.name 0]⟩, s.now⟩ } } ∧
        t.receiver.voice =
          (if s.receiver.voice = .held then
            if s.receiver.transmission = none then .granted else .pending
          else s.receiver.voice)) ∧
    (s.emergency.state = .idle ∨ s.emergency.state = .covert ∨
      code ≠ s.store.working.duressCode ∧ code ≠ s.store.working.cancelCode →
      exec (.emergencyCancel (.fields code)) s = .next { s with link := { s.link with
        owed := some ⟨⟨.ecan, .refused, []⟩, s.now⟩ } })

/-- A REMOTE_RESET taken in IDLE: sync goes to SEARCH, the queue, the board and the inbox are emptied, the locator
loses fix and zone, with ZONE where the zone, the served set or the fix condition changes, the instant of the last
parked mark is cleared, the access level is 0, the watch is FULL, the parked-status mark clears, the voice handshake
waits for the release of a standing request, and the host-reset line is pulsed where the setting says so. The record
of an emptied TRIP_REPORT returns to UNREPORTED with no hold-off; each emptied CANNED and FREETEXT joins the eight
host results as FAILED, several in rank order (log entry 44), with UPLINK_RESULT. Meter, the rest of the accounts,
settings, time of day, totals, emergency and the events pending stand. While the emergency is not IDLE it is ignored:
it acts as a PAGE does. -/
def Obligations.RemoteResetClearsTheJobSide : Prop :=
  ∀ (head : ItemHead) (s : State),
    (ForThisUnit head s ∨ ForThisUnitInSparse head s → s.emergency.state = .idle →
      ∃ t, exec (.remoteReset head) s = .next t ∧
        t.receiver.sync = .search ∧ t.receiver.searchSince = s.now ∧ t.receiver.expected = none ∧
        t.receiver.slotMap = none ∧ t.receiver.itemsOpen = false ∧ Pending .link t ∧
        t.scheduler.queue = [] ∧ t.scheduler.slotReq = none ∧ t.scheduler.fill = none ∧
        t.scheduler.regenerate = false ∧ t.scheduler.nextTicket = s.scheduler.nextTicket ∧
        t.scheduler.parkMark = none ∧
        (s.locator.zone ≠ 0 ∨ servedSet s ≠ [] ∨ s.locator.condition ≠ .lost → Pending .zone t) ∧
        (s.locator.zone = 0 → servedSet s = [] → s.locator.condition = .lost → ¬ Pending .zone s →
          ¬ Pending .zone t) ∧
        ((∃ e ∈ s.scheduler.queue, e.kind = .canned ∨ e.kind = .freetext) → Pending .uplinkResult t) ∧
        (s.scheduler.results.length ≤ 8 →
          let l := s.scheduler.results ++
            (s.scheduler.queue.filter fun e => e.kind == .canned || e.kind == .freetext).map
              fun e => ⟨e.key, e.kind, false⟩
          t.scheduler.results = l.drop (l.length - 8)) ∧
        t.board = resetBoard ∧ t.inbox = resetInbox ∧
        t.locator.fix = none ∧ t.locator.zone = 0 ∧ t.locator.record = none ∧ t.locator.condition = .lost ∧
        t.locator.candidate = none ∧ t.locator.loadPointer = s.locator.loadPointer ∧
        t.store = { s.store with level := 0 } ∧ t.receiver.watch = .full ∧
        t.receiver.parkedStatus = false ∧
        (s.panel.ignition = .off → t.receiver.parkSince = some s.now ∧ t.receiver.parkMarked = false) ∧
        t.receiver.voice = (if s.receiver.voiceReq then .blocked else .idle) ∧
        t.link.hostReset = (if s.store.working.resetReachesHost then some s.now else s.link.hostReset) ∧
        t.receiver.time = s.receiver.time ∧ t.meter = s.meter ∧
        t.accounts = { s.accounts with
          log := s.accounts.log.map fun x =>
            if s.scheduler.queue.any (fun e => e.kind == .tripReport && e.key == x.record.seq) then
              { x with record := { x.record with report := .unreported }, holdOff := none }
            else x } ∧
        t.emergency = s.emergency ∧ t.panel = s.panel ∧ t.writer = s.writer ∧
        t.nonvolatile = s.nonvolatile ∧ t.link.owed = s.link.owed ∧
        (∀ k, Pending k s → Pending k t)) ∧
    (s.emergency.state ≠ .idle → exec (.remoteReset head) s = exec (.page head) s)

/-! ### The uplink scheduler -/

/-- A slot that begins while the part may not transmit goes unused, the entries with their state and attempts as they
were: sync not LOCKED, VOICE_GRANT on, the voice state PENDING, the unit address unset or out of range, the slot IDLE,
or granted to another address. So does a CONTENTION or EMERG_CONTENTION slot once the cycle's contention transmission
has been made, and an EMERG_CONTENTION slot with no EMERGENCY entry WAITING. A slot of a cycle without a slot map does
not come about. A step of the clock moves uptime on to its own instant, never back (log entry 1). -/
def Obligations.ClosedSlotGoesUnused : Prop :=
  ∀ (slot : Fin 10) (draw : Fin 16) (s : State), s.powered = true →
    (∀ l, s.receiver.slotMap = some l → s.receiver.nextSlot ≤ slot.val →
      (s.receiver.sync ≠ .locked ∨ s.receiver.voice = .granted ∨ s.receiver.voice = .pending ∨
        s.store.working.address = 0 ∨ 4094 < s.store.working.address ∨ l[slot.val]? = some .idle ∨
        (∃ a, l[slot.val]? = some (.grant a) ∧ a ≠ s.store.working.address) ∨
        (l[slot.val]? = some .contention ∨ l[slot.val]? = some .emergContention) ∧
          s.scheduler.contentionUsed = true ∨
        l[slot.val]? = some .emergContention ∧
          ∀ e ∈ s.scheduler.queue, ¬(e.kind = .emergency ∧ e.state = .waiting)) →
      exec (.slotStart slot draw) s = .next { s with
        now := max s.now (s.receiver.cycleStart + (150 + 100 * slot.val))
        receiver := { s.receiver with nextSlot := slot.val + 1 } }) ∧
    (s.receiver.slotMap = none → exec (.slotStart slot draw) s = .next s)

/-- The EMERGENCY entry goes with certainty: in the first CONTENTION or EMERG_CONTENTION slot that finds it WAITING,
whatever the draw and the persistence, it becomes SENT with the slot, the cycle and the address; once a contention
transmission has been made in the cycle such a slot carries nothing. A step of the clock moves uptime on to its own
instant, never back (log entry 1). -/
def Obligations.EmergencyGoesWithCertainty : Prop :=
  ∀ (slot : Fin 10) (draw : Fin 16) (s : State) (l : List SlotUse) (e : Entry) (rest : List Entry),
    s.powered = true → s.receiver.slotMap = some l → s.receiver.nextSlot ≤ slot.val →
    (l[slot.val]? = some .contention ∨ l[slot.val]? = some .emergContention) →
    MayTransmit s → s.scheduler.queue = e :: rest → e.kind = .emergency → e.state = .waiting →
    (∀ x ∈ rest, x.kind ≠ .emergency) →
    let now := max s.now (s.receiver.cycleStart + (150 + 100 * slot.val))
    (s.scheduler.contentionUsed = false →
      exec (.slotStart slot draw) s = .next { s with
        now := now
        receiver := { s.receiver with
          nextSlot := slot.val + 1
          transmission := some ⟨s.store.working.address, emergencyItem { s with now := now }, now⟩ }
        scheduler := { s.scheduler with
          contentionUsed := true
          queue := { e with
            state := .sent, grantWait := none
            sentAs := some ⟨slot.val, s.receiver.cycle.getD 0, s.store.working.address, now⟩ } :: rest } }) ∧
    (s.scheduler.contentionUsed = true →
      exec (.slotStart slot draw) s = .next { s with
        now := now, receiver := { s.receiver with nextSlot := slot.val + 1 } })

/-- A CONTENTION slot with no contention transmission yet made in the cycle: the first entry of the queue that may
compete, WAITING and SHORT or, while no slot request is outstanding, WAITING and LONG, being no EMERGENCY, goes when
the draw of 16 lies below the persistence, which is the model's choice of the draw (log entry 4): a SHORT one itself
and a LONG one by its SLOT_REQ, and the cycle's contention transmission is made. The entries before and after it
stand. Otherwise, and where none may compete, the slot goes unused. A step of the clock moves uptime on to its own
instant, never back (log entry 1). -/
def Obligations.ContentionFollowsThePersistence : Prop :=
  ∀ (slot : Fin 10) (draw : Fin 16) (s : State) (l : List SlotUse),
    s.powered = true → s.receiver.slotMap = some l → s.receiver.nextSlot ≤ slot.val →
    l[slot.val]? = some .contention → MayTransmit s → s.scheduler.contentionUsed = false →
    let now := max s.now (s.receiver.cycleStart + (150 + 100 * slot.val))
    let sent : SentAs := ⟨slot.val, s.receiver.cycle.getD 0, s.store.working.address, now⟩
    let competes (x : Entry) :=
      x.state = .waiting ∧ (x.kind.long = false ∨ s.scheduler.slotReq = none)
    let unused : State := { s with now := now, receiver := { s.receiver with nextSlot := slot.val + 1 } }
    ((∀ x ∈ s.scheduler.queue, ¬ competes x) → exec (.slotStart slot draw) s = .next unused) ∧
    (∀ before e after, s.scheduler.queue = before ++ e :: after → (∀ x ∈ before, ¬ competes x) → competes e →
      (∀ x ∈ before ++ after, ¬(x.kind = e.kind ∧ x.key = e.key)) → e.kind ≠ .emergency →
      (draw.val < s.receiver.persistence → e.kind.long = false →
        exec (.slotStart slot draw) s = .next { s with
          now := now
          receiver := { s.receiver with
            nextSlot := slot.val + 1
            transmission := some ⟨s.store.working.address, itemOf e { s with now := now }, now⟩ }
          scheduler := { s.scheduler with
            contentionUsed := true
            queue := before ++ { e with state := .sent, grantWait := none, sentAs := some sent } :: after } }) ∧
      (draw.val < s.receiver.persistence → e.kind.long = true →
        exec (.slotStart slot draw) s = .next { s with
          now := now
          receiver := { s.receiver with
            nextSlot := slot.val + 1
            transmission := some ⟨s.store.working.address, .slotReq, now⟩ }
          scheduler := { s.scheduler with
            contentionUsed := true, slotReq := some (e.kind, e.key)
            queue := before ++ { e with state := .requesting, sentAs := some sent } :: after } }) ∧
      (s.receiver.persistence ≤ draw.val → exec (.slotStart slot draw) s = .next unused))

/-- A slot granted to this part carries one item by the first case of R30 that applies, in any queue: the WAITING
EMERGENCY entry, with which the grant wait of each entry that awaits a grant restarts; else the LONG entry that awaits
its grant, which clears the outstanding slot request; else the first WAITING SHORT entry; else, in FULL watch, a fill
STATUS, which is recorded, and in SPARSE watch nothing. The other entries stand. A STATUS is built then: cab state
OFF, FREE, FREE_ASSIGNED, HIRED or STOPPED, the current zone, the assignment's offer number; the item of another kind
is its number or what its entry carries. A step of the clock moves uptime on to its own instant, never back (log entry
1). A step of the clock moves uptime on to its own instant, never back (log entry 1). -/
def Obligations.GrantCarriesOneItem : Prop :=
  ∀ (slot : Fin 10) (draw : Fin 16) (s : State) (l : List SlotUse),
    s.powered = true → s.receiver.slotMap = some l → s.receiver.nextSlot ≤ slot.val →
    l[slot.val]? = some (.grant s.store.working.address) → MayTransmit s →
    let now := max s.now (s.receiver.cycleStart + (150 + 100 * slot.val))
    let sent : SentAs := ⟨slot.val, s.receiver.cycle.getD 0, s.store.working.address, now⟩
    let begun := { s.receiver with nextSlot := slot.val + 1 }
    let air (item : UplinkItem) := { begun with transmission := some ⟨s.store.working.address, item, now⟩ }
    let alarm (x : Entry) := x.kind = .emergency ∧ x.state = .waiting
    let awaits (x : Entry) := x.kind.long = true ∧ x.state = .awaitGrant
    let short (x : Entry) := x.kind.long = false ∧ x.state = .waiting
    let restarted (x : Entry) : Entry := if x.state = .awaitGrant then { x with grantWait := some 1 } else x
    let gone (e : Entry) : Entry := { e with state := .sent, grantWait := none, sentAs := some sent }
    (∀ before e after, s.scheduler.queue = before ++ e :: after →
      (∀ x ∈ before ++ after, ¬(x.kind = e.kind ∧ x.key = e.key)) →
      (alarm e → (∀ x ∈ before, ¬ alarm x) →
        exec (.slotStart slot draw) s = .next { s with
          now := now
          receiver := air (emergencyItem { s with now := now })
          scheduler := { s.scheduler with
            queue := before.map restarted ++ gone e :: after.map restarted } }) ∧
      (awaits e → (∀ x ∈ s.scheduler.queue, ¬ alarm x) → (∀ x ∈ before, ¬ awaits x) →
        exec (.slotStart slot draw) s = .next { s with
          now := now
          receiver := air (itemOf e { s with now := now })
          scheduler := { s.scheduler with slotReq := none, queue := before ++ gone e :: after } }) ∧
      (short e → (∀ x ∈ s.scheduler.queue, ¬ alarm x ∧ ¬ awaits x) → (∀ x ∈ before, ¬ short x) →
        exec (.slotStart slot draw) s = .next { s with
          now := now
          receiver := air (itemOf e { s with now := now })
          scheduler := { s.scheduler with queue := before ++ gone e :: after } })) ∧
    ((∀ x ∈ s.scheduler.queue, ¬ awaits x ∧ ¬ short x) →
      (s.receiver.watch = .full →
        exec (.slotStart slot draw) s = .next { s with
          now := now
          receiver := air (statusItem s)
          scheduler := { s.scheduler with fill := some sent } }) ∧
      (s.receiver.watch = .sparse →
        exec (.slotStart slot draw) s = .next { s with now := now, receiver := begun })) ∧
    (statusItem s = .status
      (match s.meter.state with
        | .off => 0 | .free => if assignment s = none then 1 else 2 | .hired => 3 | .stopped => 4)
      s.locator.zone (assignment s)) ∧
    (∀ n, assignment s = some n → ∃ o ∈ s.board.entries, o.state = .awarded ∧ o.number = n) ∧
    (assignment s = none → ∀ o ∈ s.board.entries, o.state ≠ .awarded) ∧
    (∀ e : Entry,
      (e.kind = .status → itemOf e s = statusItem s) ∧ (e.kind = .emergency → itemOf e s = emergencyItem s) ∧
      (e.kind = .claim → itemOf e s = .claim e.key) ∧ (e.kind = .decline → itemOf e s = .decline e.key) ∧
      (∀ c, e.kind = .receipt → e.content = .code c → itemOf e s = .receipt e.key c) ∧
      (∀ c, e.kind = .canned → e.content = .canned c → itemOf e s = .canned c) ∧
      (∀ x, e.kind = .freetext → e.content = .text x → itemOf e s = .freetext x) ∧
      (∀ r, e.kind = .tripReport → e.content = .summary r → itemOf e s = .tripReport r))

/-- Claims and offers run out at their instants. A WAITING CLAIM past its deadline leaves the queue and its CLAIMING
offer closes EXPIRED; a SENT one waits. A PRESENTED entry closes EXPIRED at its expiry, and no other state does. An
AWAITING_AWARD entry closes NO_ANSWER 15 s after its expiry, and no other state does. A step of the clock moves uptime
on to its own instant, never back (log entry 1). -/
def Obligations.ClaimsAndOffersRunOut : Prop :=
  ∀ (n : Nat) (s : State), s.powered = true →
    (∀ e d, findEntry .claim n s = some e → e.state = .waiting → e.deadline = some d →
      ∃ t, exec (.claimDeadline n) s = .next t ∧ t.now = max s.now (d * 1000) ∧
        findEntry .claim n t = none ∧
        (∀ o, findOffer n s = some o → o.state = .claiming →
          t.board = closedOn n .expired s.board ∧ Pending .offerClosed t) ∧
        t.receiver = s.receiver ∧ t.meter = s.meter ∧ t.accounts = s.accounts ∧ t.inbox = s.inbox ∧
        t.emergency = s.emergency ∧ t.store = s.store ∧ t.nonvolatile = s.nonvolatile) ∧
    (∀ e, findEntry .claim n s = some e → e.state ≠ .waiting → exec (.claimDeadline n) s = .next s) ∧
    (∀ o, findOffer n s = some o →
      (o.state = .presented →
        exec (.offerExpiry n) s = .next (raise .offerClosed { s with
          now := max s.now (o.expiry * 1000), board := closedOn n .expired s.board })) ∧
      (o.state ≠ .presented → exec (.offerExpiry n) s = .next s) ∧
      (o.state = .awaitingAward →
        exec (.noAnswer n) s = .next (raise .offerClosed { s with
          now := max s.now ((o.expiry + 15) * 1000), board := closedOn n .noAnswer s.board })) ∧
      (o.state ≠ .awaitingAward → exec (.noAnswer n) s = .next s))

/-- The timers that place entries. The status timer expires at the status interval kept from the headers, generates a
STATUS and restarts from the expiry. The report timer of an emergency not IDLE runs out 5 s after its start, or 30 s
in ACKNOWLEDGED and in COVERT with the acknowledged flag set: a new EMERGENCY entry is placed where none stands, and
the timer stops. The park timer's 60 s mark generates a STATUS and is kept for the parked-status mark. A step of the
clock moves uptime on to its own instant, never back (log entry 1). -/
def Obligations.TimersPlaceEntries : Prop :=
  (∀ s : State, s.powered = true →
    (∃ t, exec .statusTimerExpiry s = .next t ∧
      t.now = max s.now (s.scheduler.statusSince + s.receiver.statusInterval * 1000) ∧
      t.scheduler.statusSince = t.now ∧ StatusGenerated s t ∧ t.board = s.board ∧ t.meter = s.meter ∧
      t.accounts = s.accounts ∧ t.inbox = s.inbox ∧ t.emergency = s.emergency ∧ t.locator = s.locator ∧
      t.panel = s.panel ∧ t.store = s.store ∧ t.nonvolatile = s.nonvolatile) ∧
    (∀ i, s.emergency.reportSince = some i → s.emergency.state ≠ .idle →
      ∃ t, exec .reportTimerExpiry s = .next t ∧
        t.now = max s.now (i +
          if s.emergency.state = .acknowledged ∨
            s.emergency.state = .covert ∧ s.emergency.acknowledged = true then 30000 else 5000) ∧
        t.emergency = { s.emergency with reportSince := none } ∧
        ((∀ e ∈ s.scheduler.queue, e.kind ≠ .emergency) →
          ∃ e ∈ t.scheduler.queue, e.kind = .emergency ∧ e.state = .waiting ∧ e.attempts = 0 ∧
            e.placed = t.now) ∧
        t.board = s.board ∧ t.meter = s.meter ∧ t.accounts = s.accounts ∧ t.inbox = s.inbox ∧
        t.locator = s.locator ∧ t.panel = s.panel ∧ t.store = s.store ∧ t.nonvolatile = s.nonvolatile) ∧
    (s.emergency.reportSince = none ∨ s.emergency.state = .idle → exec .reportTimerExpiry s = .next s)) ∧
  (∀ (s : State) (p : Nat), s.powered = true → s.receiver.parkSince = some p → s.receiver.parkMarked = false →
    ∃ t, exec .parkTimer60s s = .next t ∧ t.now = max s.now (p + 60000) ∧
      t.receiver.parkMarked = true ∧ t.receiver.parkSince = some p ∧ t.scheduler.parkMark = some t.now ∧
      StatusGenerated s t ∧ t.receiver.parkedStatus = s.receiver.parkedStatus ∧
      t.receiver.sync = s.receiver.sync ∧ t.locator = s.locator ∧ t.panel = s.panel ∧ t.board = s.board ∧
      t.meter = s.meter ∧ t.accounts = s.accounts ∧ t.inbox = s.inbox ∧ t.emergency = s.emergency ∧
      t.store = s.store ∧ t.nonvolatile = s.nonvolatile)

/-- A beacon: while the emergency is not IDLE and sync is in SEARCH, 20 s after its entry and then 15 s after the last
beacon, with the unit address set and the voice state neither PENDING nor GRANTED, the EMERGENCY item goes outside any
slot; the queue, its entries and the report timer stand. An EMERGENCY item, in a slot or outside, is built at that
instant: the newest fix with its age in whole seconds, up to 65,535, or no fix; the current zone; the meter state; the
trip's fare without extras while HIRED or STOPPED, 0 otherwise; the duress marker, set exactly in COVERT. With the
unit address unset nothing goes and the beacon's instant alone moves on, the model's choice of log entry 16. In any
other case, and without power, nothing happens. A step of the clock moves uptime on to its own instant, never back
(log entry 1). -/
def Obligations.BeaconsWithoutASlot : Prop :=
  ∀ s : State,
    (s.powered = true → s.emergency.state ≠ .idle → s.receiver.sync = .search → s.receiver.voice ≠ .pending →
      s.receiver.voice ≠ .granted →
      let due :=
        match s.scheduler.lastBeacon with
        | none => s.receiver.searchSince + 20000
        | some b => b + 15000
      let now := max s.now due
      (1 ≤ s.store.working.address → s.store.working.address ≤ 4094 →
        exec .emergencyBeacon s = .next { s with
          now := now
          receiver := { s.receiver with
            transmission := some ⟨s.store.working.address, emergencyItem { s with now := now }, now⟩ }
          scheduler := { s.scheduler with lastBeacon := some now } }) ∧
      (s.store.working.address = 0 ∨ 4094 < s.store.working.address →
        exec .emergencyBeacon s = .next { s with
          now := now, scheduler := { s.scheduler with lastBeacon := some now } })) ∧
    (s.powered = false ∨ s.emergency.state = .idle ∨ s.receiver.sync ≠ .search ∨ s.receiver.voice = .pending ∨
      s.receiver.voice = .granted → exec .emergencyBeacon s = .next s) ∧
    (∃ fare : Nat, (s.meter.state = .off ∨ s.meter.state = .free → fare = 0) ∧
      (∀ x, s.meter.state = .hired ∨ s.meter.state = .stopped → s.meter.trip = some x → fare = x.fare) ∧
      emergencyItem s = .emergency
        (s.locator.fix.map fun f =>
          ⟨f.easting, f.northing, f.quality, min 65535 ((s.now - f.instant) / 1000)⟩)
        s.locator.zone s.meter.state fare (decide (s.emergency.state = .covert)))

/-! ### Requests that only report -/

/-- Each request that only reports is answered OK with its content as it stands, and changes nothing else: no event is
removed and no state of a block changes, but for what five of them clear once they have reported it: UPLINK STATUS
empties the host results, BOARD READ removes the CLOSED entries and the overflow count, the whole INBOX READ clears
the refusal mark, PANEL STATUS with YES restarts the calibration count, IDENTIFY clears the early-frame count. The
fields of LINK, UPLINK, METER, TOTALS and EMERGENCY STATUS, BOARD READ and IDENTIFY are written out, the host view of
COVERT and the alert line of R169 among them; of the layouts the model's own are the family and the part as texts (log
entry 41), the counts of lists (log entry 24), the numbers of names (log entry 25), the rank of a message (log entry
28), seconds left (log entry 8) and since an instant (log entry 52), the park timer while the ignition is unsettled
(log entry 33). -/
def Obligations.ReadingsReportWhatStands : Prop :=
  ∀ s : State, Listening s →
    let told (tag : Tag) (content : List (List Field)) : State :=
      { s with link := { s.link with owed := some ⟨⟨tag, .ok, content.flatten⟩, s.now⟩ } }
    let seconds (since : Nat) : Nat := min 65535 ((s.now - since) / 1000)
    let alarmed := s.emergency.state == .active || s.emergency.state == .acknowledged
    let trip := if s.meter.state.onTrip then s.meter.trip else none
    let k := s.store.working.metrology.pulseConstant
    let sums (a : Sums) : List Field :=
      [.num mostTotal a.trips, .num mostTotal a.fare, .num mostTotal a.extras, .num mostTotal a.hiredDistance,
        .num mostTotal a.totalDistance, .num mostTotal a.hiredSeconds]
    let copy (c : Option Copy) : Field := .name (match c with | some .a => 0 | some .b => 1 | none => 2)
    (alertLine s = true ↔
      s.store.working.alertMode = .follow ∧ (s.emergency.state = .active ∨ s.emergency.state = .acknowledged) ∨
        s.store.working.alertMode = .latched ∧ s.emergency.latch = true) ∧
    exec (.linkStatus (.fields ())) s = .next (told .lsta [
      [.name (match s.receiver.sync with | .search => 0 | .locked => 1 | .coast => 2)],
      optNum 4095 s.receiver.cycle,
      [.num 5 s.receiver.lastStretch, .num 4 s.receiver.misses,
        .num 65535 (if s.receiver.sync = .search then seconds s.receiver.searchSince else 0),
        .name (match s.receiver.watch with | .full => 0 | .sparse => 1)],
      optNum 65535 (s.receiver.parkSince.map seconds),
      [.flag s.receiver.parkedStatus, .time (s.receiver.time.map (·.time))],
      optName (s.receiver.time.map fun x => match x.source with | .header => 0 | .host => 1),
      [.num 16 s.receiver.persistence, .num 600 s.receiver.statusInterval, .flag s.receiver.offersPaused,
        .name (match s.receiver.voice with
          | .idle => 0 | .pending => 1 | .granted => 2 | .held => 3 | .blocked => 4),
        .num 4094 s.store.working.address]]) ∧
    exec (.zoneStatus (.fields ())) s = .next (told .zsta [zoneContent s]) ∧
    (∀ a : ZoneReadArgs, 1 ≤ a.count → a.count ≤ 8 → a.first + a.count ≤ 64 →
      exec (.zoneRead (.fields a)) s = .next (told .zred
        ([.num 63 s.locator.loadPointer, .num 64 (s.store.working.zones.countP (·.isSome)), .count a.count]
          :: ((s.store.working.zones.drop a.first).take a.count).map positionFields))) ∧
    exec (.panelStatus (.fields 0)) s = .next (told .psta [panelContent s]) ∧
    (∃ left : Option Nat, (left = none ↔ s.meter.state ≠ .stopped) ∧
      (s.meter.state = .stopped → s.meter.resumeOpen = false → left = some 0) ∧
      exec (.meterStatus (.fields ())) s = .next (told .msta [
        [.name (match s.meter.state with | .off => 0 | .free => 1 | .hired => 2 | .stopped => 3),
          .set [decide (k = 0 ∨ s.store.working.metrology.tariffs.t1.valid = false), s.accounts.fault,
            decide (s.store.working.metrology ≠ s.store.stored.metrology)],
          .flag s.store.working.keysOnly, .num 4 (evaluateTariff s)],
        optField noTripBlock (tripBlock s) trip,
        optField [.num 24000000 0, .num 1400 0]
          (fun x => [.num 24000000 (stepUnits x.tariff s), .num 1400 ((k * 70 + 999) / 1000)]) trip,
        optNum 20 left,
        [.num 999999 ((trip.map (·.fare)).getD 0)]])) ∧
    exec (.totalsRead (.fields ())) s = .next (told .ttot [
      [.num 65535 s.accounts.totals.shift.shift, .num 9999 s.accounts.totals.shift.driver,
        .time s.accounts.totals.shift.opening],
      sums s.accounts.totals.shift.sums,
      [.num mostTotal s.accounts.totals.shift.trialTrips, .num mostTotal s.accounts.totals.shift.overwritten,
        .name (if s.accounts.totals.shiftOpen then 0 else 1)],
      sums s.accounts.totals.life,
      [.flag s.accounts.fault, .flag s.accounts.reinit, .num 4294967295 s.accounts.generation,
        copy s.accounts.holder, copy s.accounts.loaded, .flag s.accounts.changed,
        .num 32 s.accounts.log.length,
        .num 32 (s.accounts.log.countP fun e =>
          e.record.report == .unreported || e.record.report == .inQueue)]]) ∧
    (∀ (q : TripSelector) e, q.which ≤ 3 → (q.which ≤ 1 → 1 ≤ q.number ∧ q.number ≤ 65535) →
      selectRecord q s = some e →
      exec (.tripRead (.fields q)) s = .next (told .tred [
        [.num 32 s.accounts.log.length,
          .num 65535 (((oldestEntry s).map (·.record.seq)).getD 0),
          .num 65535 (((newestEntry s).map (·.record.seq)).getD 0)], recordFields e.record])) ∧
    (∀ n m, 1 ≤ n → n ≤ 65535 → findMessage n s = some m →
      exec (.inboxRead (.fields n)) s = .next (told .ired [messageContent m s])) ∧
    (∃ report : List Field,
      (alarmed = false → report = [.count 0, .name 0, .num 30 0]) ∧
      (alarmed = true → (∃ e ∈ s.scheduler.queue, e.kind = .emergency ∧ e.key = 0) →
        report = [.count 1, .name 0, .num 30 0]) ∧
      (alarmed = true → (∀ e ∈ s.scheduler.queue, ¬(e.kind = .emergency ∧ e.key = 0)) →
        ∃ n, report = [.count 1, .name 1, .num 30 n]) ∧
      exec (.emergencyStatus (.fields ())) s = .next (told .esta [
        [.name (match s.emergency.state with | .idle => 0 | .active => 1 | .acknowledged => 2 | .covert => 0),
          .set (if alarmed then
            [s.emergency.sources.panel, s.emergency.sources.host, s.emergency.sources.resumed] else [])],
        optNum 65535 (if alarmed then s.emergency.onset.map seconds else none),
        report,
        [.name (match s.emergency.lastEnd with | .none => 0 | .cancel => 1 | .standDown => 2),
          .name (match s.store.working.alertMode with | .off => 0 | .follow => 1 | .latched => 2),
          .flag s.emergency.latch, .flag (alertLine s), .flag (markWritePending s)]])) ∧
    (∀ (q : SettingSelector) l, selectedFields q s = some l →
      exec (.settingRead (.fields q)) s = .next (told .sred [storeFields s, l])) ∧
    (let shown := s.scheduler.queue.filter fun e =>
        !(s.emergency.state == .covert && e.kind == .emergency)
      let row (e : Entry) : List Field := List.flatten [
        [.name e.kind.code, .name e.kind.cls.code, .name e.state.code, .num 5 e.attempts],
        optNum 65535 (if e.kind = .status ∨ e.kind = .emergency then none else some e.key),
        optNum 4294967295 e.deadline,
        optField [.num 9 0, .num 4095 0] (fun x => [.num 9 x.slot, .num 4095 x.cycle]) e.sentAs,
        optNum 6 e.grantWait]
      let result (r : HostResult) : List Field :=
        [.num 255 r.ticket, .name (if r.kind = .freetext then 1 else 0), .name (if r.delivered then 0 else 1)]
      ∃ beacon : Option Nat, (beacon = none ↔ ¬(alarmed = true ∧ s.receiver.sync = .search)) ∧
        exec (.uplinkStatus (.fields ())) s = .next { told .uqst [
            [.num 16 shown.length], shown.flatMap row,
            optNum 65535 (s.scheduler.slotReq.map (·.2)),
            [.num 600 (min 600 ((s.now - s.scheduler.statusSince) / 1000)),
              .num 600 s.receiver.statusInterval, .flag s.scheduler.regenerate],
            optNum 20 beacon,
            [.count s.scheduler.results.length], s.scheduler.results.flatMap result] with
          scheduler := { s.scheduler with results := [] } }) ∧
    (let row (o : Offer) : List Field := List.flatten [
        [.num 65535 o.number, .name o.cls.code, .flag o.nextJob, .name o.target.code, .num 250 o.pickup,
          .num 4294967295 o.arrival, .num 4294967295 o.expiry, .num 65535 (o.expiry - s.now / 1000),
          .name o.state.code],
        optName (if o.state = .closed then o.outcome.map (·.code) else none),
        optName (o.origin.map (·.code)),
        optNum 4294967295 (if o.state = .awaitingAward then some (o.expiry + 15) else none),
        optField [.text []] (fun x => [.text x]) o.text,
        optNum 999999 o.estimate];
      exec (.boardRead (.fields ())) s = .next { told .bred [
          optNum 65535 s.board.focus, [.num 65535 s.board.overflow, .num 8 s.board.entries.length],
          s.board.entries.flatMap row] with
        board := { s.board with
          entries := s.board.entries.filter (fun o => o.state != .closed), closeOrder := [], overflow := 0 } }) ∧
    exec (.inboxRead (.fields 0)) s = .next { told .ired [inboxContent s] with
      inbox := { s.inbox with refused := false } } ∧
    exec (.panelStatus (.fields 1)) s = .next { told .psta [panelContent s] with
      panel := { s.panel with calibration := 0, calibrationSince := s.now } } ∧
    exec (.identify (.fields ())) s = .next { s with link := { s.link with
      earlyCount := 0
      owed := some ⟨⟨.idnt, .ok, [.text familyText, .text partText, .num 255 2,
        .num 4294967295 (s.now / 1000), .num 65535 s.link.earlyCount, .num 244 244]⟩, s.now⟩ } }

/-! ### The zone locator -/

/-- The hysteresis of the current zone. A fix of quality 2D or 3D becomes the newest fix and makes the condition
FRESH; its lookup result keeps the current zone (record refreshed, candidate cleared), becomes or replaces the
candidate, or, agreeing with the candidate, becomes the current zone. A candidate that stood in STALE or LOST is
cleared first. The lookup gives the first rectangle of the table that contains the point, bounds included. A report of
quality NONE leaves the locator as it was. A report with a coordinate above 9,999,999 or a quality that is none of the
three is BAD_ARG. The served set holds the current zone and the record's adjacent zones, ascending, each once, and the
tariff area is the record's; with zone 0 they are empty and INNER. Where a fix changes the served set, the PRESENTED
entries that are no longer admitted close DROPPED; where it does not, the board stands. -/
def Obligations.TwoFixesConfirmAZone : Prop :=
  (∀ u : State, (servedSet u).Pairwise (· < ·) ∧
    (∀ z, z ∈ servedSet u ↔ u.locator.zone ≠ 0 ∧
      (z = u.locator.zone ∨ ∃ r, u.locator.record = some r ∧ z ∈ r.adjacent)) ∧
    (u.locator.zone = 0 → tariffArea u = .inner) ∧
    (∀ r, u.locator.zone ≠ 0 → u.locator.record = some r → tariffArea u = r.area)) ∧
  ∀ (a : PositionArgs) (s : State), Listening s →
    (9999999 < a.easting ∨ 9999999 < a.northing ∨ 2 < a.quality →
      exec (.position (.fields a)) s = .next (replied s .posn .badArg [] s)) ∧
    (a.easting ≤ 9999999 → a.northing ≤ 9999999 →
      let contains (r : Rect) : Prop :=
        r.west ≤ a.easting ∧ a.easting ≤ r.east ∧ r.south ≤ a.northing ∧ a.northing ≤ r.north
      let found := lookup a.easting a.northing s
      let zone := (found.map (·.zone)).getD 0
      let candidate := if s.locator.condition = .fresh then s.locator.candidate else none
      (∀ r, found = some r → ∃ x, s.store.working.zones[r.position]? = some (some x) ∧ contains x ∧
        r = ⟨x.zone, r.position, x.area, x.adjacent⟩ ∧
        ∀ p y, p < r.position → s.store.working.zones[p]? = some (some y) → ¬ contains y) ∧
      (found = none → ∀ (p : Nat) y, s.store.working.zones[p]? = some (some y) → ¬ contains y) ∧
      (a.quality = 1 ∨ a.quality = 2 →
        ∃ t, exec (.position (.fields a)) s = .next t ∧
          t.locator.fix = some ⟨a.easting, a.northing, if a.quality = 1 then .twoD else .threeD, s.now⟩ ∧
          t.locator.condition = .fresh ∧ t.locator.loadPointer = s.locator.loadPointer ∧
          (s.locator.condition ≠ .fresh → Pending .zone t) ∧
          (zone = s.locator.zone →
            t.locator.zone = zone ∧ t.locator.record = found ∧ t.locator.candidate = none ∧
            (found ≠ s.locator.record → Pending .zone t)) ∧
          (zone ≠ s.locator.zone → candidate ≠ some zone →
            t.locator.zone = s.locator.zone ∧ t.locator.record = s.locator.record ∧
            t.locator.candidate = some zone ∧ t.board = s.board ∧ t.scheduler = s.scheduler) ∧
          (zone ≠ s.locator.zone → candidate = some zone →
            t.locator.zone = zone ∧ t.locator.record = found ∧ t.locator.candidate = none ∧
            Pending .zone t ∧ StatusGenerated s t) ∧
          (servedSet t = servedSet s → t.board = s.board) ∧
          (servedSet t ≠ servedSet s → BoardSound s → Retested s t) ∧
          t.link.owed = some ⟨⟨.posn, .ok,
            [.flag true, .count 1, .num 250 zone, .num 250 t.locator.zone]⟩, s.now⟩ ∧
          t.meter = s.meter ∧ t.accounts = s.accounts ∧ t.inbox = s.inbox ∧ t.emergency = s.emergency ∧
          t.store = s.store ∧ t.panel = s.panel ∧ t.nonvolatile = s.nonvolatile) ∧
      (a.quality = 0 →
        exec (.position (.fields a)) s = .next { s with link := { s.link with
          owed := some ⟨⟨.posn, .ok, [.flag false, .count 0, .num 250 0, .num 250 s.locator.zone]⟩, s.now⟩ } }))

/-- The age of the newest fix: after 30 s FRESH becomes STALE, with zone and record held and the candidate cleared;
after 120 s STALE becomes LOST, with zone 0, no record, no candidate and the fix kept, a zone given up in this way
generating a STATUS and, the served set then being empty, closing DROPPED each PRESENTED entry that is not for this
unit by name. Each change raises ZONE. A step of the clock moves uptime on to its own instant, never back (log entry
1). A step of the clock moves uptime on to its own instant, never back (log entry 1). -/
def Obligations.OldFixesLoseTheZone : Prop :=
  ∀ (s : State) (f : Fix), s.powered = true → s.locator.fix = some f →
    (s.locator.condition = .fresh →
      exec .fixStale s = .next (raise .zone { s with
        now := max s.now (f.instant + 30000)
        locator := { s.locator with condition := .stale, candidate := none } })) ∧
    (s.locator.condition = .stale →
      ∃ t, exec .fixLost s = .next t ∧ t.now = max s.now (f.instant + 120000) ∧
        t.locator = { s.locator with condition := .lost, zone := 0, record := none, candidate := none } ∧
        Pending .zone t ∧ (s.locator.zone ≠ 0 → StatusGenerated s t) ∧
        (s.locator.zone = 0 → t.board = s.board) ∧
        (s.locator.zone ≠ 0 → BoardSound s → Retested s t ∧
          ∀ o ∈ s.board.entries, o.state = .presented → o.target ≠ .unit → Dropped o t) ∧
        t.meter = s.meter ∧ t.accounts = s.accounts ∧ t.inbox = s.inbox ∧ t.emergency = s.emergency ∧
        t.store = s.store ∧ t.panel = s.panel ∧ t.nonvolatile = s.nonvolatile) ∧
    (s.locator.condition ≠ .fresh → exec .fixStale s = .next s) ∧
    (s.locator.condition ≠ .stale → exec .fixLost s = .next s)

/-- The zone table, at access level 1 or above: a ZONE LOAD of one to four sound rectangles writes them in order, each
at the load pointer, which advances by one and stays at 63; ZONE POINT moves the pointer; ZONE CLEAR empties the table
and sets the pointer to 0. Below level 1 each is answered LEVEL. At level 1 or above a ZONE POINT past 63, and a ZONE
LOAD of no rectangle, of more than four or of one outside the ranges of its fields, is BAD_ARG, nothing written. The
current zone, the record, the candidate and so the served set stand. A ZONE READ that leaves the table is answered
BAD_ARG. -/
def Obligations.ZoneTableIsWrittenAtThePointer : Prop :=
  ∀ (s : State), Listening s →
    let tell (t : State) (tag : Tag) (r : Result) (content : List Field) : State :=
      { t with link := { t.link with owed := some ⟨⟨tag, r, content⟩, s.now⟩ } }
    let outside (r : RectArgs) : Prop :=
      9999999 < r.west ∨ 9999999 < r.south ∨ 9999999 < r.east ∨ 9999999 < r.north ∨ r.east < r.west ∨
        r.north < r.south ∨ r.zone < 1 ∨ 250 < r.zone ∨ 1 < r.area ∨ 4 < r.adjacent.length ∨
        ∃ z ∈ r.adjacent, z < 1 ∨ 250 < z
    (∀ (l : List RectArgs) (rects : List Rect), 1 ≤ s.store.level → 1 ≤ l.length → l.length ≤ 4 →
      l.map toRect = rects.map some →
      let put := rects.foldl
        (fun (x : List (Option Rect) × Nat) r => (x.1.set x.2 (some r), min 63 (x.2 + 1)))
        (s.store.working.zones, s.locator.loadPointer)
      exec (.zoneLoad (.fields l)) s = .next (tell { s with
        store := { s.store with working := { s.store.working with zones := put.1 } }
        locator := { s.locator with loadPointer := put.2 } } .zlod .ok [.num 63 put.2])) ∧
    (∀ n, 1 ≤ s.store.level → n ≤ 63 →
      exec (.zonePoint (.fields n)) s = .next (tell { s with
        locator := { s.locator with loadPointer := n } } .zpnt .ok [])) ∧
    (1 ≤ s.store.level →
      exec (.zoneClear (.fields ())) s = .next (tell { s with
        store := { s.store with working := { s.store.working with zones := List.replicate 64 none } }
        locator := { s.locator with loadPointer := 0 } } .zclr .ok [])) ∧
    (1 ≤ s.store.level →
      (∀ n, 63 < n → exec (.zonePoint (.fields n)) s = .next (tell s .zpnt .badArg [])) ∧
      (∀ l : List RectArgs, l = [] ∨ 4 < l.length ∨ (∃ r ∈ l, outside r) →
        exec (.zoneLoad (.fields l)) s = .next (tell s .zlod .badArg []))) ∧
    (∀ a : ZoneReadArgs, a.count = 0 ∨ 8 < a.count ∨ 64 < a.first + a.count →
      exec (.zoneRead (.fields a)) s = .next (tell s .zred .badArg [])) ∧
    (s.store.level = 0 →
      (∀ l : List RectArgs, (∀ r ∈ l, r.area ≤ 1) →
        exec (.zoneLoad (.fields l)) s = .next (tell s .zlod .level [])) ∧
      (∀ n, exec (.zonePoint (.fields n)) s = .next (tell s .zpnt .level [])) ∧
      exec (.zoneClear (.fields ())) s = .next (tell s .zclr .level []))

/-! ### The panel -/

/-- Debounced inputs. A raw change starts its 30 ms afresh, with or without power (log entry 13), also at the instant
that ends the 30 ms before it (log entry 46); an unchanged level is no change. The first recognised level settles a
key UP, or HELD_AT_START with its hold started, and the ignition line ON, or OFF with the park timer started. A
release recognised makes the key UP and stops its hold; a PANIC hold that reached 1.5 s by then arms first. The hold's
30 s make a key STUCK, with FAULT for every key but PANIC. An ignition change to OFF starts the park timer, one to ON
ends it with the parked-status mark and returns SPARSE watch to FULL. A pulse joins the tally and the calibration
count. A step of the clock moves uptime on to its own instant, never back (log entry 1). -/
def Obligations.InputsAreDebounced : Prop :=
  ∀ s : State,
    let withKey (k : Key) (now : Nat) (x : KeyLine) : State :=
      { s with now := now, panel := { s.panel with keys := s.panel.keys.put k x } }
    (∀ k level, exec (.inputRawChange (.key k) level) s = .next (withKey k s.now
      (if (keyLine k s).raw = level then keyLine k s
        else { keyLine k s with raw := level, rawSince := s.now }))) ∧
    (∀ level, exec (.inputRawChange .ignition level) s = .next (if s.panel.ignitionRaw = level then s
      else { s with panel := { s.panel with ignitionRaw := level, ignitionSince := s.now } })) ∧
    (s.powered = true →
      (∀ k, let x := keyLine k s
        let now := max s.now (x.rawSince + 30)
        (x.state = .unsettled →
          exec (.firstRecognisedLevel (.key k)) s = .next (withKey k now
            { x with
              state := if x.raw then .heldAtStart else .up
              holdSince := if x.raw then some now else x.holdSince })) ∧
        (x.raw = false → x.state = .down ∨ x.state = .heldAtStart ∨ x.state = .stuck → k ≠ .panic →
          exec (.keyRelease k) s = .next (withKey k now { x with state := .up, holdSince := none })) ∧
        (∀ h, x.state = .down ∨ x.state = .heldAtStart → x.holdSince = some h →
          exec (.keyStuck k) s = .next (
            let t := withKey k (max s.now (h + 30000)) { x with state := .stuck }
            if k = .panic then t else raise .fault t))) ∧
      (let x := s.panel.keys.panic
        let now := max s.now (x.rawSince + 30)
        let arms := x.state = .down ∧ s.panel.panicArmed = false ∧
          ∃ h, x.holdSince = some h ∧ h + 1500 ≤ x.rawSince + 30
        let released (t : State) : State := { t with panel := { t.panel with
          panicArmed := false, keys := t.panel.keys.put .panic { x with state := .up, holdSince := none } } };
        x.raw = false → x.state = .down ∨ x.state = .heldAtStart ∨ x.state = .stuck →
        (¬ arms → exec (.keyRelease .panic) s = .next (released { s with now := now })) ∧
        (arms → ∃ u, exec .panicArming { s with now := now } = .next u ∧
          exec (.keyRelease .panic) s = .next (released u))) ∧
      (let now := max s.now (s.panel.ignitionSince + 30)
        let parked : Receiver := { s.receiver with parkSince := some now, parkMarked := false, sparseHeld := false }
        let unparked : Receiver := { s.receiver with
          parkSince := none, parkMarked := false, parkedStatus := false, sparseHeld := false };
        (s.panel.ignition = .unsettled →
          exec (.firstRecognisedLevel .ignition) s = .next { s with
            now := now
            panel := { s.panel with ignition := if s.panel.ignitionRaw then .on else .off }
            receiver := if s.panel.ignitionRaw then s.receiver else parked }) ∧
        (s.panel.ignition = .on → s.panel.ignitionRaw = false →
          exec .ignitionChange s = .next { s with
            now := now, panel := { s.panel with ignition := .off }, receiver := parked }) ∧
        (s.panel.ignition = .off → s.panel.ignitionRaw = true →
          (s.receiver.watch = .full →
            exec .ignitionChange s = .next { s with
              now := now, panel := { s.panel with ignition := .on }, receiver := unparked }) ∧
          (s.receiver.watch = .sparse →
            ∃ t, exec .ignitionChange s = .next t ∧ t = { s with
              now := now
              panel := { s.panel with ignition := .on }
              receiver := { unparked with
                watch := .full, expected := t.receiver.expected, span := t.receiver.span }
              link := { s.link with events := insertEvent .link s.link.events } }))) ∧
      exec .odometerPulse s = .next { s with panel := { s.panel with
        tally := min 65535 (s.panel.tally + 1)
        calibration := min 4294967295 (s.panel.calibration + 1) } })

/-- A press is recognised 30 ms after its edge from UP: the key is DOWN and its hold starts. HIRE, STOP, FREE and
EXTRA go to the meter engine and ACCEPT to the offer board; the last-key record holds the key, the reason where it is
refused and the uptime second, KEY is raised, and a refused press changes nothing else. A METER KEY on the same state
acts exactly as the press does but for record and event. An ACCEPT claims the entry chosen, the focused one, or
without a focus the PRESENTED one of the earliest expiry, of equal ones the earlier in arrival order, and where its
expiry has been reached the CLAIM is removed at once and the entry closes EXPIRED. PANIC starts its hold with the
arming mark clear, and leaves the last-key record and the event set as they are. A step of the clock moves uptime on
to its own instant, never back (log entry 1). -/
def Obligations.KeyPressesAreRouted : Prop :=
  ∀ (s : State) (k : Key), s.powered = true → (keyLine k s).raw = true → (keyLine k s).state = .up →
    let now := max s.now ((keyLine k s).rawSince + 30)
    let pressed : State := { s with
      now := now
      panel := { s.panel with
        keys := s.panel.keys.put k { keyLine k s with state := .down, holdSince := some now } } }
    let recorded (reason : Option Reason) (t : State) : State :=
      { t with
        panel := { t.panel with lastKey := some ⟨k, reason, now / 1000⟩ }
        link := { t.link with events := insertEvent .key t.link.events } }
    (∀ (m : MeterKey) (n : Nat),
      (k, m, n) ∈ [(Key.hire, MeterKey.hire, 0), (.stop, .stop, 1), (.free, .free, 2), (.extra, .extra, 3)] →
      ∃ u, exec (.keyPress k) s = .next (recorded (meterRefusal m s) u) ∧
        (meterRefusal m s ≠ none → u = pressed) ∧
        (Listening pressed → s.store.working.keysOnly = false →
          ∃ content, exec (.meterKey (.fields n)) pressed = .next (replied pressed .mkey
            (if meterRefusal m s = none then .ok else .refused) content u))) ∧
    (k = .accept →
      (acceptRefusal s ≠ none →
        exec (.keyPress .accept) s = .next (recorded (acceptRefusal s) pressed)) ∧
      (∀ n, s.board.focus = some n → chosenOffer s = findOffer n s) ∧
      (s.board.focus = none →
        (∀ l o m, s.board.entries = l ++ o :: m → o.state = .presented →
          (∀ x ∈ l, x.state = .presented → o.expiry < x.expiry) →
          (∀ x ∈ m, x.state = .presented → o.expiry ≤ x.expiry) → chosenOffer s = some o) ∧
        ((∀ x ∈ s.board.entries, x.state ≠ .presented) → chosenOffer s = none)) ∧
      (∀ o, acceptRefusal s = none → chosenOffer s = some o → findOffer o.number s = some o →
        ∃ u, exec (.keyPress .accept) s = .next (recorded none u) ∧
          (now < o.expiry * 1000 →
            findOffer o.number u = some { o with state := .claiming, origin := some .key } ∧
            ((∀ e ∈ s.scheduler.queue, e.kind ≠ .claim) → ∃ e ∈ u.scheduler.queue,
              e.kind = .claim ∧ e.key = o.number ∧ e.state = .waiting ∧ e.attempts = 0 ∧
                e.deadline = some o.expiry)) ∧
          (o.expiry * 1000 ≤ now →
            findOffer o.number u =
              some { o with state := .closed, origin := some .key, outcome := some .expired } ∧
            (∀ e ∈ u.scheduler.queue, ¬(e.kind = .claim ∧ e.key = o.number)) ∧
            u.board.closeOrder = s.board.closeOrder ++ [o.number] ∧ Pending .offerClosed u) ∧
          u.board.focus = (if s.board.focus = some o.number then none else s.board.focus) ∧
          u.meter = s.meter ∧ u.accounts = s.accounts ∧ u.inbox = s.inbox ∧ u.emergency = s.emergency ∧
          u.store = s.store ∧ u.locator = s.locator ∧ u.nonvolatile = s.nonvolatile)) ∧
    (k = .panic →
      exec (.keyPress .panic) s = .next { pressed with
        panel := { pressed.panel with panicArmed := false } })

/-- An arming that finds the emergency IDLE makes it ACTIVE: source set and onset, voice grants held, the watch FULL,
an EMERGENCY entry placed, the latch in alert mode LATCHED, EMERGENCY raised, a trip in progress flagged, the
emergency mark ACTIVE and dirty. On the board a PRESENTED entry closes SUPPRESSED; a CLAIMING one loses its CLAIM and
awaits the award where the CLAIM was transmitted, closing SUPPRESSED otherwise; the others stand; they close in
arrival order (log entry 47). In any other state the arming adds its source and nothing else. The PANIC hold arms
once, at 1.5 s in DOWN, with source PANEL, and not without power (log entry 13); EMERGENCY RAISE arms with source HOST
and replies with the state shown. A step of the clock moves uptime on to its own instant, never back (log entry 1). -/
def Obligations.AnArmingEntersActive : Prop :=
  ∀ s : State,
    let transmitted (o : Offer) : Prop :=
      ∃ e ∈ s.scheduler.queue, e.kind = .claim ∧ e.key = o.number ∧ (e.state = .sent ∨ 1 ≤ e.attempts)
    let suppressed (o : Offer) : Offer := { o with state := .closed, outcome := some .suppressed }
    let entered (sources : Sources) (t : State) : Prop :=
      t.emergency.state = .active ∧ t.emergency.acknowledged = false ∧ t.emergency.sources = sources ∧
        t.emergency.onset = some t.now ∧ t.emergency.reportSince = none ∧
        t.emergency.lastEnd = s.emergency.lastEnd ∧
        t.emergency.latch = (s.emergency.latch || s.store.working.alertMode == .latched) ∧
        t.emergency.mark = .active ∧ t.writer.markDirty = true ∧ Pending .emergency t ∧
        t.receiver.watch = .full ∧
        t.receiver.voice =
          (if s.receiver.voice = .granted ∨ s.receiver.voice = .pending then .held else s.receiver.voice) ∧
        ((∀ e ∈ s.scheduler.queue, e.kind ≠ .emergency) →
          ∃ e ∈ t.scheduler.queue, e.kind = .emergency ∧ e.state = .waiting ∧ e.attempts = 0) ∧
        (∀ o ∈ t.board.entries, o.state ≠ .presented ∧ o.state ≠ .claiming) ∧
        (BoardSound s → (s.scheduler.queue.map fun e => (e.kind, e.key)).Nodup →
          ∃ settled : Offer → Offer, t.board.entries = s.board.entries.map settled ∧
            (∀ o ∈ s.board.entries,
              (o.state = .presented → settled o = suppressed o) ∧
              (o.state = .claiming →
                (transmitted o → settled o = { o with state := .awaitingAward }) ∧
                (¬ transmitted o → settled o = suppressed o) ∧
                ∀ e ∈ t.scheduler.queue, ¬(e.kind = .claim ∧ e.key = o.number)) ∧
              (o.state = .awaitingAward ∨ o.state = .awarded ∨ o.state = .closed → settled o = o)) ∧
            (let closing := s.board.entries.filter fun o => o.state != .closed && (settled o).state == .closed;
              t.board.closeOrder = s.board.closeOrder ++ closing.map (·.number) ∧
                (closing ≠ [] → Pending .offerClosed t)) ∧
            t.board.overflow = s.board.overflow) ∧
        t.meter.state = s.meter.state ∧
        (∀ x, s.meter.state.onTrip = true → s.meter.trip = some x →
          t.meter.trip = some { x with flags := { x.flags with emergency := true } } ∧
            t.writer.checkpointDirty = true) ∧
        t.inbox = s.inbox ∧ t.accounts = s.accounts ∧ t.store = s.store ∧ t.locator = s.locator ∧
        t.nonvolatile = s.nonvolatile
    (∀ h, s.powered = true → s.panel.keys.panic.state = .down → s.panel.panicArmed = false →
      s.panel.keys.panic.holdSince = some h →
      (s.emergency.state = .idle →
        ∃ t, exec .panicArming s = .next t ∧ t.now = max s.now (h + 1500) ∧
          t.panel = { s.panel with panicArmed := true } ∧ entered ⟨true, false, false⟩ t) ∧
      (s.emergency.state ≠ .idle →
        exec .panicArming s = .next { s with
          now := max s.now (h + 1500)
          panel := { s.panel with panicArmed := true }
          emergency := { s.emergency with sources := { s.emergency.sources with panel := true } } })) ∧
    (s.powered = false ∨ s.panel.keys.panic.state ≠ .down ∨ s.panel.panicArmed = true →
      exec .panicArming s = .next s) ∧
    (Listening s →
      (s.emergency.state = .idle →
        ∃ t, exec (.emergencyRaise (.fields ())) s = .next t ∧ t.now = s.now ∧ t.panel = s.panel ∧
          entered ⟨false, true, false⟩ t ∧ t.link.owed = some ⟨⟨.erai, .ok, [.name 1]⟩, s.now⟩) ∧
      (s.emergency.state ≠ .idle →
        exec (.emergencyRaise (.fields ())) s = .next (replied s .erai .ok
          [.name (if s.emergency.state = .active then 1 else if s.emergency.state = .acknowledged then 2 else 0)]
          { s with emergency := { s.emergency with
              sources := { s.emergency.sources with host := true } } })))

/-! ### The offer board's requests -/

/-- OFFER FOCUS sets the focus to a PRESENTED entry or to none. OFFER TAKE, where no claim is open, the emergency is
neither ACTIVE nor ACKNOWLEDGED and an address is set, claims a PRESENTED entry for the host: CLAIMING, a CLAIM placed
with the expiry as deadline; with the expiry reached the CLAIM is removed at once and the entry closes EXPIRED. OFFER
DISMISS closes a PRESENTED entry DECLINED. Each is answered by the first cause of its table that applies. ASSIGNMENT
ABANDON closes the assignment ABANDONED with a STATUS and places a DECLINE for its number; the reply says whether one
stands; with no assignment it is REFUSED. -/
def Obligations.BoardRequestsFollowTheirTables : Prop :=
  (∀ (n : Nat) (s : State), Listening s →
    (65535 < n →
      exec (.offerFocus (.fields n)) s = .next (replied s .ofoc .badArg [] s) ∧
      exec (.offerTake (.fields n)) s = .next (replied s .otak .badArg [] s) ∧
      exec (.offerDismiss (.fields n)) s = .next (replied s .odis .badArg [] s)) ∧
    (n = 0 →
      exec (.offerFocus (.fields n)) s =
        .next (replied s .ofoc .ok [] { s with board := { s.board with focus := none } }) ∧
      exec (.offerTake (.fields n)) s = .next (replied s .otak .badArg [] s) ∧
      exec (.offerDismiss (.fields n)) s = .next (replied s .odis .badArg [] s)) ∧
    (1 ≤ n → n ≤ 65535 →
      let alarmed := s.emergency.state = .active ∨ s.emergency.state = .acknowledged
      let open_ := ∃ o ∈ s.board.entries, o.state.claimOpen = true
      (findOffer n s = none →
        exec (.offerFocus (.fields n)) s = .next (replied s .ofoc .notFound [] s) ∧
        exec (.offerDismiss (.fields n)) s = .next (replied s .odis .notFound [] s)) ∧
      (∀ o, findOffer n s = some o → o.state ≠ .presented →
        exec (.offerFocus (.fields n)) s = .next (replied s .ofoc .refused [] s) ∧
        exec (.offerDismiss (.fields n)) s = .next (replied s .odis .refused [] s)) ∧
      (∀ o, findOffer n s = some o → o.state = .presented →
        exec (.offerFocus (.fields n)) s =
          .next (replied s .ofoc .ok [] { s with board := { s.board with focus := some n } }) ∧
        exec (.offerDismiss (.fields n)) s = .next (replied s .odis .ok []
          (raise .offerClosed { s with board := closedOn n .declined s.board }))) ∧
      (alarmed → exec (.offerTake (.fields n)) s = .next (replied s .otak .refused [] s)) ∧
      (¬ alarmed → open_ → exec (.offerTake (.fields n)) s = .next (replied s .otak .alreadyOpen [] s)) ∧
      (¬ alarmed → ¬ open_ →
        (s.store.working.address = 0 →
          exec (.offerTake (.fields n)) s = .next (replied s .otak .refused [] s)) ∧
        (s.store.working.address ≠ 0 →
          (findOffer n s = none → exec (.offerTake (.fields n)) s = .next (replied s .otak .notFound [] s)) ∧
          (∀ o, findOffer n s = some o → o.state ≠ .presented →
            exec (.offerTake (.fields n)) s = .next (replied s .otak .refused [] s)) ∧
          (∀ o, findOffer n s = some o → o.state = .presented →
            ∃ t, exec (.offerTake (.fields n)) s = .next t ∧
              (let claimed : Board := { s.board with
                  entries := s.board.entries.map fun x =>
                    if x.number == n then { x with state := .claiming, origin := some .host } else x
                  focus := if s.board.focus = some n then none else s.board.focus };
                (s.now < o.expiry * 1000 →
                  t.board = claimed ∧
                  ((∀ e ∈ s.scheduler.queue, e.kind ≠ .claim) → ∃ e ∈ t.scheduler.queue,
                    e.kind = .claim ∧ e.key = n ∧ e.state = .waiting ∧ e.attempts = 0 ∧
                      e.deadline = some o.expiry)) ∧
                (o.expiry * 1000 ≤ s.now →
                  t.board = closedOn n .expired claimed ∧ Pending .offerClosed t ∧
                  ∀ e ∈ t.scheduler.queue, ¬(e.kind = .claim ∧ e.key = n))) ∧
              t.link.owed = some ⟨⟨.otak, .ok, [.num 65535 n, .name 1]⟩, s.now⟩ ∧
              ((∀ e ∈ s.scheduler.queue, e.kind ≠ .claim) → t.receiver.watch = .full) ∧
              t.meter = s.meter ∧ t.accounts = s.accounts ∧ t.inbox = s.inbox ∧ t.emergency = s.emergency ∧
              t.store = s.store ∧ t.locator = s.locator ∧ t.panel = s.panel ∧
              t.nonvolatile = s.nonvolatile))))) ∧
  (∀ s : State, Listening s →
    (assignment s = none →
      exec (.assignmentAbandon (.fields ())) s = .next (replied s .aabn .refused [] s)) ∧
    (∀ n o, assignment s = some n → findOffer n s = some o → o.state = .awarded →
      let standing := ∃ e ∈ s.scheduler.queue, e.kind = .decline ∧ e.key = n
      let room := s.scheduler.queue.countP (fun e => e.kind == .decline) < 3
      ∃ t yes, exec (.assignmentAbandon (.fields ())) s = .next t ∧
        findOffer n t = some { o with state := .closed, outcome := some .abandoned } ∧
        Pending .offerClosed t ∧ StatusGenerated s t ∧
        (¬ standing → room → ∃ e ∈ t.scheduler.queue, e.kind = .decline ∧ e.key = n ∧ e.state = .waiting) ∧
        (yes = true ↔ standing ∨ room) ∧
        t.link.owed = some ⟨⟨.aabn, .ok, [.num 65535 n, .flag yes]⟩, s.now⟩ ∧
        t.meter = s.meter ∧ t.accounts = s.accounts ∧ t.inbox = s.inbox ∧ t.emergency = s.emergency ∧
        t.store = s.store ∧ t.locator = s.locator ∧ t.panel = s.panel ∧ t.nonvolatile = s.nonvolatile))

/-! ### The meter -/

/-- A meter second ends 1,000 ms after the timer's last restart and takes the pulse tally, clamped to the pulse
ceiling. Not HIRED, the take becomes whole metres through the distance remainder. HIRED, with a step size of at least
1, the second is a trip second: the take goes to the trip pulses, a clamp is counted, the progress of the tariff's
mode fills the accumulator, which gives up each whole step for one increment of the fare, and the fare stops at
999,999 with SATURATED; the trip's seconds saturate too (log entry 21). The tariff is then evaluated unless it is
locked. Where the same tariff results, the accumulator is left below one step and the 60th second since the last mark
marks the checkpoint. Where another does, it comes into force, the accumulator is rescaled to it, truncated toward
zero, it joins the tariffs used, and the checkpoint is marked with its count restarted. A step of the clock moves
uptime on to its own instant, never back (log entry 1). -/
def Obligations.MeterSecondRunsTheFare : Prop :=
  ∀ s : State, s.powered = true →
    let k := s.store.working.metrology.pulseConstant
    let ceiling := (k * 70 + 999) / 1000
    let p := min s.panel.tally ceiling
    let now := max s.now (s.meter.secondSince + 1000)
    (let m := s.store.working.metrology
      let outer := 1 ≤ m.outOfArea ∧ m.outOfArea ≤ 4 ∧ (m.tariffs.get m.outOfArea).valid = true ∧
        tariffArea s = .outer;
      (s.receiver.time = none → evaluateTariff s = 1) ∧
      (∀ r, s.receiver.time = some r →
        (outer → evaluateTariff s = m.outOfArea) ∧
        (∀ b, ¬ outer → (m.row r.time.day)[r.time.second / 1800]? = some b → 1 ≤ b → b ≤ 4 →
          evaluateTariff s = if (m.tariffs.get b).valid then b else 1))) ∧
    (s.meter.state ≠ .hired →
      ∃ t, exec .meterSecond s = .next t ∧ t.now = now ∧
        t.meter = { s.meter with secondSince := s.meter.secondSince + 1000 } ∧
        t.panel = { s.panel with tally := 0 } ∧
        (k = 0 → t.accounts = s.accounts) ∧
        (k ≠ 0 →
          let sum := s.accounts.totals.remainder + p * 1000
          let metres (x : Nat) := min 999999999999 (x + sum / k)
          t.accounts.totals.remainder = sum % k ∧
          (s.accounts.totals.life.totalDistance ≤ 999999999999 →
            t.accounts.totals.life.totalDistance = metres s.accounts.totals.life.totalDistance) ∧
          (s.accounts.totals.shiftOpen = true →
            s.accounts.totals.shift.sums.totalDistance ≤ 999999999999 →
            t.accounts.totals.shift.sums.totalDistance = metres s.accounts.totals.shift.sums.totalDistance) ∧
          (s.accounts.totals.shiftOpen = false → t.accounts.totals.shift = s.accounts.totals.shift) ∧
          t.accounts.log = s.accounts.log) ∧
        t.board = s.board ∧ t.scheduler = s.scheduler ∧ t.receiver = s.receiver ∧ t.link = s.link ∧
        t.writer = s.writer ∧ t.store = s.store ∧ t.inbox = s.inbox ∧ t.emergency = s.emergency ∧
        t.nonvolatile = s.nonvolatile) ∧
    (∀ x, s.meter.state = .hired → s.meter.trip = some x → x.fare ≤ 999999 →
      let tariff := s.store.working.metrology.tariffs.get x.tariff
      let dp := (tariff.distanceStep * k + 500) / 1000
      let step := dp * tariff.timeStep
      let g := match tariff.mode with
        | .single => max (p * tariff.timeStep) dp
        | .double => p * tariff.timeStep + dp
      let filled : Int := x.acc + g
      let n := (filled / (step : Int)).toNat
      let rest : Int := if filled < 0 then filled else filled % (step : Int)
      let next := if s.store.working.metrology.lockTariff then x.tariff else evaluateTariff s
      1 ≤ step →
      ∃ t y, exec .meterSecond s = .next t ∧ t.now = now ∧ t.panel = { s.panel with tally := 0 } ∧
        t.meter.trip = some y ∧ t.meter.state = .hired ∧
        t.meter.secondSince = s.meter.secondSince + 1000 ∧
        y.seconds = min 4294967295 (x.seconds + 1) ∧ y.pulses = min 4294967295 (x.pulses + p) ∧
        y.implausible =
          (if ceiling < s.panel.tally then min 65535 (x.implausible + 1) else x.implausible) ∧
        y.fare = min 999999 (x.fare + n * tariff.increment) ∧
        (y.flags.saturated = true ↔
          x.flags.saturated = true ∨ 1 ≤ n ∧ 999999 ≤ x.fare + n * tariff.increment) ∧
        y.extrasCount = x.extrasCount ∧ y.extrasTotal = x.extrasTotal ∧ y.tariffAtHire = x.tariffAtHire ∧
        (next = x.tariff →
          y.tariff = x.tariff ∧ y.tariffsUsed = x.tariffsUsed ∧ y.acc = rest ∧
          (s.meter.checkpointCount + 1 < 60 →
            t.meter.checkpointCount = s.meter.checkpointCount + 1 ∧ t.writer = s.writer) ∧
          (60 ≤ s.meter.checkpointCount + 1 →
            t.meter.checkpointCount = 0 ∧ t.writer = { s.writer with checkpointDirty := true })) ∧
        (next ≠ x.tariff →
          y.tariff = next ∧ (∀ m, m ∈ y.tariffsUsed ↔ m = next ∨ m ∈ x.tariffsUsed) ∧
          y.acc = Int.tdiv (rest * (stepUnits next s : Int)) (step : Int) ∧
          t.meter.checkpointCount = 0 ∧ t.writer = { s.writer with checkpointDirty := true }) ∧
        t.accounts = s.accounts ∧ t.board = s.board ∧ t.scheduler = s.scheduler ∧ t.receiver = s.receiver ∧
        t.link = s.link ∧ t.store = s.store ∧ t.inbox = s.inbox ∧ t.emergency = s.emergency ∧
        t.nonvolatile = s.nonvolatile)

/-- What every change of meter state does, as METER KEY shows it: HIRE in FREE opens a trip at the tariff's flag fall
with the included distance as negative progress; STOP freezes the fare and opens the resume window; HIRE in STOPPED
resumes the trip inside the window, switching to the tariff evaluated then unless the tariff is locked, the checkpoint
count standing (log entry 20); EXTRA charges the tariff's extra and changes no state. A key the engine refuses is
answered with its reason (its number: log entry 25) and changes nothing; "keys only" turns the request away. The
window closes 20 s after the STOP, and without power it does not (log entry 13). A step of the clock moves uptime on
to its own instant, never back (log entry 1). -/
def Obligations.MeterKeysDriveTheTrip : Prop :=
  ∀ s : State,
    let changed (new : MeterState) (t : State) : Prop :=
      t.meter.state = new ∧ t.meter.secondSince = s.now ∧ t.now = s.now ∧
        t.panel = { s.panel with tally := 0 } ∧ t.writer.checkpointDirty = true ∧ Pending .meter t ∧
        StatusGenerated s t ∧ t.inbox = s.inbox ∧ t.emergency = s.emergency ∧ t.store = s.store ∧
        t.locator = s.locator ∧ t.nonvolatile = s.nonvolatile
    let p := min s.panel.tally ((s.store.working.metrology.pulseConstant * 70 + 999) / 1000)
    (Listening s →
      (∀ n, 3 < n → exec (.meterKey (.fields n)) s = .next (replied s .mkey .badArg [] s)) ∧
      (∀ n, n ≤ 3 → s.store.working.keysOnly = true →
        exec (.meterKey (.fields n)) s = .next (replied s .mkey .keysOnly [] s)) ∧
      (s.store.working.keysOnly = false →
        (∀ (m : MeterKey) (n : Nat) r,
          (m, n) ∈ [(MeterKey.hire, 0), (.stop, 1), (.free, 2), (.extra, 3)] → meterRefusal m s = some r →
          exec (.meterKey (.fields n)) s = .next (replied s .mkey .refused [.name r.code] s)) ∧
        (s.meter.state = .free → meterRefusal .hire s = none →
          let tariff := s.store.working.metrology.tariffs.get (evaluateTariff s)
          let k := s.store.working.metrology.pulseConstant
          ∃ t x, exec (.meterKey (.fields 0)) s = .next t ∧ changed .hired t ∧
            t.link.owed = some ⟨⟨.mkey, .ok, [.name 2]⟩, s.now⟩ ∧
            t.meter.trip = some x ∧ t.meter.checkpointCount = 0 ∧ t.meter.resumeOpen = false ∧
            x.fare = tariff.flagFall ∧
            x.acc = -(((tariff.included * k + 500) / 1000 * tariff.timeStep : Nat) : Int) ∧
            x.tariffAtHire = evaluateTariff s ∧ x.tariff = evaluateTariff s ∧
            x.tariffsUsed = [evaluateTariff s] ∧ x.seconds = 0 ∧ x.pulses = 0 ∧ x.extrasCount = 0 ∧
            x.extrasTotal = 0 ∧ x.implausible = 0 ∧ x.hireTime = timeOfDay s ∧
            x.zoneAtHire = s.locator.zone ∧ x.offer = assignment s ∧
            x.flags.trial = decide (s.store.working.metrology ≠ s.store.stored.metrology) ∧
            x.flags.emergency = decide (s.emergency.state ≠ .idle) ∧
            x.flags.timeUnknown = decide (s.receiver.time = none) ∧ x.flags.saturated = false ∧
            (∀ m o, BoardSound s → assignment s = some m → findOffer m s = some o → o.state = .awarded →
              findOffer m t = some { o with state := .closed, outcome := some .hired } ∧
                Pending .offerClosed t)) ∧
        (∀ x, s.meter.state = .hired → s.meter.trip = some x →
          ∃ t, exec (.meterKey (.fields 1)) s = .next t ∧ changed .stopped t ∧
            t.link.owed = some ⟨⟨.mkey, .ok, [.name 3]⟩, s.now⟩ ∧ t.meter.resumeOpen = true ∧
            t.meter.checkpointCount = s.meter.checkpointCount ∧ t.accounts = s.accounts ∧
            t.meter.trip = some { x with
              pulses := min 4294967295 (x.pulses + p)
              implausible :=
                if (s.store.working.metrology.pulseConstant * 70 + 999) / 1000 < s.panel.tally then
                  min 65535 (x.implausible + 1)
                else x.implausible
              stopAt := some s.now }) ∧
        (∀ x, s.meter.state = .stopped → s.meter.resumeOpen = true → s.meter.trip = some x →
          ∃ t y, exec (.meterKey (.fields 0)) s = .next t ∧ changed .hired t ∧
            t.link.owed = some ⟨⟨.mkey, .ok, [.name 2]⟩, s.now⟩ ∧ t.meter.resumeOpen = false ∧
            t.meter.checkpointCount = s.meter.checkpointCount ∧ t.meter.trip = some y ∧
            y.stopAt = none ∧ y.fare = x.fare ∧ y.seconds = x.seconds ∧ y.pulses = x.pulses ∧
            y.extrasCount = x.extrasCount ∧ y.extrasTotal = x.extrasTotal ∧ y.flags = x.flags ∧
            (s.store.working.metrology.lockTariff = true ∨ evaluateTariff s = x.tariff →
              y = { x with stopAt := none }) ∧
            (s.store.working.metrology.lockTariff = false → evaluateTariff s ≠ x.tariff →
              y = { x with
                stopAt := none
                tariff := evaluateTariff s
                tariffsUsed := y.tariffsUsed
                acc := Int.tdiv (x.acc * (stepUnits (evaluateTariff s) s : Int)) (stepUnits x.tariff s : Int) } ∧
              ∀ b, b ∈ y.tariffsUsed ↔ b = evaluateTariff s ∨ b ∈ x.tariffsUsed)) ∧
        (∀ x, s.meter.state.onTrip = true → s.meter.trip = some x → 9 ≤ x.extrasCount →
          exec (.meterKey (.fields 3)) s = .next (replied s .mkey .refused [.name Reason.state.code] s)) ∧
        (∀ x, s.meter.state.onTrip = true → s.meter.trip = some x → x.extrasCount < 9 →
          exec (.meterKey (.fields 3)) s = .next (replied s .mkey .ok
            [.name (if s.meter.state = .hired then 2 else 3)]
            (raise .meter { s with
              meter := { s.meter with
                trip := some { x with
                  extrasCount := x.extrasCount + 1
                  extrasTotal := x.extrasTotal +
                    (s.store.working.metrology.tariffs.get x.tariff).extra }
                checkpointCount := if s.meter.state = .hired then 0 else s.meter.checkpointCount }
              writer := { s.writer with checkpointDirty := true } }))))) ∧
    (∀ x i, s.powered = true → s.meter.state = .stopped → s.meter.resumeOpen = true →
      s.meter.trip = some x → x.stopAt = some i →
      exec .resumeWindowClose s = .next { s with
        now := max s.now (i + 20000), meter := { s.meter with resumeOpen := false } }) ∧
    (s.powered = false ∨ s.meter.state ≠ .stopped ∨ s.meter.resumeOpen = false →
      exec .resumeWindowClose s = .next s)

/-- FREE in STOPPED closes the trip: the meter is FREE with no trip; the record takes the trip's fields with the paid
distance, the zone at close and the shift's numbers, joins the log as its newest and is the last close. A full log
loses its oldest record with its TRIP_REPORT entry, and an UNREPORTED or IN_QUEUE one is counted as overwritten. A
trip that is not TRIAL is added to the shift totals and the lifetime totalizers by the six additions, the total
distance taking the pulses of the last take as well; a TRIAL one to the trial count alone. The checkpoint is marked
dirty, and with the totals fault clear the totals record. -/
def Obligations.FreeClosesTheTrip : Prop :=
  ∀ (s : State) (x : Trip), Listening s → s.store.working.keysOnly = false → s.meter.state = .stopped →
    s.meter.trip = some x →
    let most := 999999999999
    let k := s.store.working.metrology.pulseConstant
    let sum := s.accounts.totals.remainder + min s.panel.tally ((k * 70 + 999) / 1000) * 1000
    let metres := if k = 0 then 0 else sum / k
    let added (r : TripRecord) (m : Nat) (a b : Sums) : Prop :=
      b.trips = min most (a.trips + 1) ∧ b.fare = min most (a.fare + r.fare) ∧
        b.extras = min most (a.extras + r.extrasTotal) ∧
        b.hiredDistance = min most (a.hiredDistance + r.distance) ∧
        b.hiredSeconds = min most (a.hiredSeconds + r.duration) ∧
        b.totalDistance = min most (a.totalDistance + m + r.distance)
    ∃ t r, exec (.meterKey (.fields 2)) s = .next t ∧
      t.meter.state = .free ∧ t.meter.trip = none ∧ t.meter.secondSince = s.now ∧ t.now = s.now ∧
      t.panel = { s.panel with tally := 0 } ∧ Pending .meter t ∧ StatusGenerated s t ∧
      t.link.owed = some ⟨⟨.mkey, .ok, [.name 1]⟩, s.now⟩ ∧ t.writer.checkpointDirty = true ∧
      t.accounts.lastClose = some r ∧ (t.accounts.log.getLast?).map (·.record) = some r ∧
      r.seq = s.accounts.nextSeq ∧ t.accounts.nextSeq = (if r.seq < 65535 then r.seq + 1 else 1) ∧
      r.fare = x.fare ∧ r.duration = x.seconds ∧ r.pulses = x.pulses ∧
      r.distance = x.pulses * 1000 / s.store.working.metrology.pulseConstant ∧
      r.hireTime = x.hireTime ∧ r.tariffAtHire = x.tariffAtHire ∧ r.tariffsUsed = x.tariffsUsed ∧
      r.extrasCount = x.extrasCount ∧ r.extrasTotal = x.extrasTotal ∧ r.zoneAtHire = x.zoneAtHire ∧
      r.zoneAtClose = s.locator.zone ∧ r.offer = x.offer ∧ r.implausible = x.implausible ∧
      r.flags = x.flags ∧ r.shift = s.accounts.totals.shift.shift ∧
      r.driver = s.accounts.totals.shift.driver ∧
      r.report = (if x.flags.trial then .notReportable else .unreported) ∧
      Appended r s.accounts.log t.accounts.log ∧
      (∀ e rest, s.accounts.log = e :: rest → 32 ≤ s.accounts.log.length →
        ∀ q ∈ t.scheduler.queue, ¬(q.kind = .tripReport ∧ q.key = e.record.seq)) ∧
      (k ≠ 0 → t.accounts.totals.remainder = sum % k) ∧
      t.accounts.totals.shift.overwritten =
        (overwriteCounted s.accounts.log s.accounts.fault s.accounts.totals).shift.overwritten ∧
      (s.accounts.fault = false →
        t.accounts.totals.marker = some r.seq ∧ t.writer.totalsDirty = true ∧ t.accounts.changed = true ∧
        (x.flags.trial = false →
          added r (if s.accounts.totals.shiftOpen then metres else 0) s.accounts.totals.shift.sums
            t.accounts.totals.shift.sums ∧
          added r metres s.accounts.totals.life t.accounts.totals.life ∧
          t.accounts.totals.shift.trialTrips = s.accounts.totals.shift.trialTrips) ∧
        (x.flags.trial = true →
          t.accounts.totals.shift.trialTrips = min most (s.accounts.totals.shift.trialTrips + 1) ∧
          t.accounts.totals.shift.sums.trips = s.accounts.totals.shift.sums.trips ∧
          t.accounts.totals.shift.sums.fare = s.accounts.totals.shift.sums.fare ∧
          t.accounts.totals.life.trips = s.accounts.totals.life.trips ∧
          t.accounts.totals.life.fare = s.accounts.totals.life.fare)) ∧
      (s.accounts.fault = true →
        t.accounts.totals.marker = s.accounts.totals.marker ∧ t.writer.totalsDirty = s.writer.totalsDirty) ∧
      t.inbox = s.inbox ∧ t.emergency = s.emergency ∧ t.store = s.store ∧ t.locator = s.locator ∧
      t.nonvolatile = s.nonvolatile

/-- SHIFT OPEN in OFF: the meter goes FREE and the shift totals start from zero under the next shift number with the
driver and the opening time. SHIFT CLOSE in FREE with no assignment: the meter goes OFF, every PRESENTED entry closes
DROPPED, and the counts stand with the shift closed. Both generate a STATUS, raise METER and, with the totals fault
clear, mark the totals record dirty. TIME SET at level 1 sets the time of day with source HOST. -/
def Obligations.ShiftsAndTimeAreSet : Prop :=
  ∀ s : State, Listening s →
    let changed (new : MeterState) (t : State) : Prop :=
      t.meter.state = new ∧ t.meter.secondSince = s.now ∧ t.meter.trip = s.meter.trip ∧
        t.panel = { s.panel with tally := 0 } ∧ Pending .meter t ∧ StatusGenerated s t ∧
        (s.accounts.fault = false → t.writer.totalsDirty = true) ∧ t.accounts.changed = true ∧
        t.accounts.log = s.accounts.log ∧ t.inbox = s.inbox ∧ t.emergency = s.emergency ∧
        t.store = s.store ∧ t.locator = s.locator ∧ t.nonvolatile = s.nonvolatile
    (∀ d, d < 1 ∨ 9999 < d → exec (.shiftOpen (.fields d)) s = .next (replied s .sopn .badArg [] s)) ∧
    (∀ d, 1 ≤ d → d ≤ 9999 →
      (s.meter.state ≠ .off → exec (.shiftOpen (.fields d)) s = .next (replied s .sopn .refused [] s)) ∧
      (s.meter.state = .off →
        ∃ t, exec (.shiftOpen (.fields d)) s = .next t ∧ changed .free t ∧
          t.accounts.totals.shiftOpen = true ∧
          t.accounts.totals.shift =
            ⟨if s.accounts.totals.shift.shift < 65535 then s.accounts.totals.shift.shift + 1 else 1, d,
              timeOfDay s, ⟨0, 0, 0, 0, 0, 0⟩, 0, 0⟩ ∧
          t.link.owed = some ⟨⟨.sopn, .ok, [.name 1]⟩, s.now⟩)) ∧
    (s.meter.state ≠ .free →
      exec (.shiftClose (.fields ())) s = .next (replied s .scls .refused [] s)) ∧
    (s.meter.state = .free → assignment s ≠ none →
      exec (.shiftClose (.fields ())) s = .next (replied s .scls .alreadyOpen [] s)) ∧
    (s.meter.state = .free → assignment s = none →
      ∃ t, exec (.shiftClose (.fields ())) s = .next t ∧ changed .off t ∧
        t.accounts.totals.shiftOpen = false ∧
        t.accounts.totals.shift.shift = s.accounts.totals.shift.shift ∧
        t.accounts.totals.shift.driver = s.accounts.totals.shift.driver ∧
        t.accounts.totals.shift.sums.trips = s.accounts.totals.shift.sums.trips ∧
        t.accounts.totals.shift.sums.fare = s.accounts.totals.shift.sums.fare ∧
        (∀ o ∈ t.board.entries, o.state ≠ .presented) ∧
        (BoardSound s → ∀ o ∈ s.board.entries, o.state = .presented → Dropped o t) ∧
        t.link.owed = some ⟨⟨.scls, .ok, [.name 0]⟩, s.now⟩) ∧
    (∀ a : TimeArgs,
      (1 < a.dayType ∨ 86399 < a.second →
        exec (.timeSet (.fields a)) s = .next (replied s .tset .badArg [] s)) ∧
      (a.dayType ≤ 1 → a.second ≤ 86399 →
        (s.store.level = 0 → exec (.timeSet (.fields a)) s = .next (replied s .tset .level [] s)) ∧
        (1 ≤ s.store.level →
          let t : TimeOfDay := ⟨if a.dayType = 0 then .workday else .restday, a.second⟩
          exec (.timeSet (.fields a)) s = .next (replied s .tset .ok [.time (some t), .name 1]
            { s with receiver := { s.receiver with time := some ⟨t, .host, s.now⟩ } }))))

/-! ### The accounts and the store writer -/

/-- A trip report is placed for the oldest UNREPORTED record whose hold-off has passed, sync LOCKED, the address set
and no TRIP_REPORT entry standing: the record becomes IN_QUEUE; without power none is (log entry 13). A hold-off ends
at its instant. A totals period ends after 300 s, marks changed totals dirty unless the totals fault holds, and the
next begins. TOTALS REINIT at level 2, under the totals fault and not yet taken, zeroes the counts and marks the
totals record dirty; totals already zero count as changed too (log entry 48). A step of the clock moves uptime on to
its own instant, never back (log entry 1). -/
def Obligations.AccountsActOnTheirInstants : Prop :=
  ∀ s : State,
    (∀ e, s.powered = true → (∀ x ∈ s.scheduler.queue, x.kind ≠ .tripReport) → s.receiver.sync = .locked →
      1 ≤ s.store.working.address → s.store.working.address ≤ 4094 →
      s.accounts.log.find? (fun x => x.record.report == .unreported && x.holdOff.isNone) = some e →
      ∃ t, exec .tripReportPlacement s = .next t ∧ t.now = s.now ∧
        (∃ x ∈ t.scheduler.queue, x.kind = .tripReport ∧ x.key = e.record.seq ∧ x.state = .waiting ∧
          x.attempts = 0 ∧ x.content = .summary e.record) ∧
        t.accounts = { s.accounts with
          log := s.accounts.log.map fun x => if x.record.seq == e.record.seq then
            { x with record := { x.record with report := .inQueue } } else x } ∧
        t.receiver.watch = .full ∧ t.meter = s.meter ∧ t.writer = s.writer ∧ t.board = s.board ∧
        t.store = s.store ∧ t.nonvolatile = s.nonvolatile) ∧
    (s.powered = false ∨ s.receiver.sync ≠ .locked ∨ s.store.working.address = 0 ∨
      (∃ x ∈ s.scheduler.queue, x.kind = .tripReport) ∨
      (∀ x ∈ s.accounts.log, x.record.report ≠ .unreported ∨ x.holdOff ≠ none) →
      exec .tripReportPlacement s = .next s) ∧
    (∀ n e i, s.powered = true → findRecord n s = some e → e.holdOff = some i →
      exec (.reportHoldOffEnd n) s = .next { s with
        now := max s.now i
        accounts := { s.accounts with
          log := s.accounts.log.map fun x => if x.record.seq == n then { x with holdOff := none } else x } }) ∧
    (s.powered = true →
      exec .totalsPeriodEnd s = .next { s with
        now := max s.now (s.accounts.periodSince + 300000)
        accounts := { s.accounts with periodSince := s.accounts.periodSince + 300000 }
        writer := { s.writer with
          totalsDirty := s.writer.totalsDirty || s.accounts.changed && !s.accounts.fault } }) ∧
    (Listening s →
      (s.store.level < 2 →
        exec (.totalsReinit (.fields ())) s = .next (replied s .tini .level [] s)) ∧
      (2 ≤ s.store.level → s.accounts.fault = false →
        exec (.totalsReinit (.fields ())) s = .next (replied s .tini .refused [] s)) ∧
      (2 ≤ s.store.level → s.accounts.fault = true → s.accounts.reinit = true →
        exec (.totalsReinit (.fields ())) s = .next (replied s .tini .busy [] s)) ∧
      (2 ≤ s.store.level → s.accounts.fault = true → s.accounts.reinit = false →
        exec (.totalsReinit (.fields ())) s = .next (replied s .tini .ok [] { s with
          accounts := { s.accounts with
            totals :=
              { shift := { s.accounts.totals.shift with
                  sums := ⟨0, 0, 0, 0, 0, 0⟩, trialTrips := 0, overwritten := 0 }
                life := ⟨0, 0, 0, 0, 0, 0⟩
                shiftOpen := s.accounts.totals.shiftOpen
                remainder := 0
                marker := s.accounts.log.getLast?.map (·.record.seq) }
            changed := true
            reinit := true }
          writer := { s.writer with totalsDirty := true } })))

/-- The store writer takes the first set mark in the order of service: emergency mark, checkpoint, trip records from
the oldest, totals, report marks from the oldest, settings commit. Taking an item clears its mark and holds the
content as it stands. A completion puts that content in the nonvolatile memory; a totals write sets generation and
copy and ends a TOTALS REINIT, a commit makes its content the stored values. That a record is stored with the report
state it was made with, and a report mark with the sequence number of its record, is the model's choice (log entry
29). -/
def Obligations.StoreWriterServesInOrder : Prop :=
  ∀ s : State, s.powered = true →
    let startedWith (item : WriteItem) (w : Writer) : State :=
      { s with writer := { w with writing := some ⟨item, s.now⟩ } }
    let other (h : Option Copy) : Copy := if h = some .a then .b else .a
    let next (g : Nat) : Nat := min 4294967295 (g + 1)
    let w := s.writer
    let oldest (l : List Nat) := s.accounts.log.find? fun e => l.contains e.position
    (w.writing = none →
      (w.markDirty = true →
        exec .storeWriteStart s = .next (startedWith (.mark s.emergency.mark) { w with markDirty := false })) ∧
      (w.markDirty = false → w.checkpointDirty = true →
        exec .storeWriteStart s = .next (startedWith (.checkpoint (checkpointContent s))
          { w with checkpointDirty := false })) ∧
      (w.markDirty = false → w.checkpointDirty = false →
        (∀ e, oldest w.recordsDirty = some e →
          exec .storeWriteStart s = .next (startedWith (.record e.position { e.record with
              report := if e.record.flags.trial then .notReportable else .unreported })
            { w with recordsDirty := w.recordsDirty.filter (· != e.position) })) ∧
        (oldest w.recordsDirty = none → w.totalsDirty = true →
          exec .storeWriteStart s = .next { startedWith
              (.totals (other s.accounts.holder) ⟨next s.accounts.generation, s.accounts.totals⟩)
              { w with totalsDirty := false } with
            accounts := { s.accounts with changed := false } }) ∧
        (oldest w.recordsDirty = none → w.totalsDirty = false →
          (∀ e, oldest w.reportsDirty = some e →
            exec .storeWriteStart s = .next (startedWith (.report e.position ⟨e.record.seq,
                if e.record.report = .inQueue then .unreported else e.record.report⟩)
              { w with reportsDirty := w.reportsDirty.filter (· != e.position) })) ∧
          (oldest w.reportsDirty = none → w.settingsDirty = true →
            exec .storeWriteStart s = .next { startedWith
                (.settings (other s.store.holder) ⟨next s.store.generation, s.store.working⟩)
                { w with settingsDirty := false } with
              store := { s.store with commit := .writing } }) ∧
          (oldest w.reportsDirty = none → w.settingsDirty = false →
            exec .storeWriteStart s = .next s)))) ∧
    (w.writing ≠ none → exec .storeWriteStart s = .next s) ∧
    (w.writing = none → exec .storeWriteComplete s = .next s) ∧
    (∀ i,
      let done (m : Nonvolatile) : State :=
        { s with nonvolatile := m, writer := { w with writing := none } }
      (∀ k, w.writing = some ⟨.mark k, i⟩ →
        exec .storeWriteComplete s = .next (done { s.nonvolatile with mark := some k })) ∧
      (∀ c, w.writing = some ⟨.checkpoint c, i⟩ →
        exec .storeWriteComplete s = .next (done { s.nonvolatile with checkpoint := some c })) ∧
      (∀ p r, w.writing = some ⟨.record p r, i⟩ →
        exec .storeWriteComplete s = .next (done { s.nonvolatile with
          log := s.nonvolatile.log.modify p fun x => { x with torn := false, record := some r } })) ∧
      (∀ p r, w.writing = some ⟨.report p r, i⟩ →
        exec .storeWriteComplete s = .next (done { s.nonvolatile with
          log := s.nonvolatile.log.modify p fun x => { x with report := some r } })) ∧
      (∀ copy c, w.writing = some ⟨.totals copy c, i⟩ →
        let t := done (if copy = .a then { s.nonvolatile with totalsA := some c }
          else { s.nonvolatile with totalsB := some c })
        let known : Accounts := { s.accounts with generation := c.generation, holder := some copy }
        exec .storeWriteComplete s = .next (if s.accounts.reinit then
            raise .store { t with accounts := { known with fault := false, reinit := false } }
          else { t with accounts := known })) ∧
      (∀ copy c, w.writing = some ⟨.settings copy c, i⟩ →
        exec .storeWriteComplete s = .next (raise .store
          { done (if copy = .a then { s.nonvolatile with settingsA := some c }
              else { s.nonvolatile with settingsB := some c }) with
            store := { s.store with
              stored := c.settings, generation := c.generation, holder := some copy, commit := .none } })))

/-! ### Messages -/

/-- The driver's answers. MESSAGE MARK makes an UNREAD record READ; MESSAGE DELETE removes a record whose receipt is
not QUEUED; MESSAGE REPLY with a code that the record carries chooses it, makes the record REPLIED, and lets the
receipt carry it: in a DUE record at once, in a NONE, SENT or FAILED one by a receipt due again, whose entry, when it
is placed, carries that code while the other records stand but for a DUE one whose receipt is placed with it, in a
QUEUED one by amending a WAITING entry, or by the outstanding mark where the entry is on the air. Each answers BAD_ARG
to an operand out of its range and NOT_FOUND for a number that no record has. A placement test takes the DUE records
URGENT ones first and by arrival among each, and places RECEIPT entries for as many as the cap of four leaves room
for. -/
def Obligations.MessagesAreAnswered : Prop :=
  ∀ s : State,
    let updated (n : Nat) (f : Message → Message) (t : State) : State :=
      { t with inbox := { t.inbox with
          messages := t.inbox.messages.map fun m => if m.number == n then f m else m } }
    (∀ a : ReplyArgs, Listening s →
      (a.number = 0 ∨ 65535 < a.number ∨ a.code = 0 ∨ 32 < a.code →
        exec (.messageReply (.fields a)) s = .next (replied s .mrpl .badArg [] s)) ∧
      (1 ≤ a.number → a.number ≤ 65535 → 1 ≤ a.code → a.code ≤ 32 → findMessage a.number s = none →
        exec (.messageReply (.fields a)) s = .next (replied s .mrpl .notFound [] s))) ∧
    (∀ n, Listening s →
      (n = 0 ∨ 65535 < n →
        exec (.messageMark (.fields n)) s = .next (replied s .mmrk .badArg [] s) ∧
        exec (.messageDelete (.fields n)) s = .next (replied s .mdel .badArg [] s)) ∧
      (1 ≤ n → n ≤ 65535 →
        (findMessage n s = none →
          exec (.messageMark (.fields n)) s = .next (replied s .mmrk .notFound [] s) ∧
          exec (.messageDelete (.fields n)) s = .next (replied s .mdel .notFound [] s)) ∧
        (∀ m, findMessage n s = some m →
          exec (.messageMark (.fields n)) s = .next (replied s .mmrk .ok []
            (updated n (fun x => { x with read := if x.read = .unread then .read else x.read }) s)) ∧
          (m.receipt = .queued →
            exec (.messageDelete (.fields n)) s = .next (replied s .mdel .pending [] s)) ∧
          (m.receipt ≠ .queued →
            exec (.messageDelete (.fields n)) s = .next (replied s .mdel .ok [] { s with
              inbox := { s.inbox with messages := s.inbox.messages.filter fun x => x.number != n } })) ∧
          (∀ c, 1 ≤ c → c ≤ 32 →
            (c ∉ m.replies →
              exec (.messageReply (.fields ⟨n, c⟩)) s = .next (replied s .mrpl .badArg [] s)) ∧
            (c ∈ m.replies →
              (m.receipt = .due →
                exec (.messageReply (.fields ⟨n, c⟩)) s = .next (replied s .mrpl .ok [.name 1, .name 1]
                  (updated n (fun x => { x with
                    chosen := some c, read := .replied, receiptCode := c }) s))) ∧
              (m.receipt = .queued → (∃ e, findEntry .receipt n s = some e ∧ e.state = .waiting) →
                exec (.messageReply (.fields ⟨n, c⟩)) s = .next (replied s .mrpl .ok [.name 2, .name 0]
                  (updated n (fun x => { x with
                      chosen := some c, read := .replied, receiptCode := c, outstanding := false })
                    { s with scheduler := { s.scheduler with
                        queue := s.scheduler.queue.map fun e =>
                          if e.kind == .receipt && e.key == n then { e with content := .code c }
                          else e } }))) ∧
              (m.receipt = .queued → (∀ e, findEntry .receipt n s = some e → e.state ≠ .waiting) →
                exec (.messageReply (.fields ⟨n, c⟩)) s = .next (replied s .mrpl .ok [.name 2, .name 2]
                  (updated n (fun x => { x with
                    chosen := some c, read := .replied, outstanding := true }) s))) ∧
              (m.receipt = .none ∨ m.receipt = .sent ∨ m.receipt = .failed →
                ∃ t y r, exec (.messageReply (.fields ⟨n, c⟩)) s = .next t ∧ findMessage n t = some y ∧
                  y = { m with
                    chosen := some c, read := .replied, receiptCode := c, receipt := y.receipt } ∧
                  (y.receipt = .due ∨ y.receipt = .queued) ∧
                  t.link.owed = some ⟨⟨.mrpl, .ok, [.name r, .name 1]⟩, s.now⟩ ∧
                  (r = 1 ∧ y.receipt = .due ∨ r = 2 ∧ y.receipt = .queued) ∧
                  ((∀ e ∈ s.scheduler.queue, ¬(e.kind = .receipt ∧ e.key = n)) → y.receipt = .queued →
                    ∃ e ∈ t.scheduler.queue, e.kind = .receipt ∧ e.key = n ∧ e.state = .waiting ∧
                      e.attempts = 0 ∧ e.content = .code c) ∧
                  ((s.inbox.messages.map (·.number)).Nodup → ∀ z ∈ s.inbox.messages, z.number ≠ n →
                    (z.receipt ≠ .due → z ∈ t.inbox.messages) ∧
                    (z.receipt = .due → z ∈ t.inbox.messages ∨
                      { z with receipt := .queued } ∈ t.inbox.messages)) ∧
                  t.board = s.board ∧ t.meter = s.meter ∧ t.accounts = s.accounts ∧
                  t.emergency = s.emergency ∧ t.store = s.store ∧ t.locator = s.locator)))))) ∧
    (let due (p : Priority) := s.inbox.messages.filter fun m => m.receipt == .due && m.priority == p
      let receipts (t : State) := t.scheduler.queue.countP fun e => e.kind == .receipt
      let placed := (due .urgent ++ due .normal).take (4 - receipts s);
      s.powered = true → (s.inbox.messages.map (·.number)).Nodup →
      (∀ m ∈ s.inbox.messages, m.receipt = .due →
        ∀ e ∈ s.scheduler.queue, ¬(e.kind = .receipt ∧ e.key = m.number)) →
      ∃ t, exec .receiptPlacement s = .next t ∧ t.now = s.now ∧
        t.inbox = { s.inbox with messages := s.inbox.messages.map fun m =>
          if m ∈ placed then { m with receipt := .queued } else m } ∧
        (∀ m ∈ placed, ∃ e ∈ t.scheduler.queue, e.kind = .receipt ∧ e.key = m.number ∧ e.state = .waiting ∧
          e.attempts = 0 ∧ e.content = .code m.receiptCode) ∧
        receipts t = receipts s + placed.length ∧ (∀ e ∈ s.scheduler.queue, e ∈ t.scheduler.queue)) ∧
    ((∀ m ∈ s.inbox.messages, m.receipt ≠ .due) → exec .receiptPlacement s = .next s)

/-- SEND CANNED and SEND TEXT, an address set and fewer than five CANNED and FREETEXT entries standing: the entry is
placed under the next ticket, which the reply carries and which advances, 255 being followed by 1; a text keeps its
first 64 characters. Where an entry with that ticket still stands, the answer and the advance are the same (the
model's choice, log entry 32). Otherwise the first cause of the table answers. -/
def Obligations.HostMessagesTakeTickets : Prop :=
  ∀ s : State, Listening s →
    let n := s.scheduler.nextTicket
    let full := 5 ≤ s.scheduler.queue.countP (fun e => e.kind == .canned || e.kind == .freetext)
    let fresh := ∀ e ∈ s.scheduler.queue, (e.kind = .canned ∨ e.kind = .freetext) → e.key ≠ n
    let sent (kind : EntryKind) (content : EntryContent) (t : State) : Prop :=
      t.scheduler.nextTicket = (if n < 255 then n + 1 else 1) ∧
        (fresh → t.receiver.watch = .full ∧ ∃ e ∈ t.scheduler.queue,
          e.kind = kind ∧ e.key = n ∧ e.state = .waiting ∧ e.attempts = 0 ∧ e.content = content) ∧
        t.inbox = s.inbox ∧ t.board = s.board ∧ t.meter = s.meter ∧ t.accounts = s.accounts ∧
        t.emergency = s.emergency ∧ t.store = s.store ∧ t.nonvolatile = s.nonvolatile
    (∀ c, c < 1 ∨ 32 < c → exec (.sendCanned (.fields c)) s = .next (replied s .scan .badArg [] s)) ∧
    (∀ c, 1 ≤ c → c ≤ 32 →
      let x := s.store.working.canned.getD (c - 1) []
      (x = [] ∨ s.store.working.address = 0 →
        exec (.sendCanned (.fields c)) s = .next (replied s .scan .refused [] s)) ∧
      (x ≠ [] → s.store.working.address ≠ 0 → full →
        exec (.sendCanned (.fields c)) s = .next (replied s .scan .full [] s)) ∧
      (x ≠ [] → s.store.working.address ≠ 0 → ¬ full →
        ∃ t, exec (.sendCanned (.fields c)) s = .next t ∧ sent .canned (.canned c) t ∧
          t.link.owed = some ⟨⟨.scan, .ok, [.num 255 n]⟩, s.now⟩)) ∧
    (∀ x : Text, x = [] ∨ (∃ b ∈ x, b.toNat < 0x20 ∨ 0x7E < b.toNat) →
      exec (.sendText (.fields x)) s = .next (replied s .stxt .badArg [] s)) ∧
    (∀ x : Text, x ≠ [] → (∀ b ∈ x, 0x20 ≤ b.toNat ∧ b.toNat ≤ 0x7E) →
      (s.store.working.address = 0 →
        exec (.sendText (.fields x)) s = .next (replied s .stxt .refused [] s)) ∧
      (s.store.working.address ≠ 0 → full →
        exec (.sendText (.fields x)) s = .next (replied s .stxt .full [] s)) ∧
      (s.store.working.address ≠ 0 → ¬ full →
        ∃ t, exec (.sendText (.fields x)) s = .next t ∧ sent .freetext (.text (x.take 64)) t ∧
          t.link.owed = some
            ⟨⟨.stxt, .ok, [.num 255 n, .num 64 (min 64 x.length), .flag (decide (64 < x.length))]⟩, s.now⟩))

/-! ### The settings store -/

/-- Each of the twelve settings written in range at its level, a metrology one outside a trip, has effect at once:
SETTING WRITE sets the working value and answers with working and stored value, a code by its number of digits (log
entry 23). CANNED WRITE sets the canned entry; TARIFF WRITE replaces every field of the tariff; BANDS WRITE writes
consecutive half hours of its row, naming valid tariffs alone, and answers with the row behind its count (log entry
24). The stored value stands. A value or an operand out of range is BAD_ARG; below the level the answer is LEVEL; a
metrology write during a trip is REFUSED, of the standing value too (log entry 27). -/
def Obligations.SettingsAreWritten : Prop :=
  ∀ s : State, Listening s →
    let working (w : Settings) : State := { s with store := { s.store with working := w } }
    let old := s.store.working
    let metrology (m : Metrology) : Settings := { old with metrology := m }
    let digits (least most : Nat) (d : Digits) : Prop :=
      least ≤ d.length ∧ d.length ≤ most ∧ ∀ b ∈ d, 0x30 ≤ b.toNat ∧ b.toNat ≤ 0x39
    let bad (n : Nat) (v : SettingValue) : Prop :=
      exec (.settingWrite (.fields ⟨n, v⟩)) s = .next (replied s .swrt .badArg [] s)
    let below (n : Nat) (v : SettingValue) : Prop :=
      exec (.settingWrite (.fields ⟨n, v⟩)) s = .next (replied s .swrt .level [] s)
    let takes (level n : Nat) (v : SettingValue) (new : Settings) (shown : Settings → Field) : Prop :=
      (s.store.level < level → below n v) ∧
      (level ≤ s.store.level → exec (.settingWrite (.fields ⟨n, v⟩)) s =
        .next (replied s .swrt .ok [shown new, shown s.store.stored] (working new)))
    let takesOffTrip (n : Nat) (v : SettingValue) (new : Settings) (shown : Settings → Field) : Prop :=
      (s.store.level < 2 → below n v) ∧
      (2 ≤ s.store.level → s.meter.state.onTrip = true →
        exec (.settingWrite (.fields ⟨n, v⟩)) s = .next (replied s .swrt .refused [] s)) ∧
      (s.meter.state.onTrip = false → takes 2 n v new shown)
    (∀ a, (a ≤ 4094 → takes 1 0 (.number a) { old with address := a } fun w => .num 4094 w.address) ∧
      (4094 < a → bad 0 (.number a))) ∧
    (∀ a, (a ≤ 255 → takes 1 1 (.number a) { old with fleetCode := a } fun w => .num 255 w.fleetCode) ∧
      (255 < a → bad 1 (.number a))) ∧
    (∀ d : Digits,
      (digits 6 6 d → takes 1 2 (.code d) { old with accessCode := d } fun w => .num 8 w.accessCode.length) ∧
      (¬ digits 6 6 d → bad 2 (.code d)) ∧
      (digits 4 8 d →
        takes 1 3 (.code d) { old with cancelCode := d } (fun w => .num 8 w.cancelCode.length) ∧
        takes 1 4 (.code d) { old with duressCode := d } (fun w => .num 8 w.duressCode.length)) ∧
      (¬ digits 4 8 d → bad 3 (.code d) ∧ bad 4 (.code d)) ∧
      (digits 8 8 d →
        takes 2 11 (.code d) { old with calibrationCode := d } fun w => .num 8 w.calibrationCode.length) ∧
      (¬ digits 8 8 d → bad 11 (.code d))) ∧
    (∀ (x : Bool) (a : Nat), a = (if x then 1 else 0) →
      takes 1 6 (.number a) { old with resetReachesHost := x } (fun w => .flag w.resetReachesHost) ∧
      takes 2 8 (.number a) { old with keysOnly := x } (fun w => .flag w.keysOnly) ∧
      takesOffTrip 9 (.number a) (metrology { old.metrology with lockTariff := x })
        (fun w => .flag w.metrology.lockTariff)) ∧
    (∀ a, 1 < a → bad 6 (.number a) ∧ bad 8 (.number a) ∧ bad 9 (.number a)) ∧
    (∀ k, (k = 0 ∨ 500 ≤ k ∧ k ≤ 20000 →
        takesOffTrip 7 (.number k) (metrology { old.metrology with pulseConstant := k })
          (fun w => .num 20000 w.metrology.pulseConstant)) ∧
      (k ≠ 0 ∧ k < 500 ∨ 20000 < k → bad 7 (.number k))) ∧
    (∀ n, (n ≤ 4 →
        takesOffTrip 10 (.number n) (metrology { old.metrology with outOfArea := n })
          (fun w => .num 4 w.metrology.outOfArea)) ∧
      (4 < n → bad 10 (.number n))) ∧
    (∀ n v, 11 < n → bad n v) ∧
    (∀ n, 2 < n → bad 5 (.number n)) ∧
    (∀ m : AlertMode, s.store.level = 0 → below 5 (.number m.code)) ∧
    (∀ m : AlertMode, 1 ≤ s.store.level →
      exec (.settingWrite (.fields ⟨5, .number m.code⟩)) s = .next (replied s .swrt .ok
        [.name m.code, .name s.store.stored.alertMode.code]
        { working { old with alertMode := m } with
          emergency := { s.emergency with
            latch :=
              if m = old.alertMode then s.emergency.latch
              else if old.alertMode = .latched then false
              else if m = .latched ∧ (s.emergency.state = .active ∨ s.emergency.state = .acknowledged) then true
              else s.emergency.latch } })) ∧
    (∀ (n : Nat) (x : Text), 1 ≤ n → n ≤ 32 → x.length ≤ 32 →
      (∀ b ∈ x, 0x20 ≤ b.toNat ∧ b.toNat ≤ 0x7E) → old.canned.length = 32 →
      (s.store.level = 0 →
        exec (.cannedWrite (.fields ⟨n, x⟩)) s = .next (replied s .cwrt .level [] s)) ∧
      (1 ≤ s.store.level →
        exec (.cannedWrite (.fields ⟨n, x⟩)) s = .next (replied s .cwrt .ok
          [.text x, .text (s.store.stored.canned.getD (n - 1) [])]
          (working { old with canned := old.canned.set (n - 1) x })))) ∧
    (∀ (n : Nat) (x : Text), n = 0 ∨ 32 < n ∨ 32 < x.length ∨ (∃ b ∈ x, b.toNat < 0x20 ∨ 0x7E < b.toNat) →
      exec (.cannedWrite (.fields ⟨n, x⟩)) s = .next (replied s .cwrt .badArg [] s)) ∧
    (∀ a : TariffArgs, a.number = 0 ∨ 4 < a.number ∨ 1 < a.valid ∨ 99999 < a.flagFall ∨ a.increment = 0 ∨
        9999 < a.increment ∨ a.distanceStep < 10 ∨ 2000 < a.distanceStep ∨ a.timeStep < 5 ∨ 600 < a.timeStep ∨
        10000 < a.included ∨ 1 < a.mode ∨ 9999 < a.extra →
      exec (.tariffWrite (.fields a)) s = .next (replied s .twrt .badArg [] s)) ∧
    (∀ a : BandsArgs, 1 < a.row ∨ a.tariffs = [] ∨ 48 < a.first + a.tariffs.length ∨
        (∃ n ∈ a.tariffs, n = 0 ∨ 4 < n) →
      exec (.bandsWrite (.fields a)) s = .next (replied s .bwrt .badArg [] s)) ∧
    (∀ a : TariffArgs, 1 ≤ a.number → a.number ≤ 4 → a.valid ≤ 1 → a.flagFall ≤ 99999 → 1 ≤ a.increment →
      a.increment ≤ 9999 → 10 ≤ a.distanceStep → a.distanceStep ≤ 2000 → 5 ≤ a.timeStep → a.timeStep ≤ 600 →
      a.included ≤ 10000 → a.mode ≤ 1 → a.extra ≤ 9999 →
      let x : Tariff := ⟨a.valid == 1, a.flagFall, a.increment, a.distanceStep, a.timeStep, a.included,
        if a.mode = 0 then .single else .double, a.extra⟩
      (s.store.level < 2 →
        exec (.tariffWrite (.fields a)) s = .next (replied s .twrt .level [] s)) ∧
      (2 ≤ s.store.level → s.meter.state.onTrip = true →
        exec (.tariffWrite (.fields a)) s = .next (replied s .twrt .refused [] s)) ∧
      (2 ≤ s.store.level → s.meter.state.onTrip = false →
        ∃ t, exec (.tariffWrite (.fields a)) s = .next (replied s .twrt .ok (tariffFields x) t) ∧
          t = working { old with metrology := { old.metrology with
            tariffs := t.store.working.metrology.tariffs } } ∧
          t.store.working.metrology.tariffs.get a.number = x ∧
          ∀ n, 1 ≤ n → n ≤ 4 → n ≠ a.number →
            t.store.working.metrology.tariffs.get n = old.metrology.tariffs.get n)) ∧
    (∀ a : BandsArgs, a.row ≤ 1 → 1 ≤ a.tariffs.length → a.first + a.tariffs.length ≤ 48 →
      (∀ n ∈ a.tariffs, 1 ≤ n ∧ n ≤ 4) →
      let day : DayType := if a.row = 0 then .workday else .restday
      (s.store.level < 2 →
        exec (.bandsWrite (.fields a)) s = .next (replied s .bwrt .level [] s)) ∧
      (2 ≤ s.store.level →
        s.meter.state.onTrip = true ∨ (∃ n ∈ a.tariffs, (old.metrology.tariffs.get n).valid = false) →
        exec (.bandsWrite (.fields a)) s = .next (replied s .bwrt .refused [] s)) ∧
      (2 ≤ s.store.level → s.meter.state.onTrip = false →
        (∀ n ∈ a.tariffs, (old.metrology.tariffs.get n).valid = true) →
        (old.metrology.row day).length = 48 →
        ∃ t, exec (.bandsWrite (.fields a)) s = .next (replied s .bwrt .ok
            (.count 48 :: (t.store.working.metrology.row day).map fun n => .num 4 n) t) ∧
          t = working { old with metrology := { old.metrology with
            workday := t.store.working.metrology.workday
            restday := t.store.working.metrology.restday } } ∧
          ∀ other, t.store.working.metrology.row other = if other = day then
              (old.metrology.row day).take a.first ++ a.tariffs ++
                (old.metrology.row day).drop (a.first + a.tariffs.length)
            else old.metrology.row other))

/-- COMMIT and REVERT, at level 1, or at level 2 with metrology uncommitted, and no commit under way: a COMMIT marks
the settings commit dirty and is PENDING; a REVERT, not of metrology during a trip, sets every working value to its
stored value, alert line and latch following. Otherwise LEVEL, BUSY or REFUSED. ALERT CLEAR at level 1, the emergency
shown IDLE, clears the latch. -/
def Obligations.CommitRevertAndAlertClear : Prop :=
  ∀ s : State, Listening s →
    let differs := s.store.working.metrology ≠ s.store.stored.metrology
    (s.store.level = 0 ∨ differs ∧ s.store.level < 2 →
      exec (.commit (.fields ())) s = .next (replied s .cmit .level [] s) ∧
      exec (.revert (.fields ())) s = .next (replied s .rvrt .level [] s)) ∧
    (1 ≤ s.store.level → (differs → 2 ≤ s.store.level) →
      (s.store.commit ≠ .none →
        exec (.commit (.fields ())) s = .next (replied s .cmit .busy [] s) ∧
        exec (.revert (.fields ())) s = .next (replied s .rvrt .busy [] s)) ∧
      (s.store.commit = .none →
        exec (.commit (.fields ())) s = .next (replied s .cmit .ok [.name 1, .flag (decide differs)] { s with
          store := { s.store with commit := .pending }
          writer := { s.writer with settingsDirty := true } }) ∧
        (differs → s.meter.state.onTrip = true →
          exec (.revert (.fields ())) s = .next (replied s .rvrt .refused [] s)) ∧
        (¬ differs ∨ s.meter.state.onTrip = false →
          exec (.revert (.fields ())) s = .next (replied s .rvrt .ok [.name 0, .flag false] { s with
            store := { s.store with working := s.store.stored }
            emergency := { s.emergency with
              latch :=
                if s.store.stored.alertMode = s.store.working.alertMode then s.emergency.latch
                else if s.store.working.alertMode = .latched then false
                else if s.store.stored.alertMode = .latched ∧
                  (s.emergency.state = .active ∨ s.emergency.state = .acknowledged) then true
                else s.emergency.latch } })))) ∧
    (s.store.level = 0 → exec (.alertClear (.fields ())) s = .next (replied s .aclr .level [] s)) ∧
    (1 ≤ s.store.level → s.emergency.state = .active ∨ s.emergency.state = .acknowledged →
      exec (.alertClear (.fields ())) s = .next (replied s .aclr .refused [] s)) ∧
    (1 ≤ s.store.level → s.emergency.state = .idle ∨ s.emergency.state = .covert →
      exec (.alertClear (.fields ())) s = .next (replied s .aclr .ok []
        { s with emergency := { s.emergency with latch := false } }))

/-- Access levels: a code that is not 6 or 8 digits is BAD_ARG; the fleet access code opens level 1 and the
calibration code level 2, each clearing the failures; any other code of 6 or 8 digits is REFUSED and counts one, the
third starting the 60 s lockout; while it runs every code is LOCKED and nothing changes; at its end the count is 0.
LEVEL DROP sets level 0. A step of the clock moves uptime on to its own instant, never back (log entry 1). -/
def Obligations.CodesOpenLevels : Prop :=
  ∀ s : State,
    (∀ code : Digits, Listening s →
      (code.length ≠ 6 ∧ code.length ≠ 8 ∨ ∃ b ∈ code, b.toNat < 0x30 ∨ 0x39 < b.toNat) →
      exec (.codeEnter (.fields code)) s = .next (replied s .cent .badArg [] s)) ∧
    (∀ code : Digits, Listening s → (code.length = 6 ∨ code.length = 8) →
      (∀ b ∈ code, 0x30 ≤ b.toNat ∧ b.toNat ≤ 0x39) →
      (∀ i, s.store.lockoutEnd = some i →
        ∃ left, exec (.codeEnter (.fields code)) s = .next (replied s .cent .locked [.num 60 left] s)) ∧
      (s.store.lockoutEnd = none →
        (code.length = 6 → code = s.store.working.accessCode →
          exec (.codeEnter (.fields code)) s = .next (replied s .cent .ok [.num 2 1]
            { s with store := { s.store with level := 1, failures := 0 } })) ∧
        (code.length = 8 → code = s.store.working.calibrationCode →
          exec (.codeEnter (.fields code)) s = .next (replied s .cent .ok [.num 2 2]
            { s with store := { s.store with level := 2, failures := 0 } })) ∧
        (code.length = 6 ∧ code ≠ s.store.working.accessCode ∨
          code.length = 8 ∧ code ≠ s.store.working.calibrationCode →
          exec (.codeEnter (.fields code)) s = .next (replied s .cent .refused [] { s with
            store := { s.store with
              failures := s.store.failures + 1
              lockoutEnd := if 3 ≤ s.store.failures + 1 then some (s.now + 60000) else none } })))) ∧
    (∀ i, s.powered = true → s.store.lockoutEnd = some i →
      exec .lockoutEnd s = .next { s with
        now := max s.now i, store := { s.store with failures := 0, lockoutEnd := none } }) ∧
    (s.store.lockoutEnd = none → exec .lockoutEnd s = .next s) ∧
    (Listening s → exec (.levelDrop (.fields ())) s =
      .next (replied s .ldrp .ok [] { s with store := { s.store with level := 0 } }))

/-! ### The host link -/

/-- A FETCH EVENT removes the most urgent pending kind and replies with it and the kinds that remain, or with NONE; it
changes no state of any block, and the last kind removed releases ATTN. The requests that read the blocks' state
remove no event. -/
def Obligations.FetchEventRemovesTheMostUrgent : Prop :=
  ∀ s : State, Listening s →
    (s.link.events = [] →
      exec (.fetchEvent (.fields ())) s = .next (replied s .fevt .ok [.name 0, .count 0] s)) ∧
    (∀ k rest, s.link.events = k :: rest → EventsOrdered s →
      let t := replied s .fevt .ok
        (.name k.urgency :: .count rest.length :: rest.map fun j => .name j.urgency)
        { s with link := { s.link with events := rest } }
      (∀ j ∈ rest, k.urgency < j.urgency) ∧
      exec (.fetchEvent (.fields ())) s = .next t ∧ (attn t = true ↔ rest ≠ [])) ∧
    (∀ (n : Nat) (a : ZoneReadArgs) (r : TripSelector) (q : SettingSelector) (t : State), ∀ c ∈
      [Instr.linkStatus (.fields ()), .uplinkStatus (.fields ()), .zoneStatus (.fields ()),
        .zoneRead (.fields a), .panelStatus (.fields n), .boardRead (.fields ()), .meterStatus (.fields ()),
        .tripRead (.fields r), .totalsRead (.fields ()), .inboxRead (.fields n),
        .emergencyStatus (.fields ()), .settingRead (.fields q), .identify (.fields ())],
      exec c s = .next t → t.link.events = s.link.events)

/-- Frames, taken as whole commands or as bytes in pieces (log entry 11). RESTART empties the event set, drops the
level and marks the receiver for reset, which takes place when its reply is sent or, while an early frame is then
followed, at that frame's end. An unrecognised tag is answered UNKNOWN with that tag. A whole frame with a wrong
check, with a broken byte or with a wrong length is answered BAD_FRAME with "????"; a frame that comes while a reply
is owed is an early frame, counted and discarded. A good frame whose bytes come in two pieces is followed, and is
taken when its second check byte comes, as the request it spells, in the state that it then meets, whatever a remote
reset or another step has made of it meanwhile. In BODY a byte is collected and the gap starts afresh. A gap of more
than 20 ms abandons a frame at its 21st millisecond, and a later byte finds it dropped (log entry 35). A reply is sent
when its bytes, ten bits each at 115,200 bit/s, have gone, its earliest end (log entry 14); then none is owed. A step
of the clock moves uptime on to its own instant, never back (log entry 1). -/
def Obligations.FramesAndReplies : Prop :=
  ∀ s : State,
    (Listening s →
      exec (.restart (.fields ())) s = .next (replied s .rstr .ok [] { s with
        store := { s.store with level := 0 }
        link := { s.link with events := [], rx := { s.link.rx with resetMarked := true } } })) ∧
    (∀ t0 t1 t2 t3, Listening s → recognisedTag t0 t1 t2 t3 = false →
      exec (.unknownRequest t0 t1 t2 t3) s = .next (replied s (.other t0 t1 t2 t3) .unknown [] s)) ∧
    (∀ n : Byte, Listening s → n.toNat < 4 ∨ 244 < n.toNat →
      exec (.badFrame [⟨0x5A#8, false⟩, ⟨n, false⟩]) s = .next (replied s .bad .badFrame [] { s with
        link := { s.link with rx := { resetRx with lastByte := s.now } } })) ∧
    (∀ (body : List Byte) (x y : Byte) (rest : List LineByte), 4 ≤ body.length → body.length ≤ 244 →
      rest.map (·.value) = BitVec.ofNat 8 body.length :: (body ++ [x, y]) →
      (Listening s → (∃ b ∈ rest, b.broken = true) ∨ [x, y] ≠ checkBytes (BitVec.ofNat 8 body.length :: body) →
        exec (.badFrame (⟨0x5A#8, false⟩ :: rest)) s = .next (replied s .bad .badFrame [] { s with
          link := { s.link with rx := { resetRx with lastByte := s.now } } })) ∧
      (s.powered = true → s.link.rx.phase = .hunt → s.link.owed ≠ none →
        exec (.earlyFrame (⟨0x5A#8, false⟩ :: rest)) s = .next (raise .link { s with
          link := { s.link with
            earlyCount := min 65535 (s.link.earlyCount + 1)
            rx := { resetRx with lastByte := s.now, resetMarked := s.link.rx.resetMarked } } }))) ∧
    (∀ (bytes front back : List Byte) (c : Instr), decodeFrame bytes = some c → bytes = front ++ back →
      back ≠ [] → Listening s →
      (front = [] → exec (.badFrame (back.map fun b => ⟨b, false⟩)) s = exec c { s with
        link := { s.link with rx := { resetRx with lastByte := s.now } } }) ∧
      (front ≠ [] → ∃ r : FrameReceiver, r.phase ≠ .hunt ∧ r.early = false ∧ r.lastByte = s.now ∧
        exec (.badFrame (front.map fun b => ⟨b, false⟩)) s = .next { s with link := { s.link with rx := r } } ∧
        ∀ u : State, u.powered = true → u.link.rx = r → u.link.owed = none → u.now ≤ s.now + 20 →
          exec (.badFrame (back.map fun b => ⟨b, false⟩)) u = exec c { u with
            link := { u.link with rx := { resetRx with lastByte := u.now } } })) ∧
    (∀ b : LineByte, s.powered = true → s.link.rx.phase = .body → s.now ≤ s.link.rx.lastByte + 20 →
      exec (.badFrame [b]) s = .next { s with link := { s.link with rx := { s.link.rx with
        body := s.link.rx.body ++ [b.value], broken := s.link.rx.broken || b.broken, lastByte := s.now
        phase := if s.link.rx.length ≤ s.link.rx.body.length + 1 then .check else .body } } }) ∧
    (∀ bytes, bytes ≠ [] → s.powered = true → s.link.rx.phase ≠ .hunt → s.link.rx.lastByte + 20 < s.now →
      let dropped : State := { s with link := { s.link with rx := { resetRx with
        lastByte := s.link.rx.lastByte
        resetMarked := s.link.rx.resetMarked && s.link.owed.isSome } } }
      exec (.badFrame bytes) s = exec (.badFrame bytes) dropped ∧
      (s.link.owed ≠ none → exec (.earlyFrame bytes) s = exec (.earlyFrame bytes) dropped) ∧
      (s.link.owed = none → exec (.earlyFrame bytes) s = .next s)) ∧
    (∀ n : Byte, s.powered = true → s.link.rx.phase = .hunt → s.link.owed ≠ none →
      n.toNat < 4 ∨ 244 < n.toNat →
      exec (.earlyFrame [⟨0x5A#8, false⟩, ⟨n, false⟩]) s = .next (raise .link { s with
        link := { s.link with
          earlyCount := min 65535 (s.link.earlyCount + 1)
          rx := { resetRx with lastByte := s.now, resetMarked := s.link.rx.resetMarked } } })) ∧
    (s.powered = true → s.link.rx.phase ≠ .hunt →
      exec .frameAbandon s = .next { s with
        now := max s.now (s.link.rx.lastByte + 21)
        link := { s.link with rx := { resetRx with
          lastByte := s.link.rx.lastByte
          resetMarked := s.link.rx.resetMarked && s.link.owed.isSome } } }) ∧
    (s.link.rx.phase = .hunt → exec .frameAbandon s = .next s) ∧
    (∀ o, s.powered = true → s.link.owed = some o →
      let bits := (replyBytes o.reply).length * 10
      let now := max s.now (o.since + (bits * 1000 + 115199) / 115200)
      (s.link.rx.resetMarked = false →
        exec .replyComplete s = .next { s with now := now, link := { s.link with owed := none } }) ∧
      (s.link.rx.resetMarked = true → s.link.rx.phase = .hunt →
        exec .replyComplete s = .next { s with
          now := now
          link := { s.link with
            owed := none, rx := { resetRx with lastByte := s.link.rx.lastByte } } }) ∧
      (s.link.rx.resetMarked = true → s.link.rx.phase ≠ .hunt → s.link.rx.early = true →
        let sent : State := { s with now := now, link := { s.link with owed := none } }
        exec .replyComplete s = .next sent ∧
        (exec .frameAbandon sent = .next { sent with
          now := max now (s.link.rx.lastByte + 21)
          link := { sent.link with rx := { resetRx with lastByte := s.link.rx.lastByte } } }) ∧
        (∀ b : LineByte, now ≤ s.link.rx.lastByte + 20 →
          s.link.rx.phase = .check ∧ s.link.rx.check.length = 1 ∨
            s.link.rx.phase = .length ∧ (b.value.toNat < 4 ∨ 244 < b.value.toNat) →
          exec (.earlyFrame [b]) sent = .next { sent with
            link := { sent.link with rx := { resetRx with lastByte := now } } }))) ∧
    (s.link.owed = none → exec .replyComplete s = .next s)

/-! ### Invariants -/

/-- The invariants hold of the part as shipped at its first power-on, which is the state that a power-on makes: the
nonvolatile memory as shipped and the pins' levels at reset are the model's choice (log entries 6 and 7). -/
def Obligations.InvariantsHoldAtReset : Prop :=
  EventsOrdered State.reset ∧ LevelSound State.reset ∧ VoiceSound State.reset ∧ SparseSound State.reset ∧
    SyncSound State.reset ∧ BoardSound State.reset ∧ FareSound State.reset ∧
    QueueSound State.reset ∧ InboxSound State.reset ∧ LogSound State.reset ∧
    exec .powerOn State.reset = .next State.reset

/-- Every step keeps four standing rules, each by itself: the pending-event set in order of urgency, each kind once;
the access level 0 to 2 with the failure count at 3 exactly while the lockout runs; the voice handshake apart from the
transmitter; SPARSE watch free of uplink entries and emergencies. -/
def Obligations.EveryStepKeepsTheStandingRules : Prop :=
  ∀ s t : State, step s = .next t →
    (EventsOrdered s → EventsOrdered t) ∧ (LevelSound s → LevelSound t) ∧
      (VoiceSound s → VoiceSound t) ∧ (SparseSound s → SparseSound t)

/-- Every step keeps the receiver's sync tracking sound and the uplink queue in order: items distinct, every cap kept,
entries by rank. -/
def Obligations.EveryStepKeepsSyncAndQueue : Prop :=
  ∀ s t : State, step s = .next t → (SyncSound s → SyncSound t) ∧ (QueueSound s → QueueSound t)

/-- Every step keeps the offer board, at most eight entries, distinct numbers, at most one open claim, and the inbox,
at most sixteen records, distinct numbers, a RECEIPT entry for a QUEUED record alone. -/
def Obligations.EveryStepKeepsBoardAndInbox : Prop :=
  ∀ s t : State, step s = .next t → (BoardSound s → BoardSound t) ∧ (InboxSound s → InboxSound t)

/-- Every step keeps the fare at most 999,999, the accumulator below one step and the metrology in its ranges; and
every step but a power-on, which loads it from the nonvolatile memory, keeps the trip log: at most 32 records at
places of their own, with consecutive numbers. -/
def Obligations.EveryStepKeepsFareAndLog : Prop :=
  ∀ s t : State, step s = .next t →
    (FareSound s → FareSound t) ∧ ((∀ rest, s.pending ≠ .powerOn :: rest) → LogSound s → LogSound t)
end

