-- ==== Sys2Proof/Laws/State.lean ====
section
/-! SUPPORT. Lemmas about State: what it is for a step to leave a part of the state as it was, one lemma per
field for the updates of each block, and frames that folds over lists keep. -/

namespace Sys2Proof.Machine

/-- Supply, uptime, nonvolatile memory and the model's own fields are the same. -/
abbrev SameCore (s t : State) : Prop :=
  t.powered = s.powered ∧ t.now = s.now ∧ t.freeIndex = s.freeIndex ∧ t.pending = s.pending
    ∧ t.nonvolatile = s.nonvolatile

/-- Locator, panel and settings store are the same. -/
abbrev SameInputs (s t : State) : Prop :=
  t.locator = s.locator ∧ t.panel = s.panel ∧ t.store = s.store

/-- Meter, accounts and store writer are the same. -/
abbrev SameBooks (s t : State) : Prop :=
  t.meter = s.meter ∧ t.accounts = s.accounts ∧ t.writer = s.writer

/-- Receiver and scheduler are the same. -/
abbrev SameRadio (s t : State) : Prop := t.receiver = s.receiver ∧ t.scheduler = s.scheduler

/-- Board, inbox and emergency are the same. -/
abbrev SameTalk (s t : State) : Prop :=
  t.board = s.board ∧ t.inbox = s.inbox ∧ t.emergency = s.emergency

/-- A reading that each turn of a fold keeps is kept by the fold. -/
theorem foldl_frame {α β : Type} (f : State → β) (g : State → α → State)
    (h : ∀ s a, f (g s a) = f s) (l : List α) (s : State) : f (l.foldl g s) = f s := by
  induction l generalizing s with
  | nil => rfl
  | cons a l ih => exact (ih (g s a)).trans (h s a)

/-- A property that each turn of a fold keeps is kept by the fold. -/
theorem foldl_keeps {α : Type} (P : State → Prop) (g : State → α → State)
    (h : ∀ s a, P s → P (g s a)) (l : List α) (s : State) (hs : P s) : P (l.foldl g s) := by
  induction l generalizing s with
  | nil => exact hs
  | cons a l ih => exact ih (g s a) (h s a hs)

end Sys2Proof.Machine
end

