-- ==== Sys2Proof/Laws/OpsFrames.lean ====
section
/-! SUPPORT. What each shared operation of Machine/Flags.lean and Machine/Ops.lean leaves as it was. -/

namespace Sys2Proof.Machine

@[simp] theorem raise_frame (k : EventKind) (s : State) :
    SameCore s (raise k s) ∧ SameInputs s (raise k s) ∧ SameBooks s (raise k s) ∧
    SameRadio s (raise k s) ∧ SameTalk s (raise k s) := by and_intros <;> rfl

@[simp] theorem advanceTo_frame (t : Nat) (s : State) :
    SameInputs s (advanceTo t s) ∧ SameBooks s (advanceTo t s) ∧ SameRadio s (advanceTo t s) ∧
    SameTalk s (advanceTo t s) ∧ (advanceTo t s).powered = s.powered ∧
    (advanceTo t s).nonvolatile = s.nonvolatile ∧ (advanceTo t s).link = s.link ∧
    (advanceTo t s).freeIndex = s.freeIndex ∧ (advanceTo t s).pending = s.pending := by and_intros <;> rfl

@[simp] theorem answer_frame (tag : Tag) (result : Result) (content : List Field) (s : State) :
    SameCore s (answer tag result content s) ∧ SameInputs s (answer tag result content s) ∧
    SameBooks s (answer tag result content s) ∧ SameRadio s (answer tag result content s) ∧
    SameTalk s (answer tag result content s) := by and_intros <;> rfl

@[simp] theorem beginEarlyFrame_frame (s : State) :
    SameCore s (beginEarlyFrame s) ∧ SameInputs s (beginEarlyFrame s) ∧ SameBooks s (beginEarlyFrame s) ∧
    SameRadio s (beginEarlyFrame s) ∧ SameTalk s (beginEarlyFrame s) := by and_intros <;> rfl

@[simp] theorem updateRx_frame (f : FrameReceiver → FrameReceiver) (s : State) :
    SameCore s (updateRx f s) ∧ SameInputs s (updateRx f s) ∧ SameBooks s (updateRx f s) ∧
    SameRadio s (updateRx f s) ∧ SameTalk s (updateRx f s) := by and_intros <;> rfl

@[simp] theorem hunt_frame (s : State) :
    SameCore s (hunt s) ∧ SameInputs s (hunt s) ∧ SameBooks s (hunt s) ∧ SameRadio s (hunt s) ∧
    SameTalk s (hunt s) := by and_intros <;> rfl

@[simp] theorem dropStale_frame (s : State) :
    SameCore s (dropStale s) ∧ SameInputs s (dropStale s) ∧ SameBooks s (dropStale s) ∧
    SameRadio s (dropStale s) ∧ SameTalk s (dropStale s) := by
  unfold dropStale; split <;> simp [SameCore, SameInputs, SameBooks, SameRadio, SameTalk]

@[simp] theorem returnToFull_frame (s : State) :
    SameCore s (returnToFull s) ∧ SameInputs s (returnToFull s) ∧ SameBooks s (returnToFull s) ∧
    SameTalk s (returnToFull s) ∧ (returnToFull s).scheduler = s.scheduler := by
  unfold returnToFull; (repeat' split) <;> simp [SameCore, SameInputs, SameBooks, SameTalk]

@[simp] theorem placeEntry_frame (kind : EntryKind) (key : Nat) (content : EntryContent) (deadline : Option Nat) (s : State) :
    SameCore s (placeEntry kind key content deadline s) ∧
    SameInputs s (placeEntry kind key content deadline s) ∧
    SameBooks s (placeEntry kind key content deadline s) ∧
    SameTalk s (placeEntry kind key content deadline s) := by
  unfold placeEntry; (repeat' split) <;> simp [SameCore, SameInputs, SameBooks, SameTalk]

@[simp] theorem updateEntry_frame (kind : EntryKind) (key : Nat) (f : Entry → Entry) (s : State) :
    SameCore s (updateEntry kind key f s) ∧ SameInputs s (updateEntry kind key f s) ∧
    SameBooks s (updateEntry kind key f s) ∧ SameTalk s (updateEntry kind key f s) ∧
    (updateEntry kind key f s).receiver = s.receiver ∧ (updateEntry kind key f s).link = s.link := by and_intros <;> rfl

@[simp] theorem dropEntry_frame (kind : EntryKind) (key : Nat) (s : State) :
    SameCore s (dropEntry kind key s) ∧ SameInputs s (dropEntry kind key s) ∧
    SameBooks s (dropEntry kind key s) ∧ SameTalk s (dropEntry kind key s) ∧
    (dropEntry kind key s).receiver = s.receiver ∧ (dropEntry kind key s).link = s.link := by and_intros <;> rfl

@[simp] theorem generateStatus_frame (s : State) :
    SameCore s (generateStatus s) ∧ SameInputs s (generateStatus s) ∧ SameBooks s (generateStatus s) ∧
    SameTalk s (generateStatus s) := by
  unfold generateStatus; (repeat' split) <;> simp [SameCore, SameInputs, SameBooks, SameTalk]

@[simp] theorem setVoice_frame (v : Voice) (s : State) :
    SameCore s (setVoice v s) ∧ SameInputs s (setVoice v s) ∧ SameBooks s (setVoice v s) ∧
    SameTalk s (setVoice v s) ∧ (setVoice v s).scheduler = s.scheduler ∧ (setVoice v s).link = s.link := by and_intros <;> rfl

@[simp] theorem grantVoice_frame (s : State) :
    SameCore s (grantVoice s) ∧ SameInputs s (grantVoice s) ∧ SameBooks s (grantVoice s) ∧
    SameTalk s (grantVoice s) ∧ (grantVoice s).scheduler = s.scheduler ∧ (grantVoice s).link = s.link := by and_intros <;> rfl

@[simp] theorem voiceAtActive_frame (s : State) :
    SameCore s (voiceAtActive s) ∧ SameInputs s (voiceAtActive s) ∧ SameBooks s (voiceAtActive s) ∧
    SameTalk s (voiceAtActive s) ∧ (voiceAtActive s).scheduler = s.scheduler ∧
    (voiceAtActive s).link = s.link := by
  unfold voiceAtActive; (repeat' split) <;> simp [SameCore, SameInputs, SameBooks, SameTalk]

@[simp] theorem voiceAfterActive_frame (s : State) :
    SameCore s (voiceAfterActive s) ∧ SameInputs s (voiceAfterActive s) ∧
    SameBooks s (voiceAfterActive s) ∧ SameTalk s (voiceAfterActive s) ∧
    (voiceAfterActive s).scheduler = s.scheduler ∧ (voiceAfterActive s).link = s.link := by
  unfold voiceAfterActive; (repeat' split) <;> simp [SameCore, SameInputs, SameBooks, SameTalk]

@[simp] theorem setMark_frame (k : MarkKind) (s : State) :
    SameCore s (setMark k s) ∧ SameInputs s (setMark k s) ∧ SameRadio s (setMark k s) ∧
    (setMark k s).board = s.board ∧ (setMark k s).meter = s.meter ∧ (setMark k s).accounts = s.accounts ∧
    (setMark k s).inbox = s.inbox ∧ (setMark k s).link = s.link := by and_intros <;> rfl

@[simp] theorem markCheckpoint_frame (s : State) :
    SameCore s (markCheckpoint s) ∧ SameInputs s (markCheckpoint s) ∧ SameRadio s (markCheckpoint s) ∧
    SameTalk s (markCheckpoint s) ∧ (markCheckpoint s).meter = s.meter ∧
    (markCheckpoint s).accounts = s.accounts ∧ (markCheckpoint s).link = s.link := by and_intros <;> rfl

@[simp] theorem updateTotals_frame (f : Totals → Totals) (s : State) :
    SameCore s (updateTotals f s) ∧ SameInputs s (updateTotals f s) ∧ SameRadio s (updateTotals f s) ∧
    SameTalk s (updateTotals f s) ∧ (updateTotals f s).meter = s.meter ∧
    (updateTotals f s).writer = s.writer ∧ (updateTotals f s).link = s.link := by and_intros <;> rfl

@[simp] theorem markTotals_frame (s : State) :
    SameCore s (markTotals s) ∧ SameInputs s (markTotals s) ∧ SameRadio s (markTotals s) ∧
    SameTalk s (markTotals s) ∧ (markTotals s).meter = s.meter ∧ (markTotals s).accounts = s.accounts ∧
    (markTotals s).link = s.link := by
  unfold markTotals; (repeat' split) <;> simp [SameCore, SameInputs, SameRadio, SameTalk]

@[simp] theorem markRecord_frame (position : Nat) (s : State) :
    SameCore s (markRecord position s) ∧ SameInputs s (markRecord position s) ∧
    SameRadio s (markRecord position s) ∧ SameTalk s (markRecord position s) ∧
    (markRecord position s).meter = s.meter ∧ (markRecord position s).accounts = s.accounts ∧
    (markRecord position s).link = s.link := by and_intros <;> rfl

@[simp] theorem markReport_frame (position : Nat) (s : State) :
    SameCore s (markReport position s) ∧ SameInputs s (markReport position s) ∧
    SameRadio s (markReport position s) ∧ SameTalk s (markReport position s) ∧
    (markReport position s).meter = s.meter ∧ (markReport position s).accounts = s.accounts ∧
    (markReport position s).link = s.link := by and_intros <;> rfl

@[simp] theorem addResult_frame (ticket : Nat) (kind : EntryKind) (delivered : Bool) (s : State) :
    SameCore s (addResult ticket kind delivered s) ∧ SameInputs s (addResult ticket kind delivered s) ∧
    SameBooks s (addResult ticket kind delivered s) ∧ SameTalk s (addResult ticket kind delivered s) ∧
    (addResult ticket kind delivered s).receiver = s.receiver := by and_intros <;> rfl

end Sys2Proof.Machine
end

