-- ==== Sys2Proof/Laws/BoardFrames.lean ====
section
/-! SUPPORT. What each operation of the offer board leaves as it was. -/

namespace Sys2Proof.Machine

@[simp] theorem updateOffer_frame (n : Nat) (f : Offer → Offer) (s : State) :
    SameCore s (updateOffer n f s) ∧ SameInputs s (updateOffer n f s) ∧ SameBooks s (updateOffer n f s) ∧
    SameRadio s (updateOffer n f s) ∧ (updateOffer n f s).inbox = s.inbox ∧
    (updateOffer n f s).emergency = s.emergency ∧ (updateOffer n f s).link = s.link := by and_intros <;> rfl

@[simp] theorem unfocus_frame (n : Nat) (s : State) :
    SameCore s (unfocus n s) ∧ SameInputs s (unfocus n s) ∧ SameBooks s (unfocus n s) ∧
    SameRadio s (unfocus n s) ∧ (unfocus n s).inbox = s.inbox ∧ (unfocus n s).emergency = s.emergency ∧
    (unfocus n s).link = s.link := by and_intros <;> rfl

@[simp] theorem closeOnly_frame (n : Nat) (outcome : OfferOutcome) (s : State) :
    SameCore s (closeOnly n outcome s) ∧ SameInputs s (closeOnly n outcome s) ∧
    SameBooks s (closeOnly n outcome s) ∧ SameRadio s (closeOnly n outcome s) ∧
    (closeOnly n outcome s).inbox = s.inbox ∧ (closeOnly n outcome s).emergency = s.emergency := by and_intros <;> rfl

@[simp] theorem refilter_frame (s : State) :
    SameCore s (refilter s) ∧ SameInputs s (refilter s) ∧ SameBooks s (refilter s) ∧
    SameRadio s (refilter s) ∧ (refilter s).inbox = s.inbox ∧ (refilter s).emergency = s.emergency := by
  unfold refilter
  exact foldl_keeps (fun t => SameCore s t ∧ SameInputs s t ∧ SameBooks s t ∧ SameRadio s t ∧ t.inbox = s.inbox ∧ t.emergency = s.emergency)
    _ (by intros; simp_all [SameCore, SameInputs, SameBooks, SameRadio]) _ _ (by simp [SameCore, SameInputs, SameBooks, SameRadio])

@[simp] theorem closeOffer_frame (n : Nat) (outcome : OfferOutcome) (s : State) :
    SameCore s (closeOffer n outcome s) ∧ SameInputs s (closeOffer n outcome s) ∧
    SameBooks s (closeOffer n outcome s) ∧ (closeOffer n outcome s).inbox = s.inbox ∧
    (closeOffer n outcome s).emergency = s.emergency := by
  unfold closeOffer; (repeat' split) <;> simp [SameCore, SameInputs, SameBooks]

@[simp] theorem presentOffer_frame (new : Offer) (s : State) :
    SameCore s (presentOffer new s) ∧ SameInputs s (presentOffer new s) ∧
    SameBooks s (presentOffer new s) ∧ SameRadio s (presentOffer new s) ∧
    (presentOffer new s).inbox = s.inbox ∧ (presentOffer new s).emergency = s.emergency := by and_intros <;> rfl

@[simp] theorem removeOffer_frame (n : Nat) (s : State) :
    SameCore s (removeOffer n s) ∧ SameInputs s (removeOffer n s) ∧ SameBooks s (removeOffer n s) ∧
    SameRadio s (removeOffer n s) ∧ (removeOffer n s).inbox = s.inbox ∧
    (removeOffer n s).emergency = s.emergency ∧ (removeOffer n s).link = s.link := by and_intros <;> rfl

@[simp] theorem countOverflow_frame (s : State) :
    SameCore s (countOverflow s) ∧ SameInputs s (countOverflow s) ∧ SameBooks s (countOverflow s) ∧
    SameRadio s (countOverflow s) ∧ (countOverflow s).inbox = s.inbox ∧
    (countOverflow s).emergency = s.emergency ∧ (countOverflow s).link = s.link := by and_intros <;> rfl

@[simp] theorem placeOffer_frame (new : Offer) (s : State) :
    SameCore s (placeOffer new s) ∧ SameInputs s (placeOffer new s) ∧ SameBooks s (placeOffer new s) ∧
    SameRadio s (placeOffer new s) ∧ (placeOffer new s).inbox = s.inbox ∧
    (placeOffer new s).emergency = s.emergency := by
  unfold placeOffer; (repeat' split) <;> simp [SameCore, SameInputs, SameBooks, SameRadio]

@[simp] theorem receiveOffer_frame (target : Target) (cls : OfferClass) (nextJob : Bool) (o : OfferFields) (s : State) :
    SameCore s (receiveOffer target cls nextJob o s) ∧
    SameInputs s (receiveOffer target cls nextJob o s) ∧
    SameBooks s (receiveOffer target cls nextJob o s) ∧
    SameRadio s (receiveOffer target cls nextJob o s) ∧
    (receiveOffer target cls nextJob o s).inbox = s.inbox ∧
    (receiveOffer target cls nextJob o s).emergency = s.emergency := by
  unfold receiveOffer; dsimp only; (repeat' split) <;> simp [SameCore, SameInputs, SameBooks, SameRadio]

@[simp] theorem claimEnds_frame (n : Nat) (outcome : OfferOutcome) (s : State) :
    SameCore s (claimEnds n outcome s) ∧ SameInputs s (claimEnds n outcome s) ∧
    SameBooks s (claimEnds n outcome s) ∧ (claimEnds n outcome s).inbox = s.inbox ∧
    (claimEnds n outcome s).emergency = s.emergency := by
  unfold claimEnds; (repeat' split) <;> simp [SameCore, SameInputs, SameBooks]

@[simp] theorem expireClaim_frame (n : Nat) (s : State) :
    SameCore s (expireClaim n s) ∧ SameInputs s (expireClaim n s) ∧ SameBooks s (expireClaim n s) ∧
    (expireClaim n s).inbox = s.inbox ∧ (expireClaim n s).emergency = s.emergency := by
  simp [expireClaim, SameCore, SameInputs, SameBooks]

@[simp] theorem takeClaim_frame (o : Offer) (origin : ClaimOrigin) (s : State) :
    SameCore s (takeClaim o origin s) ∧ SameInputs s (takeClaim o origin s) ∧
    SameBooks s (takeClaim o origin s) ∧ (takeClaim o origin s).inbox = s.inbox ∧
    (takeClaim o origin s).emergency = s.emergency := by
  unfold takeClaim; dsimp only; split <;> simp [SameCore, SameInputs, SameBooks]

@[simp] theorem acceptPress_frame (s : State) :
    SameCore s (acceptPress s).2 ∧ SameInputs s (acceptPress s).2 ∧ SameBooks s (acceptPress s).2 ∧
    (acceptPress s).2.inbox = s.inbox ∧ (acceptPress s).2.emergency = s.emergency := by
  unfold acceptPress; (repeat' split) <;> simp [SameCore, SameInputs, SameBooks]

@[simp] theorem claimHeard_frame (n : Nat) (s : State) :
    SameCore s (claimHeard n s) ∧ SameInputs s (claimHeard n s) ∧ SameBooks s (claimHeard n s) ∧
    (claimHeard n s).inbox = s.inbox ∧ (claimHeard n s).emergency = s.emergency := by
  unfold claimHeard; dsimp only; (repeat' split) <;> simp [SameCore, SameInputs, SameBooks]

@[simp] theorem autoDecline_frame (n : Nat) (s : State) :
    SameCore s (autoDecline n s) ∧ SameInputs s (autoDecline n s) ∧ SameBooks s (autoDecline n s) ∧
    SameTalk s (autoDecline n s) := by simp [autoDecline, SameCore, SameInputs, SameBooks, SameTalk]

@[simp] theorem dropClaim_frame (o : Offer) (s : State) :
    SameCore s (dropClaim o s) ∧ SameInputs s (dropClaim o s) ∧ SameBooks s (dropClaim o s) ∧
    SameTalk s (dropClaim o s) ∧ (dropClaim o s).receiver = s.receiver ∧ (dropClaim o s).link = s.link := by
  unfold dropClaim; (repeat' split) <;> simp [SameCore, SameInputs, SameBooks, SameTalk]

@[simp] theorem receiveAward_frame (n : Nat) (s : State) :
    SameCore s (receiveAward n s) ∧ SameInputs s (receiveAward n s) ∧ SameBooks s (receiveAward n s) ∧
    (receiveAward n s).inbox = s.inbox ∧ (receiveAward n s).emergency = s.emergency := by
  unfold receiveAward; (repeat' split) <;> simp [SameCore, SameInputs, SameBooks]

@[simp] theorem receiveLost_frame (n : Nat) (s : State) :
    SameCore s (receiveLost n s) ∧ SameInputs s (receiveLost n s) ∧ SameBooks s (receiveLost n s) ∧
    (receiveLost n s).inbox = s.inbox ∧ (receiveLost n s).emergency = s.emergency := by
  unfold receiveLost; (repeat' split) <;> simp [SameCore, SameInputs, SameBooks]

@[simp] theorem receiveWithdraw_frame (n : Nat) (s : State) :
    SameCore s (receiveWithdraw n s) ∧ SameInputs s (receiveWithdraw n s) ∧
    SameBooks s (receiveWithdraw n s) ∧ (receiveWithdraw n s).inbox = s.inbox ∧
    (receiveWithdraw n s).emergency = s.emergency := by
  unfold receiveWithdraw; (repeat' split) <;> simp [SameCore, SameInputs, SameBooks]

@[simp] theorem suppressOne_frame (o : Offer) (s : State) :
    SameCore s (suppressOne o s) ∧ SameInputs s (suppressOne o s) ∧ SameBooks s (suppressOne o s) ∧
    (suppressOne o s).receiver = s.receiver ∧ (suppressOne o s).inbox = s.inbox ∧
    (suppressOne o s).emergency = s.emergency := by
  unfold suppressOne; (repeat' split) <;> simp [SameCore, SameInputs, SameBooks]

@[simp] theorem suppressBoard_frame (s : State) :
    SameCore s (suppressBoard s) ∧ SameInputs s (suppressBoard s) ∧ SameBooks s (suppressBoard s) ∧
    (suppressBoard s).receiver = s.receiver ∧ (suppressBoard s).inbox = s.inbox ∧
    (suppressBoard s).emergency = s.emergency := by
  unfold suppressBoard
  exact foldl_keeps (fun t => SameCore s t ∧ SameInputs s t ∧ SameBooks s t ∧ t.receiver = s.receiver ∧ t.inbox = s.inbox ∧ t.emergency = s.emergency)
    _ (by intros; simp_all [SameCore, SameInputs, SameBooks]) _ _ (by simp [SameCore, SameInputs, SameBooks])

@[simp] theorem hireAssignment_frame (s : State) :
    SameCore s (hireAssignment s) ∧ SameInputs s (hireAssignment s) ∧ SameBooks s (hireAssignment s) ∧
    (hireAssignment s).inbox = s.inbox ∧ (hireAssignment s).emergency = s.emergency := by
  unfold hireAssignment; (repeat' split) <;> simp [SameCore, SameInputs, SameBooks]

@[simp] theorem serveOfferFocus_frame (n : Nat) (s : State) :
    SameCore s (serveOfferFocus n s) ∧ SameInputs s (serveOfferFocus n s) ∧
    SameBooks s (serveOfferFocus n s) ∧ SameRadio s (serveOfferFocus n s) ∧
    (serveOfferFocus n s).inbox = s.inbox ∧ (serveOfferFocus n s).emergency = s.emergency := by
  unfold serveOfferFocus; (repeat' split) <;> simp [SameCore, SameInputs, SameBooks, SameRadio]

@[simp] theorem serveOfferTake_frame (n : Nat) (s : State) :
    SameCore s (serveOfferTake n s) ∧ SameInputs s (serveOfferTake n s) ∧
    SameBooks s (serveOfferTake n s) ∧ (serveOfferTake n s).inbox = s.inbox ∧
    (serveOfferTake n s).emergency = s.emergency := by
  unfold serveOfferTake; (repeat' split) <;> simp [SameCore, SameInputs, SameBooks]

@[simp] theorem serveOfferDismiss_frame (n : Nat) (s : State) :
    SameCore s (serveOfferDismiss n s) ∧ SameInputs s (serveOfferDismiss n s) ∧
    SameBooks s (serveOfferDismiss n s) ∧ (serveOfferDismiss n s).inbox = s.inbox ∧
    (serveOfferDismiss n s).emergency = s.emergency := by
  unfold serveOfferDismiss; (repeat' split) <;> simp [SameCore, SameInputs, SameBooks]

@[simp] theorem serveAssignmentAbandon_frame (s : State) :
    SameCore s (serveAssignmentAbandon s) ∧ SameInputs s (serveAssignmentAbandon s) ∧
    SameBooks s (serveAssignmentAbandon s) ∧ (serveAssignmentAbandon s).inbox = s.inbox ∧
    (serveAssignmentAbandon s).emergency = s.emergency := by
  unfold serveAssignmentAbandon; (repeat' split) <;> simp [SameCore, SameInputs, SameBooks]

@[simp] theorem serveBoardRead_frame (s : State) :
    SameCore s (serveBoardRead s) ∧ SameInputs s (serveBoardRead s) ∧ SameBooks s (serveBoardRead s) ∧
    SameRadio s (serveBoardRead s) ∧ (serveBoardRead s).inbox = s.inbox ∧
    (serveBoardRead s).emergency = s.emergency := by and_intros <;> rfl

end Sys2Proof.Machine
end

