-- ==== Sys2Proof/Laws/AccountsFrames.lean ====
section
/-! SUPPORT. What each operation of the trip log and totals unit leaves as it was. -/

namespace Sys2Proof.Machine

@[simp] theorem overwriteOldest_frame (e : LogEntry) (s : State) :
    SameCore s (overwriteOldest e s) ∧ SameInputs s (overwriteOldest e s) ∧
    SameTalk s (overwriteOldest e s) ∧ (overwriteOldest e s).receiver = s.receiver ∧
    (overwriteOldest e s).meter = s.meter ∧ (overwriteOldest e s).writer = s.writer ∧
    (overwriteOldest e s).link = s.link := by
  unfold overwriteOldest; dsimp only; (repeat' split) <;> simp [SameCore, SameInputs, SameTalk]

@[simp] theorem appendRecord_frame (r : TripRecord) (s : State) :
    SameCore s (appendRecord r s) ∧ SameInputs s (appendRecord r s) ∧ SameTalk s (appendRecord r s) ∧
    (appendRecord r s).receiver = s.receiver ∧ (appendRecord r s).meter = s.meter ∧
    (appendRecord r s).link = s.link := by
  unfold appendRecord; (repeat' split) <;> simp [SameCore, SameInputs, SameTalk]

@[simp] theorem updateRecord_frame (seq : Nat) (f : LogEntry → LogEntry) (s : State) :
    SameCore s (updateRecord seq f s) ∧ SameInputs s (updateRecord seq f s) ∧
    SameRadio s (updateRecord seq f s) ∧ SameTalk s (updateRecord seq f s) ∧
    (updateRecord seq f s).meter = s.meter ∧ (updateRecord seq f s).writer = s.writer ∧
    (updateRecord seq f s).link = s.link := by and_intros <;> rfl

@[simp] theorem closeIntoAccounts_frame (r : TripRecord) (s : State) :
    SameCore s (closeIntoAccounts r s) ∧ SameInputs s (closeIntoAccounts r s) ∧
    SameTalk s (closeIntoAccounts r s) ∧ (closeIntoAccounts r s).receiver = s.receiver ∧
    (closeIntoAccounts r s).meter = s.meter ∧ (closeIntoAccounts r s).link = s.link := by
  unfold closeIntoAccounts; dsimp only; (repeat' split) <;> simp [SameCore, SameInputs, SameTalk]

@[simp] theorem addDistance_frame (p : Nat) (s : State) :
    SameCore s (addDistance p s) ∧ SameInputs s (addDistance p s) ∧ SameRadio s (addDistance p s) ∧
    SameTalk s (addDistance p s) ∧ (addDistance p s).meter = s.meter ∧
    (addDistance p s).writer = s.writer ∧ (addDistance p s).link = s.link := by
  unfold addDistance; dsimp only; (repeat' split) <;> simp [SameCore, SameInputs, SameRadio, SameTalk]

@[simp] theorem openShift_frame (driver : Nat) (s : State) :
    SameCore s (openShift driver s) ∧ SameInputs s (openShift driver s) ∧
    SameRadio s (openShift driver s) ∧ SameTalk s (openShift driver s) ∧
    (openShift driver s).meter = s.meter ∧ (openShift driver s).link = s.link := by simp [openShift, SameCore, SameInputs, SameRadio, SameTalk]

@[simp] theorem closeShift_frame (s : State) :
    SameCore s (closeShift s) ∧ SameInputs s (closeShift s) ∧ SameRadio s (closeShift s) ∧
    SameTalk s (closeShift s) ∧ (closeShift s).meter = s.meter ∧ (closeShift s).link = s.link := by simp [closeShift, SameCore, SameInputs, SameRadio, SameTalk]

@[simp] theorem placeTripReport_frame (s : State) :
    SameCore s (placeTripReport s) ∧ SameInputs s (placeTripReport s) ∧ SameTalk s (placeTripReport s) ∧
    (placeTripReport s).meter = s.meter ∧ (placeTripReport s).writer = s.writer := by
  unfold placeTripReport; (repeat' split) <;> simp [SameCore, SameInputs, SameTalk]

@[simp] theorem tripReported_frame (seq : Nat) (s : State) :
    SameCore s (tripReported seq s) ∧ SameInputs s (tripReported seq s) ∧
    SameRadio s (tripReported seq s) ∧ SameTalk s (tripReported seq s) ∧
    (tripReported seq s).meter = s.meter ∧ (tripReported seq s).link = s.link := by
  unfold tripReported; (repeat' split) <;> simp [SameCore, SameInputs, SameRadio, SameTalk]

@[simp] theorem tripReportFailed_frame (seq : Nat) (s : State) :
    SameCore s (tripReportFailed seq s) ∧ SameInputs s (tripReportFailed seq s) ∧
    SameRadio s (tripReportFailed seq s) ∧ SameTalk s (tripReportFailed seq s) ∧
    (tripReportFailed seq s).meter = s.meter ∧ (tripReportFailed seq s).writer = s.writer ∧
    (tripReportFailed seq s).link = s.link := by and_intros <;> rfl

@[simp] theorem tripReportEmptied_frame (seq : Nat) (s : State) :
    SameCore s (tripReportEmptied seq s) ∧ SameInputs s (tripReportEmptied seq s) ∧
    SameRadio s (tripReportEmptied seq s) ∧ SameTalk s (tripReportEmptied seq s) ∧
    (tripReportEmptied seq s).meter = s.meter ∧ (tripReportEmptied seq s).writer = s.writer ∧
    (tripReportEmptied seq s).link = s.link := by and_intros <;> rfl

@[simp] theorem endTotalsPeriod_frame (s : State) :
    SameCore s (endTotalsPeriod s) ∧ SameInputs s (endTotalsPeriod s) ∧ SameRadio s (endTotalsPeriod s) ∧
    SameTalk s (endTotalsPeriod s) ∧ (endTotalsPeriod s).meter = s.meter ∧
    (endTotalsPeriod s).link = s.link := by
  unfold endTotalsPeriod; dsimp only; (repeat' split) <;> simp [SameCore, SameInputs, SameRadio, SameTalk]

@[simp] theorem serveTripRead_frame (q : TripSelector) (s : State) :
    SameCore s (serveTripRead q s) ∧ SameInputs s (serveTripRead q s) ∧ SameBooks s (serveTripRead q s) ∧
    SameRadio s (serveTripRead q s) ∧ SameTalk s (serveTripRead q s) := by
  unfold serveTripRead; (repeat' split) <;> simp [SameCore, SameInputs, SameBooks, SameRadio, SameTalk]

@[simp] theorem reinitTotals_frame (s : State) :
    SameCore s (reinitTotals s) ∧ SameInputs s (reinitTotals s) ∧ SameRadio s (reinitTotals s) ∧
    SameTalk s (reinitTotals s) ∧ (reinitTotals s).meter = s.meter ∧ (reinitTotals s).link = s.link := by and_intros <;> rfl

@[simp] theorem serveTotalsReinit_frame (s : State) :
    SameCore s (serveTotalsReinit s) ∧ SameInputs s (serveTotalsReinit s) ∧
    SameRadio s (serveTotalsReinit s) ∧ SameTalk s (serveTotalsReinit s) ∧
    (serveTotalsReinit s).meter = s.meter := by
  unfold serveTotalsReinit; (repeat' split) <;> simp [SameCore, SameInputs, SameRadio, SameTalk]

end Sys2Proof.Machine
end

