-- ==== Sys2Proof/Laws/MeterFrames.lean ====
section
/-! SUPPORT. What each operation of the meter engine leaves as it was. -/

namespace Sys2Proof.Machine

@[simp] theorem updateTrip_frame (f : Trip → Trip) (s : State) :
    SameCore s (updateTrip f s) ∧ SameInputs s (updateTrip f s) ∧ SameRadio s (updateTrip f s) ∧
    SameTalk s (updateTrip f s) ∧ (updateTrip f s).accounts = s.accounts ∧
    (updateTrip f s).writer = s.writer ∧ (updateTrip f s).link = s.link := by and_intros <;> rfl

@[simp] theorem setCheckpointCount_frame (n : Nat) (s : State) :
    SameCore s (setCheckpointCount n s) ∧ SameInputs s (setCheckpointCount n s) ∧
    SameRadio s (setCheckpointCount n s) ∧ SameTalk s (setCheckpointCount n s) ∧
    (setCheckpointCount n s).accounts = s.accounts ∧ (setCheckpointCount n s).writer = s.writer ∧
    (setCheckpointCount n s).link = s.link := by and_intros <;> rfl

@[simp] theorem markTrip_frame (s : State) :
    SameCore s (markTrip s) ∧ SameInputs s (markTrip s) ∧ SameRadio s (markTrip s) ∧
    SameTalk s (markTrip s) ∧ (markTrip s).accounts = s.accounts ∧ (markTrip s).link = s.link := by
  unfold markTrip; (repeat' split) <;> simp [SameCore, SameInputs, SameRadio, SameTalk]

@[simp] theorem takeTally_frame (s : State) :
    SameCore s (takeTally s) ∧ SameRadio s (takeTally s) ∧ SameTalk s (takeTally s) ∧
    (takeTally s).locator = s.locator ∧ (takeTally s).writer = s.writer ∧ (takeTally s).store = s.store ∧
    (takeTally s).link = s.link := by
  unfold takeTally; (repeat' split) <;> simp [SameCore, SameRadio, SameTalk]

@[simp] theorem countCheckpoint_frame (s : State) :
    SameCore s (countCheckpoint s) ∧ SameInputs s (countCheckpoint s) ∧ SameRadio s (countCheckpoint s) ∧
    SameTalk s (countCheckpoint s) ∧ (countCheckpoint s).accounts = s.accounts ∧
    (countCheckpoint s).link = s.link := by
  unfold countCheckpoint; (repeat' split) <;> simp [SameCore, SameInputs, SameRadio, SameTalk]

@[simp] theorem endTripSecond_frame (p : Nat) (s : State) :
    SameCore s (endTripSecond p s) ∧ SameInputs s (endTripSecond p s) ∧ SameRadio s (endTripSecond p s) ∧
    SameTalk s (endTripSecond p s) ∧ (endTripSecond p s).accounts = s.accounts ∧
    (endTripSecond p s).link = s.link := by
  simp only [endTripSecond, applyEvaluation]; (repeat' split) <;> simp [SameCore, SameInputs, SameRadio, SameTalk]

@[simp] theorem endMeterSecond_frame (s : State) :
    SameCore s (endMeterSecond s) ∧ SameRadio s (endMeterSecond s) ∧ SameTalk s (endMeterSecond s) ∧
    (endMeterSecond s).locator = s.locator ∧ (endMeterSecond s).store = s.store ∧
    (endMeterSecond s).link = s.link := by
  unfold endMeterSecond; (repeat' split) <;> simp [SameCore, SameRadio, SameTalk]

@[simp] theorem openTrip_frame (s : State) :
    SameCore s (openTrip s) ∧ SameInputs s (openTrip s) ∧ SameRadio s (openTrip s) ∧
    SameTalk s (openTrip s) ∧ (openTrip s).accounts = s.accounts ∧ (openTrip s).link = s.link := by and_intros <;> rfl

@[simp] theorem stopTrip_frame (s : State) :
    SameCore s (stopTrip s) ∧ SameInputs s (stopTrip s) ∧ SameRadio s (stopTrip s) ∧
    SameTalk s (stopTrip s) ∧ (stopTrip s).accounts = s.accounts ∧ (stopTrip s).link = s.link := by and_intros <;> rfl

@[simp] theorem resumeTrip_frame (s : State) :
    SameCore s (resumeTrip s) ∧ SameInputs s (resumeTrip s) ∧ SameRadio s (resumeTrip s) ∧
    SameTalk s (resumeTrip s) ∧ (resumeTrip s).accounts = s.accounts ∧ (resumeTrip s).link = s.link := by
  simp only [resumeTrip, applyEvaluation]; (repeat' split) <;> simp [SameCore, SameInputs, SameRadio, SameTalk]

@[simp] theorem closeTrip_frame (s : State) :
    SameCore s (closeTrip s) ∧ SameInputs s (closeTrip s) ∧ SameTalk s (closeTrip s) ∧
    (closeTrip s).receiver = s.receiver ∧ (closeTrip s).link = s.link := by
  unfold closeTrip; (repeat' split) <;> simp [SameCore, SameInputs, SameTalk]

@[simp] theorem chargeExtra_frame (t : Trip) (s : State) :
    SameCore s (chargeExtra t s) ∧ SameInputs s (chargeExtra t s) ∧ SameRadio s (chargeExtra t s) ∧
    SameTalk s (chargeExtra t s) ∧ (chargeExtra t s).accounts = s.accounts := by simp [chargeExtra, SameCore, SameInputs, SameRadio, SameTalk]

/-- A change of meter state leaves what its own work leaves, outside the books, the radio, the board, the
panel and the link. -/
theorem changeMeter_frame (new : MeterState) (work : State → State) (s : State)
    (h : ∀ t, SameCore t (work t) ∧ (work t).locator = t.locator ∧ (work t).inbox = t.inbox ∧
      (work t).emergency = t.emergency ∧ (work t).store = t.store) :
    SameCore s (changeMeter new work s) ∧ (changeMeter new work s).locator = s.locator ∧
    (changeMeter new work s).inbox = s.inbox ∧ (changeMeter new work s).emergency = s.emergency ∧
    (changeMeter new work s).store = s.store := by
  unfold changeMeter
  dsimp only
  split <;> simp [SameCore, h _]

@[simp] theorem pressMeter_frame (k : MeterKey) (s : State) :
    SameCore s (pressMeter k s).2 ∧ (pressMeter k s).2.locator = s.locator ∧
    (pressMeter k s).2.inbox = s.inbox ∧ (pressMeter k s).2.emergency = s.emergency ∧
    (pressMeter k s).2.store = s.store := by
  unfold pressMeter
  (repeat' split) <;> first
    | (simp [SameCore]; done)
    | exact changeMeter_frame _ _ _ (by intro t; simp [SameCore])

@[simp] theorem flagTrip_frame (s : State) :
    SameCore s (flagTrip s) ∧ SameInputs s (flagTrip s) ∧ SameRadio s (flagTrip s) ∧
    SameTalk s (flagTrip s) ∧ (flagTrip s).accounts = s.accounts ∧ (flagTrip s).link = s.link := by
  unfold flagTrip; (repeat' split) <;> simp [SameCore, SameInputs, SameRadio, SameTalk]

@[simp] theorem serveMeterKey_frame (n : Nat) (s : State) :
    SameCore s (serveMeterKey n s) ∧ (serveMeterKey n s).locator = s.locator ∧
    (serveMeterKey n s).inbox = s.inbox ∧ (serveMeterKey n s).emergency = s.emergency ∧
    (serveMeterKey n s).store = s.store := by
  unfold serveMeterKey
  split
  · simp [SameCore]
  · rename_i k _
    have h := pressMeter_frame k s
    split
    · simp [SameCore]
    · split <;> simp_all [SameCore]

@[simp] theorem serveShiftOpen_frame (driver : Nat) (s : State) :
    SameCore s (serveShiftOpen driver s) ∧ (serveShiftOpen driver s).locator = s.locator ∧
    (serveShiftOpen driver s).inbox = s.inbox ∧ (serveShiftOpen driver s).emergency = s.emergency ∧
    (serveShiftOpen driver s).store = s.store := by
  unfold serveShiftOpen; unfold changeMeter; (repeat' split) <;> simp [SameCore]

@[simp] theorem serveShiftClose_frame (s : State) :
    SameCore s (serveShiftClose s) ∧ (serveShiftClose s).locator = s.locator ∧
    (serveShiftClose s).inbox = s.inbox ∧ (serveShiftClose s).emergency = s.emergency ∧
    (serveShiftClose s).store = s.store := by
  unfold serveShiftClose; unfold changeMeter; (repeat' split) <;> simp [SameCore]

@[simp] theorem serveTimeSet_frame (a : TimeArgs) (s : State) :
    SameCore s (serveTimeSet a s) ∧ SameInputs s (serveTimeSet a s) ∧ SameBooks s (serveTimeSet a s) ∧
    SameTalk s (serveTimeSet a s) ∧ (serveTimeSet a s).scheduler = s.scheduler := by
  unfold serveTimeSet; (repeat' split) <;> simp [SameCore, SameInputs, SameBooks, SameTalk]

end Sys2Proof.Machine
end

