-- ==== Sys2Proof/Laws/EmergencyFrames.lean ====
section
/-! SUPPORT. What each operation of the emergency controller leaves as it was. -/

namespace Sys2Proof.Machine

@[simp] theorem latchIfLatched_frame (s : State) :
    SameCore s (latchIfLatched s) ∧ SameInputs s (latchIfLatched s) ∧ SameBooks s (latchIfLatched s) ∧
    SameRadio s (latchIfLatched s) ∧ (latchIfLatched s).board = s.board ∧
    (latchIfLatched s).inbox = s.inbox ∧ (latchIfLatched s).link = s.link := by
  unfold latchIfLatched; (repeat' split) <;> simp [SameCore, SameInputs, SameBooks, SameRadio]

@[simp] theorem enterActive_frame (a : ArmSource) (s : State) :
    SameCore s (enterActive a s) ∧ SameInputs s (enterActive a s) ∧
    (enterActive a s).accounts = s.accounts ∧ (enterActive a s).inbox = s.inbox := by simp [enterActive, SameCore, SameInputs]

@[simp] theorem arm_frame (a : ArmSource) (s : State) :
    SameCore s (arm a s) ∧ SameInputs s (arm a s) ∧ (arm a s).accounts = s.accounts ∧
    (arm a s).inbox = s.inbox := by
  unfold arm; (repeat' split) <;> simp [SameCore, SameInputs]

@[simp] theorem endEmergency_frame (last : LastEnd) (s : State) :
    SameCore s (endEmergency last s) ∧ SameInputs s (endEmergency last s) ∧
    (endEmergency last s).board = s.board ∧ (endEmergency last s).meter = s.meter ∧
    (endEmergency last s).accounts = s.accounts ∧ (endEmergency last s).inbox = s.inbox := by
  unfold endEmergency; dsimp only; (repeat' split) <;> simp [SameCore, SameInputs]

@[simp] theorem receiveStandDown_frame (s : State) :
    SameCore s (receiveStandDown s) ∧ SameInputs s (receiveStandDown s) ∧
    (receiveStandDown s).board = s.board ∧ (receiveStandDown s).meter = s.meter ∧
    (receiveStandDown s).accounts = s.accounts ∧ (receiveStandDown s).inbox = s.inbox := by
  unfold receiveStandDown; (repeat' split) <;> simp [SameCore, SameInputs]

@[simp] theorem receiveEmergAck_frame (s : State) :
    SameCore s (receiveEmergAck s) ∧ SameInputs s (receiveEmergAck s) ∧ SameBooks s (receiveEmergAck s) ∧
    (receiveEmergAck s).scheduler = s.scheduler ∧ (receiveEmergAck s).board = s.board ∧
    (receiveEmergAck s).inbox = s.inbox := by
  unfold receiveEmergAck; (repeat' split) <;> simp [SameCore, SameInputs, SameBooks]

@[simp] theorem enterCovert_frame (s : State) :
    SameCore s (enterCovert s) ∧ SameInputs s (enterCovert s) ∧ (enterCovert s).scheduler = s.scheduler ∧
    (enterCovert s).board = s.board ∧ (enterCovert s).meter = s.meter ∧
    (enterCovert s).accounts = s.accounts ∧ (enterCovert s).inbox = s.inbox := by simp [enterCovert, SameCore, SameInputs]

@[simp] theorem reportHeard_frame (s : State) :
    SameCore s (reportHeard s) ∧ SameInputs s (reportHeard s) ∧ SameBooks s (reportHeard s) ∧
    SameRadio s (reportHeard s) ∧ (reportHeard s).board = s.board ∧ (reportHeard s).inbox = s.inbox ∧
    (reportHeard s).link = s.link := by
  unfold reportHeard; (repeat' split) <;> simp [SameCore, SameInputs, SameBooks, SameRadio]

@[simp] theorem placeReport_frame (s : State) :
    SameCore s (placeReport s) ∧ SameInputs s (placeReport s) ∧ SameBooks s (placeReport s) ∧
    (placeReport s).board = s.board ∧ (placeReport s).inbox = s.inbox := by simp [placeReport, SameCore, SameInputs, SameBooks]

@[simp] theorem serveEmergencyRaise_frame (s : State) :
    SameCore s (serveEmergencyRaise s) ∧ SameInputs s (serveEmergencyRaise s) ∧
    (serveEmergencyRaise s).accounts = s.accounts ∧ (serveEmergencyRaise s).inbox = s.inbox := by simp [serveEmergencyRaise, SameCore, SameInputs]

@[simp] theorem serveEmergencyCancel_frame (code : Digits) (s : State) :
    SameCore s (serveEmergencyCancel code s) ∧ SameInputs s (serveEmergencyCancel code s) ∧
    (serveEmergencyCancel code s).board = s.board ∧ (serveEmergencyCancel code s).meter = s.meter ∧
    (serveEmergencyCancel code s).accounts = s.accounts ∧ (serveEmergencyCancel code s).inbox = s.inbox := by
  unfold serveEmergencyCancel; (repeat' split) <;> simp [SameCore, SameInputs]

@[simp] theorem serveAlertClear_frame (s : State) :
    SameCore s (serveAlertClear s) ∧ SameInputs s (serveAlertClear s) ∧ SameBooks s (serveAlertClear s) ∧
    SameRadio s (serveAlertClear s) ∧ (serveAlertClear s).board = s.board ∧
    (serveAlertClear s).inbox = s.inbox := by
  unfold serveAlertClear; (repeat' split) <;> simp [SameCore, SameInputs, SameBooks, SameRadio]

end Sys2Proof.Machine
end

