-- ==== Sys2Proof/Laws/InboxFrames.lean ====
section
/-! SUPPORT. What each operation of the message inbox leaves as it was. -/

namespace Sys2Proof.Machine

@[simp] theorem updateMessage_frame (n : Nat) (f : Message → Message) (s : State) :
    SameCore s (updateMessage n f s) ∧ SameInputs s (updateMessage n f s) ∧
    SameBooks s (updateMessage n f s) ∧ SameRadio s (updateMessage n f s) ∧
    (updateMessage n f s).board = s.board ∧ (updateMessage n f s).emergency = s.emergency ∧
    (updateMessage n f s).link = s.link := by and_intros <;> rfl

@[simp] theorem placeReceipt_frame (m : Message) (s : State) :
    SameCore s (placeReceipt m s) ∧ SameInputs s (placeReceipt m s) ∧ SameBooks s (placeReceipt m s) ∧
    (placeReceipt m s).board = s.board ∧ (placeReceipt m s).emergency = s.emergency := by
  unfold placeReceipt; (repeat' split) <;> simp [SameCore, SameInputs, SameBooks]

@[simp] theorem placeReceipts_frame (s : State) :
    SameCore s (placeReceipts s) ∧ SameInputs s (placeReceipts s) ∧ SameBooks s (placeReceipts s) ∧
    (placeReceipts s).board = s.board ∧ (placeReceipts s).emergency = s.emergency := by
  unfold placeReceipts
  exact foldl_keeps (fun t => SameCore s t ∧ SameInputs s t ∧ SameBooks s t ∧ t.board = s.board ∧ t.emergency = s.emergency)
    _ (by intros; simp_all [SameCore, SameInputs, SameBooks]) _ _ (by simp [SameCore, SameInputs, SameBooks])

@[simp] theorem receiptHeard_frame (n : Nat) (s : State) :
    SameCore s (receiptHeard n s) ∧ SameInputs s (receiptHeard n s) ∧ SameBooks s (receiptHeard n s) ∧
    (receiptHeard n s).board = s.board ∧ (receiptHeard n s).emergency = s.emergency := by simp [receiptHeard, SameCore, SameInputs, SameBooks]

@[simp] theorem receiptFailed_frame (n : Nat) (s : State) :
    SameCore s (receiptFailed n s) ∧ SameInputs s (receiptFailed n s) ∧ SameBooks s (receiptFailed n s) ∧
    (receiptFailed n s).board = s.board ∧ (receiptFailed n s).emergency = s.emergency := by simp [receiptFailed, SameCore, SameInputs, SameBooks]

@[simp] theorem removeMessage_frame (n : Nat) (s : State) :
    SameCore s (removeMessage n s) ∧ SameInputs s (removeMessage n s) ∧ SameBooks s (removeMessage n s) ∧
    SameRadio s (removeMessage n s) ∧ (removeMessage n s).board = s.board ∧
    (removeMessage n s).emergency = s.emergency ∧ (removeMessage n s).link = s.link := by and_intros <;> rfl

@[simp] theorem storeMessage_frame (m : Message) (s : State) :
    SameCore s (storeMessage m s) ∧ SameInputs s (storeMessage m s) ∧ SameBooks s (storeMessage m s) ∧
    (storeMessage m s).board = s.board ∧ (storeMessage m s).emergency = s.emergency := by simp [storeMessage, SameCore, SameInputs, SameBooks]

@[simp] theorem refuseMessage_frame (s : State) :
    SameCore s (refuseMessage s) ∧ SameInputs s (refuseMessage s) ∧ SameBooks s (refuseMessage s) ∧
    SameRadio s (refuseMessage s) ∧ (refuseMessage s).board = s.board ∧
    (refuseMessage s).emergency = s.emergency := by and_intros <;> rfl

@[simp] theorem receiveText_frame (target : Target) (priority : Priority) (t : TextFields) (s : State) :
    SameCore s (receiveText target priority t s) ∧ SameInputs s (receiveText target priority t s) ∧
    SameBooks s (receiveText target priority t s) ∧ (receiveText target priority t s).board = s.board ∧
    (receiveText target priority t s).emergency = s.emergency := by
  unfold receiveText; (repeat' split) <;> simp [SameCore, SameInputs, SameBooks]

@[simp] theorem replyTo_frame (m : Message) (code : Nat) (s : State) :
    SameCore s (replyTo m code s).2 ∧ SameInputs s (replyTo m code s).2 ∧
    SameBooks s (replyTo m code s).2 ∧ (replyTo m code s).2.board = s.board ∧
    (replyTo m code s).2.emergency = s.emergency := by
  unfold replyTo; dsimp only; (repeat' split) <;> simp [SameCore, SameInputs, SameBooks]

@[simp] theorem serveMessageReply_frame (a : ReplyArgs) (s : State) :
    SameCore s (serveMessageReply a s) ∧ SameInputs s (serveMessageReply a s) ∧
    SameBooks s (serveMessageReply a s) ∧ (serveMessageReply a s).board = s.board ∧
    (serveMessageReply a s).emergency = s.emergency := by
  unfold serveMessageReply; (repeat' split) <;> simp [SameCore, SameInputs, SameBooks]

@[simp] theorem serveMessageMark_frame (n : Nat) (s : State) :
    SameCore s (serveMessageMark n s) ∧ SameInputs s (serveMessageMark n s) ∧
    SameBooks s (serveMessageMark n s) ∧ SameRadio s (serveMessageMark n s) ∧
    (serveMessageMark n s).board = s.board ∧ (serveMessageMark n s).emergency = s.emergency := by
  unfold serveMessageMark; (repeat' split) <;> simp [SameCore, SameInputs, SameBooks, SameRadio]

@[simp] theorem serveMessageDelete_frame (n : Nat) (s : State) :
    SameCore s (serveMessageDelete n s) ∧ SameInputs s (serveMessageDelete n s) ∧
    SameBooks s (serveMessageDelete n s) ∧ SameRadio s (serveMessageDelete n s) ∧
    (serveMessageDelete n s).board = s.board ∧ (serveMessageDelete n s).emergency = s.emergency := by
  unfold serveMessageDelete; (repeat' split) <;> simp [SameCore, SameInputs, SameBooks, SameRadio]

@[simp] theorem serveInboxRead_frame (n : Nat) (s : State) :
    SameCore s (serveInboxRead n s) ∧ SameInputs s (serveInboxRead n s) ∧
    SameBooks s (serveInboxRead n s) ∧ SameRadio s (serveInboxRead n s) ∧
    (serveInboxRead n s).board = s.board ∧ (serveInboxRead n s).emergency = s.emergency := by
  unfold serveInboxRead; (repeat' split) <;> simp [SameCore, SameInputs, SameBooks, SameRadio]

@[simp] theorem sendHostMessage_frame (kind : EntryKind) (content : EntryContent) (s : State) :
    SameCore s (sendHostMessage kind content s) ∧ SameInputs s (sendHostMessage kind content s) ∧
    SameBooks s (sendHostMessage kind content s) ∧ SameTalk s (sendHostMessage kind content s) := by simp [sendHostMessage, SameCore, SameInputs, SameBooks, SameTalk]

@[simp] theorem serveSendCanned_frame (n : Nat) (s : State) :
    SameCore s (serveSendCanned n s) ∧ SameInputs s (serveSendCanned n s) ∧
    SameBooks s (serveSendCanned n s) ∧ SameTalk s (serveSendCanned n s) := by
  unfold serveSendCanned; (repeat' split) <;> simp [SameCore, SameInputs, SameBooks, SameTalk]

@[simp] theorem serveSendText_frame (t : Text) (s : State) :
    SameCore s (serveSendText t s) ∧ SameInputs s (serveSendText t s) ∧ SameBooks s (serveSendText t s) ∧
    SameTalk s (serveSendText t s) := by
  unfold serveSendText; (repeat' split) <;> simp [SameCore, SameInputs, SameBooks, SameTalk]

end Sys2Proof.Machine
end

