-- ==== Sys2Proof/Laws/SchedulerFrames.lean ====
section
/-! SUPPORT. What each operation of the uplink scheduler leaves as it was. -/

namespace Sys2Proof.Machine

@[simp] theorem transmit_frame (item : UplinkItem) (s : State) :
    SameCore s (transmit item s) ∧ SameInputs s (transmit item s) ∧ SameBooks s (transmit item s) ∧
    SameTalk s (transmit item s) ∧ (transmit item s).scheduler = s.scheduler ∧
    (transmit item s).link = s.link := by and_intros <;> rfl

@[simp] theorem sendEntry_frame (e : Entry) (slot : Nat) (s : State) :
    SameCore s (sendEntry e slot s) ∧ SameInputs s (sendEntry e slot s) ∧
    SameBooks s (sendEntry e slot s) ∧ SameTalk s (sendEntry e slot s) ∧
    (sendEntry e slot s).link = s.link := by
  unfold sendEntry; (repeat' split) <;> simp [SameCore, SameInputs, SameBooks, SameTalk]

@[simp] theorem sendSlotReq_frame (e : Entry) (slot : Nat) (s : State) :
    SameCore s (sendSlotReq e slot s) ∧ SameInputs s (sendSlotReq e slot s) ∧
    SameBooks s (sendSlotReq e slot s) ∧ SameTalk s (sendSlotReq e slot s) ∧
    (sendSlotReq e slot s).link = s.link := by and_intros <;> rfl

@[simp] theorem sendFill_frame (slot : Nat) (s : State) :
    SameCore s (sendFill slot s) ∧ SameInputs s (sendFill slot s) ∧ SameBooks s (sendFill slot s) ∧
    SameTalk s (sendFill slot s) ∧ (sendFill slot s).link = s.link := by and_intros <;> rfl

@[simp] theorem useContention_frame (s : State) :
    SameCore s (useContention s) ∧ SameInputs s (useContention s) ∧ SameBooks s (useContention s) ∧
    SameTalk s (useContention s) ∧ (useContention s).receiver = s.receiver ∧
    (useContention s).link = s.link := by and_intros <;> rfl

@[simp] theorem restartGrantWait_frame (s : State) :
    SameCore s (restartGrantWait s) ∧ SameInputs s (restartGrantWait s) ∧
    SameBooks s (restartGrantWait s) ∧ SameTalk s (restartGrantWait s) ∧
    (restartGrantWait s).receiver = s.receiver ∧ (restartGrantWait s).link = s.link := by and_intros <;> rfl

@[simp] theorem useGrant_frame (slot : Nat) (s : State) :
    SameCore s (useGrant slot s) ∧ SameInputs s (useGrant slot s) ∧ SameBooks s (useGrant slot s) ∧
    SameTalk s (useGrant slot s) ∧ (useGrant slot s).link = s.link := by
  unfold useGrant; (repeat' split) <;> simp [SameCore, SameInputs, SameBooks, SameTalk]

@[simp] theorem useEmergContention_frame (slot : Nat) (s : State) :
    SameCore s (useEmergContention slot s) ∧ SameInputs s (useEmergContention slot s) ∧
    SameBooks s (useEmergContention slot s) ∧ SameTalk s (useEmergContention slot s) ∧
    (useEmergContention slot s).link = s.link := by
  unfold useEmergContention; (repeat' split) <;> simp [SameCore, SameInputs, SameBooks, SameTalk]

@[simp] theorem contendSlot_frame (slot draw : Nat) (s : State) :
    SameCore s (contendSlot slot draw s) ∧ SameInputs s (contendSlot slot draw s) ∧
    SameBooks s (contendSlot slot draw s) ∧ SameTalk s (contendSlot slot draw s) ∧
    (contendSlot slot draw s).link = s.link := by
  unfold contendSlot; (repeat' split) <;> simp [SameCore, SameInputs, SameBooks, SameTalk]

@[simp] theorem useSlot_frame (slot draw : Nat) (use : SlotUse) (s : State) :
    SameCore s (useSlot slot draw use s) ∧ SameInputs s (useSlot slot draw use s) ∧
    SameBooks s (useSlot slot draw use s) ∧ SameTalk s (useSlot slot draw use s) ∧
    (useSlot slot draw use s).link = s.link := by
  unfold useSlot; (repeat' split) <;> simp [SameCore, SameInputs, SameBooks, SameTalk]

@[simp] theorem beginSlot_frame (slot draw : Nat) (s : State) :
    SameCore s (beginSlot slot draw s) ∧ SameInputs s (beginSlot slot draw s) ∧
    SameBooks s (beginSlot slot draw s) ∧ SameTalk s (beginSlot slot draw s) ∧
    (beginSlot slot draw s).link = s.link := by
  unfold beginSlot; (repeat' split) <;> simp [SameCore, SameInputs, SameBooks, SameTalk]

@[simp] theorem endTransmission_frame (s : State) :
    SameCore s (endTransmission s) ∧ SameInputs s (endTransmission s) ∧ SameBooks s (endTransmission s) ∧
    SameTalk s (endTransmission s) ∧ (endTransmission s).scheduler = s.scheduler ∧
    (endTransmission s).link = s.link := by
  unfold endTransmission; (repeat' split) <;> simp [SameCore, SameInputs, SameBooks, SameTalk]

@[simp] theorem statusHeard_frame (sent : Option SentAs) (s : State) :
    SameCore s (statusHeard sent s) ∧ SameInputs s (statusHeard sent s) ∧
    SameBooks s (statusHeard sent s) ∧ SameTalk s (statusHeard sent s) ∧
    (statusHeard sent s).link = s.link := by and_intros <;> rfl

@[simp] theorem placeRegeneration_frame (s : State) :
    SameCore s (placeRegeneration s) ∧ SameInputs s (placeRegeneration s) ∧
    SameBooks s (placeRegeneration s) ∧ SameTalk s (placeRegeneration s) := by
  unfold placeRegeneration; (repeat' split) <;> simp [SameCore, SameInputs, SameBooks, SameTalk]

@[simp] theorem acknowledged_frame (e : Entry) (s : State) :
    SameCore s (acknowledged e s) ∧ SameInputs s (acknowledged e s) ∧ (acknowledged e s).meter = s.meter := by
  unfold acknowledged; (repeat' split) <;> simp [SameCore, SameInputs]

@[simp] theorem entryHeard_frame (e : Entry) (s : State) :
    SameCore s (entryHeard e s) ∧ SameInputs s (entryHeard e s) ∧ (entryHeard e s).meter = s.meter := by
  unfold entryHeard; (repeat' split) <;> simp [SameCore, SameInputs]

@[simp] theorem failed_frame (e : Entry) (s : State) :
    SameCore s (failed e s) ∧ SameInputs s (failed e s) ∧ (failed e s).meter = s.meter ∧
    (failed e s).writer = s.writer ∧ (failed e s).emergency = s.emergency := by
  unfold failed; (repeat' split) <;> simp [SameCore, SameInputs]

@[simp] theorem clearSlotReq_frame (kind : EntryKind) (key : Nat) (s : State) :
    SameCore s (clearSlotReq kind key s) ∧ SameInputs s (clearSlotReq kind key s) ∧
    SameBooks s (clearSlotReq kind key s) ∧ SameTalk s (clearSlotReq kind key s) ∧
    (clearSlotReq kind key s).receiver = s.receiver ∧ (clearSlotReq kind key s).link = s.link := by and_intros <;> rfl

@[simp] theorem attemptLost_frame (e : Entry) (s : State) :
    SameCore s (attemptLost e s) ∧ SameInputs s (attemptLost e s) ∧ (attemptLost e s).meter = s.meter ∧
    (attemptLost e s).writer = s.writer ∧ (attemptLost e s).emergency = s.emergency := by
  unfold attemptLost; dsimp only; (repeat' split) <;> simp [SameCore, SameInputs]

@[simp] theorem reportEntry_frame (isHeard : SentAs → Bool) (s : State) (e : Entry) :
    SameCore s (reportEntry isHeard s e) ∧ SameInputs s (reportEntry isHeard s e) ∧
    (reportEntry isHeard s e).meter = s.meter := by
  unfold reportEntry; (repeat' split) <;> simp [SameCore, SameInputs]

@[simp] theorem waitOn_frame (s : State) (e : Entry) :
    SameCore s (waitOn s e) ∧ SameInputs s (waitOn s e) ∧ (waitOn s e).meter = s.meter ∧
    (waitOn s e).writer = s.writer ∧ (waitOn s e).emergency = s.emergency := by
  unfold waitOn; (repeat' split) <;> simp [SameCore, SameInputs]

@[simp] theorem reportFill_frame (isHeard : SentAs → Bool) (s : State) :
    SameCore s (reportFill isHeard s) ∧ SameInputs s (reportFill isHeard s) ∧
    SameBooks s (reportFill isHeard s) ∧ SameTalk s (reportFill isHeard s) ∧
    (reportFill isHeard s).link = s.link := by
  unfold reportFill; (repeat' split) <;> simp [SameCore, SameInputs, SameBooks, SameTalk]

@[simp] theorem report_frame (isHeard : SentAs → Bool) (s : State) :
    SameCore s (report isHeard s) ∧ SameInputs s (report isHeard s) ∧ (report isHeard s).meter = s.meter := by
  have keep : ∀ (g : State → Entry → State),
      (∀ u e, SameCore u (g u e) ∧ SameInputs u (g u e) ∧ (g u e).meter = u.meter) →
      ∀ (l : List Entry) (u : State), SameCore s u ∧ SameInputs s u ∧ u.meter = s.meter →
      SameCore s (l.foldl g u) ∧ SameInputs s (l.foldl g u) ∧ (l.foldl g u).meter = s.meter := by
    intro g hg l u hu
    exact foldl_keeps (fun t => SameCore s t ∧ SameInputs s t ∧ t.meter = s.meter) g
      (by intro v e hv; have := hg v e; simp_all [SameCore, SameInputs]) l u hu
  unfold report
  dsimp only
  refine keep waitOn (by intro u e; simp [SameCore, SameInputs]) _ _ ?_
  have h := keep (reportEntry isHeard) (by intro u e; simp [SameCore, SameInputs]) s.scheduler.queue s
    (by simp [SameCore, SameInputs])
  simpa [SameCore, SameInputs] using h


@[simp] theorem headerReport_frame (cycle : Nat) (heard : List HeardPair) (s : State) :
    SameCore s (headerReport cycle heard s) ∧ SameInputs s (headerReport cycle heard s) ∧
    (headerReport cycle heard s).meter = s.meter := by simp [headerReport, SameCore, SameInputs]

@[simp] theorem missReport_frame (s : State) :
    SameCore s (missReport s) ∧ SameInputs s (missReport s) ∧ (missReport s).meter = s.meter := by simp [missReport, SameCore, SameInputs]

@[simp] theorem giveUpGrants_frame (s : State) :
    SameCore s (giveUpGrants s) ∧ SameInputs s (giveUpGrants s) ∧ (giveUpGrants s).meter = s.meter ∧
    (giveUpGrants s).writer = s.writer ∧ (giveUpGrants s).emergency = s.emergency := by
  unfold giveUpGrants
  refine foldl_keeps (fun t => SameCore s t ∧ SameInputs s t ∧ t.meter = s.meter ∧ t.writer = s.writer ∧ t.emergency = s.emergency)
    _ ?_ _ _ (by simp [SameCore, SameInputs])
  intro u e hu
  split <;> simp_all [SameCore, SameInputs]


@[simp] theorem sendBeacon_frame (s : State) :
    SameCore s (sendBeacon s) ∧ SameInputs s (sendBeacon s) ∧ SameBooks s (sendBeacon s) ∧
    SameTalk s (sendBeacon s) ∧ (sendBeacon s).link = s.link := by
  unfold sendBeacon; (repeat' split) <;> simp [SameCore, SameInputs, SameBooks, SameTalk]

@[simp] theorem serveUplinkStatus_frame (s : State) :
    SameCore s (serveUplinkStatus s) ∧ SameInputs s (serveUplinkStatus s) ∧
    SameBooks s (serveUplinkStatus s) ∧ SameTalk s (serveUplinkStatus s) ∧
    (serveUplinkStatus s).receiver = s.receiver := by and_intros <;> rfl

end Sys2Proof.Machine
end

