-- ==== Sys2Proof/Laws/ReceiverFrames.lean ====
section
/-! SUPPORT. What each operation of the channel receiver leaves as it was. -/

namespace Sys2Proof.Machine

@[simp] theorem setSync_frame (new : Sync) (s : State) :
    SameCore s (setSync new s) ∧ SameInputs s (setSync new s) ∧ SameBooks s (setSync new s) ∧
    SameTalk s (setSync new s) ∧ (setSync new s).scheduler = s.scheduler := by
  unfold setSync; (repeat' split) <;> simp [SameCore, SameInputs, SameBooks, SameTalk]

@[simp] theorem takeHeader_frame (g : GoodHeader) (s : State) :
    SameCore s (takeHeader g s) ∧ SameInputs s (takeHeader g s) ∧ (takeHeader g s).meter = s.meter := by simp [takeHeader, SameCore, SameInputs]

@[simp] theorem hearHeader_frame (g : GoodHeader) (s : State) :
    SameCore s (hearHeader g s) ∧ SameInputs s (hearHeader g s) ∧ (hearHeader g s).meter = s.meter := by
  unfold hearHeader; (repeat' split) <;> simp [SameCore, SameInputs]

@[simp] theorem arriveHeader_frame (h : HeaderBlock) (s : State) :
    SameCore s (arriveHeader h s) ∧ SameInputs s (arriveHeader h s) ∧ (arriveHeader h s).meter = s.meter := by
  unfold arriveHeader; (repeat' split) <;> simp [SameCore, SameInputs]

@[simp] theorem expectNext_frame (s : State) :
    SameCore s (expectNext s) ∧ SameInputs s (expectNext s) ∧ SameBooks s (expectNext s) ∧
    SameTalk s (expectNext s) ∧ (expectNext s).scheduler = s.scheduler ∧ (expectNext s).link = s.link := by and_intros <;> rfl

@[simp] theorem enterSearch_frame (s : State) :
    SameCore s (enterSearch s) ∧ SameInputs s (enterSearch s) ∧ (enterSearch s).meter = s.meter ∧
    (enterSearch s).writer = s.writer ∧ (enterSearch s).emergency = s.emergency := by simp [enterSearch, SameCore, SameInputs]

@[simp] theorem settleMiss_frame (s : State) :
    SameCore s (settleMiss s) ∧ SameInputs s (settleMiss s) ∧ (settleMiss s).meter = s.meter ∧
    (settleMiss s).writer = s.writer ∧ (settleMiss s).emergency = s.emergency := by
  unfold settleMiss; (repeat' split) <;> simp [SameCore, SameInputs]

@[simp] theorem missHeader_frame (s : State) :
    SameCore s (missHeader s) ∧ SameInputs s (missHeader s) ∧ (missHeader s).meter = s.meter := by
  unfold missHeader; (repeat' split) <;> simp [SameCore, SameInputs]

@[simp] theorem markParked_frame (s : State) :
    SameCore s (markParked s) ∧ SameInputs s (markParked s) ∧ SameBooks s (markParked s) ∧
    SameTalk s (markParked s) := by simp [markParked, SameCore, SameInputs, SameBooks, SameTalk]

@[simp] theorem enterSparse_frame (s : State) :
    SameCore s (enterSparse s) ∧ SameInputs s (enterSparse s) ∧ SameBooks s (enterSparse s) ∧
    SameTalk s (enterSparse s) ∧ (enterSparse s).scheduler = s.scheduler := by and_intros <;> rfl

@[simp] theorem requestVoice_frame (s : State) :
    SameCore s (requestVoice s) ∧ SameInputs s (requestVoice s) ∧ SameBooks s (requestVoice s) ∧
    SameTalk s (requestVoice s) ∧ (requestVoice s).scheduler = s.scheduler ∧
    (requestVoice s).link = s.link := by
  unfold requestVoice; (repeat' split) <;> simp [SameCore, SameInputs, SameBooks, SameTalk]

@[simp] theorem setVoiceReq_frame (level : Bool) (s : State) :
    SameCore s (setVoiceReq level s) ∧ SameInputs s (setVoiceReq level s) ∧
    SameBooks s (setVoiceReq level s) ∧ SameTalk s (setVoiceReq level s) ∧
    (setVoiceReq level s).scheduler = s.scheduler ∧ (setVoiceReq level s).link = s.link := by and_intros <;> rfl

end Sys2Proof.Machine
end

