-- ==== Sys2Proof/Laws/ItemsFrames.lean ====
section
/-! SUPPORT. What each operation on downlink items leaves as it was. -/

namespace Sys2Proof.Machine

@[simp] theorem countItem_frame (s : State) :
    SameCore s (countItem s) ∧ SameInputs s (countItem s) ∧ SameBooks s (countItem s) ∧
    SameTalk s (countItem s) ∧ (countItem s).scheduler = s.scheduler ∧ (countItem s).link = s.link := by and_intros <;> rfl

@[simp] theorem returnHeld_frame (s : State) :
    SameCore s (returnHeld s) ∧ SameInputs s (returnHeld s) ∧ SameBooks s (returnHeld s) ∧
    SameTalk s (returnHeld s) ∧ (returnHeld s).scheduler = s.scheduler := by
  unfold returnHeld; split <;> simp [SameCore, SameInputs, SameBooks, SameTalk]

@[simp] theorem handOffer_frame (o : OfferFields) (target : Target) (s : State) :
    SameCore s (handOffer o target s) ∧ SameInputs s (handOffer o target s) ∧
    SameBooks s (handOffer o target s) ∧ SameRadio s (handOffer o target s) ∧
    (handOffer o target s).inbox = s.inbox ∧ (handOffer o target s).emergency = s.emergency := by simp [handOffer, SameCore, SameInputs, SameBooks, SameRadio]

@[simp] theorem handText_frame (t : TextFields) (target : Target) (s : State) :
    SameCore s (handText t target s) ∧ SameInputs s (handText t target s) ∧
    SameBooks s (handText t target s) ∧ (handText t target s).board = s.board ∧
    (handText t target s).emergency = s.emergency := by simp [handText, SameCore, SameInputs, SameBooks]

@[simp] theorem emptyEntry_frame (s : State) (e : Entry) :
    SameCore s (emptyEntry s e) ∧ SameInputs s (emptyEntry s e) ∧ SameTalk s (emptyEntry s e) ∧
    (emptyEntry s e).receiver = s.receiver ∧ (emptyEntry s e).meter = s.meter ∧
    (emptyEntry s e).writer = s.writer := by
  unfold emptyEntry; (repeat' split) <;> simp [SameCore, SameInputs, SameTalk]

@[simp] theorem emptyQueue_frame (s : State) :
    SameCore s (emptyQueue s) ∧ SameInputs s (emptyQueue s) ∧ SameTalk s (emptyQueue s) ∧
    (emptyQueue s).receiver = s.receiver ∧ (emptyQueue s).meter = s.meter ∧
    (emptyQueue s).writer = s.writer := by
  unfold emptyQueue
  exact foldl_keeps (fun t => SameCore s t ∧ SameInputs s t ∧ SameTalk s t ∧ t.receiver = s.receiver ∧ t.meter = s.meter ∧ t.writer = s.writer)
    _ (by intros; simp_all [SameCore, SameInputs, SameTalk]) _ _ (by simp [SameCore, SameInputs, SameTalk])

@[simp] theorem loseSync_frame (s : State) :
    SameCore s (loseSync s) ∧ SameInputs s (loseSync s) ∧ SameBooks s (loseSync s) ∧
    SameTalk s (loseSync s) ∧ (loseSync s).scheduler = s.scheduler := by simp [loseSync, SameCore, SameInputs, SameBooks, SameTalk]

@[simp] theorem loseZone_frame (s : State) :
    SameCore s (loseZone s) ∧ SameBooks s (loseZone s) ∧ SameRadio s (loseZone s) ∧
    SameTalk s (loseZone s) ∧ (loseZone s).panel = s.panel ∧ (loseZone s).store = s.store := by
  unfold loseZone; (repeat' split) <;> simp [SameCore, SameBooks, SameRadio, SameTalk]

@[simp] theorem restartPark_frame (s : State) :
    SameCore s (restartPark s) ∧ SameInputs s (restartPark s) ∧ SameBooks s (restartPark s) ∧
    SameTalk s (restartPark s) ∧ (restartPark s).scheduler = s.scheduler ∧ (restartPark s).link = s.link := by
  unfold restartPark; (repeat' split) <;> simp [SameCore, SameInputs, SameBooks, SameTalk]

@[simp] theorem blockVoice_frame (s : State) :
    SameCore s (blockVoice s) ∧ SameInputs s (blockVoice s) ∧ SameBooks s (blockVoice s) ∧
    SameTalk s (blockVoice s) ∧ (blockVoice s).scheduler = s.scheduler ∧ (blockVoice s).link = s.link := by and_intros <;> rfl

@[simp] theorem pulseHost_frame (s : State) :
    SameCore s (pulseHost s) ∧ SameInputs s (pulseHost s) ∧ SameBooks s (pulseHost s) ∧
    SameRadio s (pulseHost s) ∧ SameTalk s (pulseHost s) := by
  unfold pulseHost; (repeat' split) <;> simp [SameCore, SameInputs, SameBooks, SameRadio, SameTalk]

@[simp] theorem remoteReset_frame (s : State) :
    SameCore s (remoteReset s) ∧ (remoteReset s).panel = s.panel ∧ (remoteReset s).meter = s.meter ∧
    (remoteReset s).writer = s.writer ∧ (remoteReset s).emergency = s.emergency := by
  unfold remoteReset; (repeat' split) <;> simp [SameCore]

end Sys2Proof.Machine
end

