-- ==== Sys2Proof/Laws/LocatorFrames.lean ====
section
/-! SUPPORT. What each operation of the zone locator leaves as it was. -/

namespace Sys2Proof.Machine

@[simp] theorem tellBoard_frame (before : List Nat) (s : State) :
    SameCore s (tellBoard before s) ∧ SameInputs s (tellBoard before s) ∧
    SameBooks s (tellBoard before s) ∧ SameRadio s (tellBoard before s) ∧
    (tellBoard before s).inbox = s.inbox ∧ (tellBoard before s).emergency = s.emergency := by
  unfold tellBoard; (repeat' split) <;> simp [SameCore, SameInputs, SameBooks, SameRadio]

@[simp] theorem changeZone_frame (record : Option ZoneRecord) (s : State) :
    SameCore s (changeZone record s) ∧ SameBooks s (changeZone record s) ∧
    (changeZone record s).panel = s.panel ∧ (changeZone record s).inbox = s.inbox ∧
    (changeZone record s).emergency = s.emergency ∧ (changeZone record s).store = s.store := by simp [changeZone, SameCore, SameBooks]

@[simp] theorem refreshRecord_frame (record : Option ZoneRecord) (s : State) :
    SameCore s (refreshRecord record s) ∧ SameBooks s (refreshRecord record s) ∧
    SameRadio s (refreshRecord record s) ∧ (refreshRecord record s).panel = s.panel ∧
    (refreshRecord record s).inbox = s.inbox ∧ (refreshRecord record s).emergency = s.emergency ∧
    (refreshRecord record s).store = s.store := by
  unfold refreshRecord; (repeat' split) <;> simp [SameCore, SameBooks, SameRadio]

@[simp] theorem applyLookup_frame (record : Option ZoneRecord) (s : State) :
    SameCore s (applyLookup record s) ∧ SameBooks s (applyLookup record s) ∧
    (applyLookup record s).panel = s.panel ∧ (applyLookup record s).inbox = s.inbox ∧
    (applyLookup record s).emergency = s.emergency ∧ (applyLookup record s).store = s.store := by
  unfold applyLookup; dsimp only; (repeat' split) <;> simp [SameCore, SameBooks]

@[simp] theorem storeFix_frame (f : Fix) (s : State) :
    SameCore s (storeFix f s) ∧ SameBooks s (storeFix f s) ∧ SameRadio s (storeFix f s) ∧
    SameTalk s (storeFix f s) ∧ (storeFix f s).panel = s.panel ∧ (storeFix f s).store = s.store := by
  unfold storeFix; (repeat' split) <;> simp [SameCore, SameBooks, SameRadio, SameTalk]

@[simp] theorem servePosition_frame (a : PositionArgs) (s : State) :
    SameCore s (servePosition a s) ∧ SameBooks s (servePosition a s) ∧
    (servePosition a s).panel = s.panel ∧ (servePosition a s).inbox = s.inbox ∧
    (servePosition a s).emergency = s.emergency ∧ (servePosition a s).store = s.store := by
  unfold servePosition; (repeat' split) <;> simp [SameCore, SameBooks]

@[simp] theorem makeStale_frame (s : State) :
    SameCore s (makeStale s) ∧ SameBooks s (makeStale s) ∧ SameRadio s (makeStale s) ∧
    SameTalk s (makeStale s) ∧ (makeStale s).panel = s.panel ∧ (makeStale s).store = s.store := by and_intros <;> rfl

@[simp] theorem makeLost_frame (s : State) :
    SameCore s (makeLost s) ∧ SameBooks s (makeLost s) ∧ (makeLost s).panel = s.panel ∧
    (makeLost s).inbox = s.inbox ∧ (makeLost s).emergency = s.emergency ∧ (makeLost s).store = s.store := by
  unfold makeLost; (repeat' split) <;> simp [SameCore, SameBooks]

@[simp] theorem updateWorking_frame (f : Settings → Settings) (s : State) :
    SameCore s (updateWorking f s) ∧ SameBooks s (updateWorking f s) ∧ SameRadio s (updateWorking f s) ∧
    SameTalk s (updateWorking f s) ∧ (updateWorking f s).locator = s.locator ∧
    (updateWorking f s).panel = s.panel ∧ (updateWorking f s).link = s.link := by and_intros <;> rfl

@[simp] theorem setPointer_frame (n : Nat) (s : State) :
    SameCore s (setPointer n s) ∧ SameBooks s (setPointer n s) ∧ SameRadio s (setPointer n s) ∧
    SameTalk s (setPointer n s) ∧ (setPointer n s).panel = s.panel ∧ (setPointer n s).store = s.store ∧
    (setPointer n s).link = s.link := by and_intros <;> rfl

@[simp] theorem loadRect_frame (s : State) (r : Rect) :
    SameCore s (loadRect s r) ∧ SameBooks s (loadRect s r) ∧ SameRadio s (loadRect s r) ∧
    SameTalk s (loadRect s r) ∧ (loadRect s r).panel = s.panel ∧ (loadRect s r).link = s.link := by and_intros <;> rfl

@[simp] theorem loadRects_frame (l : List Rect) (s : State) :
    SameCore s (l.foldl loadRect s) ∧ SameBooks s (l.foldl loadRect s) ∧ SameRadio s (l.foldl loadRect s) ∧
    SameTalk s (l.foldl loadRect s) ∧ (l.foldl loadRect s).panel = s.panel ∧
    (l.foldl loadRect s).link = s.link :=
  foldl_keeps (fun t => SameCore s t ∧ SameBooks s t ∧ SameRadio s t ∧ SameTalk s t ∧ t.panel = s.panel ∧
      t.link = s.link)
    _ (by intros; simp_all [SameCore, SameBooks, SameRadio, SameTalk]) _ _
    (by simp [SameCore, SameBooks, SameRadio, SameTalk])

@[simp] theorem serveZoneLoad_frame (l : List RectArgs) (s : State) :
    SameCore s (serveZoneLoad l s) ∧ SameBooks s (serveZoneLoad l s) ∧ SameRadio s (serveZoneLoad l s) ∧
    SameTalk s (serveZoneLoad l s) ∧ (serveZoneLoad l s).panel = s.panel := by
  unfold serveZoneLoad
  (repeat' split) <;> simp [SameCore, SameBooks, SameRadio, SameTalk]

@[simp] theorem serveZonePoint_frame (n : Nat) (s : State) :
    SameCore s (serveZonePoint n s) ∧ SameBooks s (serveZonePoint n s) ∧
    SameRadio s (serveZonePoint n s) ∧ SameTalk s (serveZonePoint n s) ∧
    (serveZonePoint n s).panel = s.panel ∧ (serveZonePoint n s).store = s.store := by
  unfold serveZonePoint; (repeat' split) <;> simp [SameCore, SameBooks, SameRadio, SameTalk]

@[simp] theorem serveZoneClear_frame (s : State) :
    SameCore s (serveZoneClear s) ∧ SameBooks s (serveZoneClear s) ∧ SameRadio s (serveZoneClear s) ∧
    SameTalk s (serveZoneClear s) ∧ (serveZoneClear s).panel = s.panel := by
  unfold serveZoneClear; (repeat' split) <;> simp [SameCore, SameBooks, SameRadio, SameTalk]

@[simp] theorem serveZoneRead_frame (a : ZoneReadArgs) (s : State) :
    SameCore s (serveZoneRead a s) ∧ SameInputs s (serveZoneRead a s) ∧ SameBooks s (serveZoneRead a s) ∧
    SameRadio s (serveZoneRead a s) ∧ SameTalk s (serveZoneRead a s) := by
  unfold serveZoneRead; (repeat' split) <;> simp [SameCore, SameInputs, SameBooks, SameRadio, SameTalk]

end Sys2Proof.Machine
end

