-- ==== Sys2Proof/Laws/PanelFrames.lean ====
section
/-! SUPPORT. What each operation of the panel scanner leaves as it was. -/

namespace Sys2Proof.Machine

@[simp] theorem updateKey_frame (k : Key) (f : KeyLine → KeyLine) (s : State) :
    SameCore s (updateKey k f s) ∧ SameBooks s (updateKey k f s) ∧ SameRadio s (updateKey k f s) ∧
    SameTalk s (updateKey k f s) ∧ (updateKey k f s).locator = s.locator ∧
    (updateKey k f s).store = s.store ∧ (updateKey k f s).link = s.link := by and_intros <;> rfl

@[simp] theorem changeRaw_frame (i : Input) (level : Bool) (s : State) :
    SameCore s (changeRaw i level s) ∧ SameBooks s (changeRaw i level s) ∧
    SameRadio s (changeRaw i level s) ∧ SameTalk s (changeRaw i level s) ∧
    (changeRaw i level s).locator = s.locator ∧ (changeRaw i level s).store = s.store ∧
    (changeRaw i level s).link = s.link := by
  unfold changeRaw; (repeat' split) <;> simp [SameCore, SameBooks, SameRadio, SameTalk]

@[simp] theorem startPark_frame (s : State) :
    SameCore s (startPark s) ∧ SameInputs s (startPark s) ∧ SameBooks s (startPark s) ∧
    SameTalk s (startPark s) ∧ (startPark s).scheduler = s.scheduler ∧ (startPark s).link = s.link := by and_intros <;> rfl

@[simp] theorem settleInput_frame (i : Input) (s : State) :
    SameCore s (settleInput i s) ∧ SameBooks s (settleInput i s) ∧ SameTalk s (settleInput i s) ∧
    (settleInput i s).scheduler = s.scheduler ∧ (settleInput i s).locator = s.locator ∧
    (settleInput i s).store = s.store ∧ (settleInput i s).link = s.link := by
  unfold settleInput; (repeat' split) <;> simp [SameCore, SameBooks, SameTalk]

@[simp] theorem recordKey_frame (k : Key) (x : Option Reason × State) :
    SameCore x.2 (recordKey k x) ∧ SameBooks x.2 (recordKey k x) ∧ SameRadio x.2 (recordKey k x) ∧
    SameTalk x.2 (recordKey k x) ∧ (recordKey k x).locator = x.2.locator ∧
    (recordKey k x).store = x.2.store := by and_intros <;> rfl

@[simp] theorem routePress_frame (k : Key) (s : State) :
    SameCore s (routePress k s) ∧ (routePress k s).locator = s.locator ∧
    (routePress k s).inbox = s.inbox ∧ (routePress k s).emergency = s.emergency ∧
    (routePress k s).store = s.store := by
  unfold routePress
  split <;> simp [SameCore]

@[simp] theorem pressKey_frame (k : Key) (s : State) :
    SameCore s (pressKey k s) ∧ (pressKey k s).locator = s.locator ∧ (pressKey k s).inbox = s.inbox ∧
    (pressKey k s).emergency = s.emergency ∧ (pressKey k s).store = s.store := by simp [pressKey, SameCore]

@[simp] theorem releaseKey_frame (k : Key) (s : State) :
    SameCore s (releaseKey k s) ∧ SameBooks s (releaseKey k s) ∧ SameRadio s (releaseKey k s) ∧
    SameTalk s (releaseKey k s) ∧ (releaseKey k s).locator = s.locator ∧
    (releaseKey k s).store = s.store ∧ (releaseKey k s).link = s.link := by
  unfold releaseKey; (repeat' split) <;> simp [SameCore, SameBooks, SameRadio, SameTalk]

@[simp] theorem armPanic_frame (s : State) :
    SameCore s (armPanic s) ∧ (armPanic s).locator = s.locator ∧ (armPanic s).accounts = s.accounts ∧
    (armPanic s).inbox = s.inbox ∧ (armPanic s).store = s.store := by simp [armPanic, SameCore]

@[simp] theorem endHold_frame (k : Key) (s : State) :
    SameCore s (endHold k s) ∧ (endHold k s).locator = s.locator ∧ (endHold k s).accounts = s.accounts ∧
    (endHold k s).inbox = s.inbox ∧ (endHold k s).store = s.store := by
  unfold endHold; split <;> simp [SameCore]

@[simp] theorem stickKey_frame (k : Key) (s : State) :
    SameCore s (stickKey k s) ∧ SameBooks s (stickKey k s) ∧ SameRadio s (stickKey k s) ∧
    SameTalk s (stickKey k s) ∧ (stickKey k s).locator = s.locator ∧ (stickKey k s).store = s.store := by
  unfold stickKey; (repeat' split) <;> simp [SameCore, SameBooks, SameRadio, SameTalk]

@[simp] theorem endPark_frame (s : State) :
    SameCore s (endPark s) ∧ SameInputs s (endPark s) ∧ SameBooks s (endPark s) ∧
    SameTalk s (endPark s) ∧ (endPark s).scheduler = s.scheduler := by simp [endPark, SameCore, SameInputs, SameBooks, SameTalk]

@[simp] theorem changeIgnition_frame (s : State) :
    SameCore s (changeIgnition s) ∧ SameBooks s (changeIgnition s) ∧ SameTalk s (changeIgnition s) ∧
    (changeIgnition s).scheduler = s.scheduler ∧ (changeIgnition s).locator = s.locator ∧
    (changeIgnition s).store = s.store := by
  unfold changeIgnition; (repeat' split) <;> simp [SameCore, SameBooks, SameTalk]

@[simp] theorem countPulse_frame (s : State) :
    SameCore s (countPulse s) ∧ SameBooks s (countPulse s) ∧ SameRadio s (countPulse s) ∧
    SameTalk s (countPulse s) ∧ (countPulse s).locator = s.locator ∧ (countPulse s).store = s.store ∧
    (countPulse s).link = s.link := by and_intros <;> rfl

@[simp] theorem servePanelStatus_frame (restart : Nat) (s : State) :
    SameCore s (servePanelStatus restart s) ∧ SameBooks s (servePanelStatus restart s) ∧
    SameRadio s (servePanelStatus restart s) ∧ SameTalk s (servePanelStatus restart s) ∧
    (servePanelStatus restart s).locator = s.locator ∧ (servePanelStatus restart s).store = s.store := by
  unfold servePanelStatus; (repeat' split) <;> simp [SameCore, SameBooks, SameRadio, SameTalk]

end Sys2Proof.Machine
end

