-- ==== Sys2Proof/Laws/SettingsFrames.lean ====
section
/-! SUPPORT. What each operation of the settings store leaves as it was. -/

namespace Sys2Proof.Machine

@[simp] theorem followAlertMode_frame (old : AlertMode) (s : State) :
    SameCore s (followAlertMode old s) ∧ SameInputs s (followAlertMode old s) ∧
    SameBooks s (followAlertMode old s) ∧ SameRadio s (followAlertMode old s) ∧
    (followAlertMode old s).board = s.board ∧ (followAlertMode old s).inbox = s.inbox ∧
    (followAlertMode old s).link = s.link := by
  unfold followAlertMode; dsimp only; (repeat' split) <;> simp [SameCore, SameInputs, SameBooks, SameRadio]

@[simp] theorem installWorking_frame (w : Settings) (s : State) :
    SameCore s (installWorking w s) ∧ SameBooks s (installWorking w s) ∧
    SameRadio s (installWorking w s) ∧ (installWorking w s).locator = s.locator ∧
    (installWorking w s).panel = s.panel ∧ (installWorking w s).board = s.board ∧
    (installWorking w s).inbox = s.inbox ∧ (installWorking w s).link = s.link := by simp [installWorking, SameCore, SameBooks, SameRadio]

@[simp] theorem serveSettingWrite_frame (a : SettingArgs) (s : State) :
    SameCore s (serveSettingWrite a s) ∧ SameBooks s (serveSettingWrite a s) ∧
    SameRadio s (serveSettingWrite a s) ∧ (serveSettingWrite a s).locator = s.locator ∧
    (serveSettingWrite a s).panel = s.panel ∧ (serveSettingWrite a s).board = s.board ∧
    (serveSettingWrite a s).inbox = s.inbox := by
  unfold serveSettingWrite; (repeat' split) <;> simp [SameCore, SameBooks, SameRadio]

@[simp] theorem serveCannedWrite_frame (a : CannedArgs) (s : State) :
    SameCore s (serveCannedWrite a s) ∧ SameBooks s (serveCannedWrite a s) ∧
    SameRadio s (serveCannedWrite a s) ∧ SameTalk s (serveCannedWrite a s) ∧
    (serveCannedWrite a s).locator = s.locator ∧ (serveCannedWrite a s).panel = s.panel := by
  unfold serveCannedWrite; (repeat' split) <;> simp [SameCore, SameBooks, SameRadio, SameTalk]

@[simp] theorem updateMetrology_frame (f : Metrology → Metrology) (s : State) :
    SameCore s (updateMetrology f s) ∧ SameBooks s (updateMetrology f s) ∧
    SameRadio s (updateMetrology f s) ∧ SameTalk s (updateMetrology f s) ∧
    (updateMetrology f s).locator = s.locator ∧ (updateMetrology f s).panel = s.panel ∧
    (updateMetrology f s).link = s.link := by and_intros <;> rfl

@[simp] theorem serveTariffWrite_frame (a : TariffArgs) (s : State) :
    SameCore s (serveTariffWrite a s) ∧ SameBooks s (serveTariffWrite a s) ∧
    SameRadio s (serveTariffWrite a s) ∧ SameTalk s (serveTariffWrite a s) ∧
    (serveTariffWrite a s).locator = s.locator ∧ (serveTariffWrite a s).panel = s.panel := by
  unfold serveTariffWrite; (repeat' split) <;> simp [SameCore, SameBooks, SameRadio, SameTalk]

@[simp] theorem serveBandsWrite_frame (a : BandsArgs) (s : State) :
    SameCore s (serveBandsWrite a s) ∧ SameBooks s (serveBandsWrite a s) ∧
    SameRadio s (serveBandsWrite a s) ∧ SameTalk s (serveBandsWrite a s) ∧
    (serveBandsWrite a s).locator = s.locator ∧ (serveBandsWrite a s).panel = s.panel := by
  unfold serveBandsWrite; dsimp only; (repeat' split) <;> simp [SameCore, SameBooks, SameRadio, SameTalk]

@[simp] theorem serveSettingRead_frame (q : SettingSelector) (s : State) :
    SameCore s (serveSettingRead q s) ∧ SameInputs s (serveSettingRead q s) ∧
    SameBooks s (serveSettingRead q s) ∧ SameRadio s (serveSettingRead q s) ∧
    SameTalk s (serveSettingRead q s) := by
  unfold serveSettingRead; (repeat' split) <;> simp [SameCore, SameInputs, SameBooks, SameRadio, SameTalk]

@[simp] theorem beginCommit_frame (s : State) :
    SameCore s (beginCommit s) ∧ SameRadio s (beginCommit s) ∧ SameTalk s (beginCommit s) ∧
    (beginCommit s).locator = s.locator ∧ (beginCommit s).panel = s.panel ∧
    (beginCommit s).meter = s.meter ∧ (beginCommit s).accounts = s.accounts ∧
    (beginCommit s).link = s.link := by and_intros <;> rfl

@[simp] theorem serveCommit_frame (s : State) :
    SameCore s (serveCommit s) ∧ SameRadio s (serveCommit s) ∧ SameTalk s (serveCommit s) ∧
    (serveCommit s).locator = s.locator ∧ (serveCommit s).panel = s.panel ∧
    (serveCommit s).meter = s.meter ∧ (serveCommit s).accounts = s.accounts := by
  unfold serveCommit; (repeat' split) <;> simp [SameCore, SameRadio, SameTalk]

@[simp] theorem serveRevert_frame (s : State) :
    SameCore s (serveRevert s) ∧ SameBooks s (serveRevert s) ∧ SameRadio s (serveRevert s) ∧
    (serveRevert s).locator = s.locator ∧ (serveRevert s).panel = s.panel ∧
    (serveRevert s).board = s.board ∧ (serveRevert s).inbox = s.inbox := by
  unfold serveRevert; (repeat' split) <;> simp [SameCore, SameBooks, SameRadio]

@[simp] theorem countFailure_frame (s : State) :
    SameCore s (countFailure s) ∧ SameBooks s (countFailure s) ∧ SameRadio s (countFailure s) ∧
    SameTalk s (countFailure s) ∧ (countFailure s).locator = s.locator ∧
    (countFailure s).panel = s.panel ∧ (countFailure s).link = s.link := by and_intros <;> rfl

@[simp] theorem serveCodeEnter_frame (code : Digits) (s : State) :
    SameCore s (serveCodeEnter code s) ∧ SameBooks s (serveCodeEnter code s) ∧
    SameRadio s (serveCodeEnter code s) ∧ SameTalk s (serveCodeEnter code s) ∧
    (serveCodeEnter code s).locator = s.locator ∧ (serveCodeEnter code s).panel = s.panel := by
  unfold serveCodeEnter; (repeat' split) <;> simp [SameCore, SameBooks, SameRadio, SameTalk]

@[simp] theorem dropLevel_frame (s : State) :
    SameCore s (dropLevel s) ∧ SameBooks s (dropLevel s) ∧ SameRadio s (dropLevel s) ∧
    SameTalk s (dropLevel s) ∧ (dropLevel s).locator = s.locator ∧ (dropLevel s).panel = s.panel ∧
    (dropLevel s).link = s.link := by and_intros <;> rfl

end Sys2Proof.Machine
end

