-- ==== Sys2Proof/Laws/WriterFrames.lean ====
section
/-! SUPPORT. What each operation of the store writer leaves as it was. -/

namespace Sys2Proof.Machine

@[simp] theorem noteStart_frame (item : WriteItem) (s : State) :
    SameCore s (noteStart item s) ∧ SameRadio s (noteStart item s) ∧ SameTalk s (noteStart item s) ∧
    (noteStart item s).locator = s.locator ∧ (noteStart item s).panel = s.panel ∧
    (noteStart item s).meter = s.meter ∧ (noteStart item s).writer = s.writer ∧
    (noteStart item s).link = s.link := by
  unfold noteStart; (repeat' split) <;> simp [SameCore, SameRadio, SameTalk]

@[simp] theorem startWrite_frame (s : State) :
    SameCore s (startWrite s) ∧ SameRadio s (startWrite s) ∧ SameTalk s (startWrite s) ∧
    (startWrite s).locator = s.locator ∧ (startWrite s).panel = s.panel ∧
    (startWrite s).meter = s.meter ∧ (startWrite s).link = s.link := by
  unfold startWrite; (repeat' split) <;> simp [SameCore, SameRadio, SameTalk]

@[simp] theorem totalsWritten_frame (copy : Copy) (c : TotalsCopy) (s : State) :
    SameCore s (totalsWritten copy c s) ∧ SameInputs s (totalsWritten copy c s) ∧
    SameRadio s (totalsWritten copy c s) ∧ SameTalk s (totalsWritten copy c s) ∧
    (totalsWritten copy c s).meter = s.meter ∧ (totalsWritten copy c s).writer = s.writer := by
  unfold totalsWritten; (repeat' split) <;> simp [SameCore, SameInputs, SameRadio, SameTalk]

@[simp] theorem settingsWritten_frame (copy : Copy) (c : SettingsCopy) (s : State) :
    SameCore s (settingsWritten copy c s) ∧ SameBooks s (settingsWritten copy c s) ∧
    SameRadio s (settingsWritten copy c s) ∧ SameTalk s (settingsWritten copy c s) ∧
    (settingsWritten copy c s).locator = s.locator ∧ (settingsWritten copy c s).panel = s.panel := by and_intros <;> rfl

@[simp] theorem noteCompletion_frame (item : WriteItem) (s : State) :
    SameCore s (noteCompletion item s) ∧ SameRadio s (noteCompletion item s) ∧
    SameTalk s (noteCompletion item s) ∧ (noteCompletion item s).locator = s.locator ∧
    (noteCompletion item s).panel = s.panel ∧ (noteCompletion item s).meter = s.meter ∧
    (noteCompletion item s).writer = s.writer := by
  unfold noteCompletion; (repeat' split) <;> simp [SameCore, SameRadio, SameTalk]

@[simp] theorem completeWrite_frame (s : State) :
    SameRadio s (completeWrite s) ∧ SameTalk s (completeWrite s) ∧
    (completeWrite s).powered = s.powered ∧ (completeWrite s).now = s.now ∧
    (completeWrite s).locator = s.locator ∧ (completeWrite s).panel = s.panel ∧
    (completeWrite s).meter = s.meter ∧ (completeWrite s).freeIndex = s.freeIndex ∧
    (completeWrite s).pending = s.pending := by
  unfold completeWrite; (repeat' split) <;> simp [SameRadio, SameTalk]

end Sys2Proof.Machine
end

