-- ==== Sys2Proof/Laws/PowerFrames.lean ====
section
/-! SUPPORT. What each operation of power loss and power-on leaves as it was. -/

namespace Sys2Proof.Machine

@[simp] theorem loseSupply_frame (s : State) :
    SameInputs s (loseSupply s) ∧ SameTalk s (loseSupply s) ∧ (loseSupply s).now = s.now ∧
    (loseSupply s).scheduler = s.scheduler ∧ (loseSupply s).meter = s.meter ∧
    (loseSupply s).accounts = s.accounts ∧ (loseSupply s).nonvolatile = s.nonvolatile ∧
    (loseSupply s).freeIndex = s.freeIndex ∧ (loseSupply s).pending = s.pending := by and_intros <;> rfl

@[simp] theorem losePower_frame (s : State) :
    SameInputs s (losePower s) ∧ SameTalk s (losePower s) ∧ (losePower s).now = s.now ∧
    (losePower s).scheduler = s.scheduler ∧ (losePower s).meter = s.meter ∧
    (losePower s).accounts = s.accounts ∧ (losePower s).freeIndex = s.freeIndex ∧
    (losePower s).pending = s.pending := by
  unfold losePower; (repeat' split) <;> simp [SameInputs, SameTalk]

@[simp] theorem settleWrite_frame (s : State) :
    SameInputs s (settleWrite s) ∧ SameBooks s (settleWrite s) ∧ SameRadio s (settleWrite s) ∧
    SameTalk s (settleWrite s) ∧ (settleWrite s).powered = s.powered ∧ (settleWrite s).now = s.now ∧
    (settleWrite s).link = s.link ∧ (settleWrite s).pending = s.pending := by
  unfold settleWrite; (repeat' split) <;> simp [SameInputs, SameBooks, SameRadio, SameTalk]

@[simp] theorem loadSettings_frame (s : State) :
    SameCore s (loadSettings s) ∧ SameBooks s (loadSettings s) ∧ SameRadio s (loadSettings s) ∧
    SameTalk s (loadSettings s) ∧ (loadSettings s).locator = s.locator ∧ (loadSettings s).panel = s.panel := by
  unfold loadSettings; (repeat' split) <;> simp [SameCore, SameBooks, SameRadio, SameTalk]

@[simp] theorem loadTotals_frame (s : State) :
    SameCore s (loadTotals s) ∧ SameInputs s (loadTotals s) ∧ SameRadio s (loadTotals s) ∧
    SameTalk s (loadTotals s) ∧ (loadTotals s).meter = s.meter ∧ (loadTotals s).writer = s.writer := by
  unfold loadTotals; (repeat' split) <;> simp [SameCore, SameInputs, SameRadio, SameTalk]

@[simp] theorem loadLog_frame (s : State) :
    SameCore s (loadLog s) ∧ SameInputs s (loadLog s) ∧ SameRadio s (loadLog s) ∧
    SameTalk s (loadLog s) ∧ (loadLog s).meter = s.meter ∧ (loadLog s).writer = s.writer := by
  unfold loadLog; (repeat' split) <;> simp [SameCore, SameInputs, SameRadio, SameTalk]

@[simp] theorem loadCheckpoint_frame (s : State) :
    SameCore s (loadCheckpoint s) ∧ SameInputs s (loadCheckpoint s) ∧ SameRadio s (loadCheckpoint s) ∧
    SameTalk s (loadCheckpoint s) ∧ (loadCheckpoint s).meter = s.meter ∧
    (loadCheckpoint s).writer = s.writer := by
  unfold loadCheckpoint; (repeat' split) <;> simp [SameCore, SameInputs, SameRadio, SameTalk]

@[simp] theorem repairLog_frame (s : State) :
    SameCore s (repairLog s) ∧ SameInputs s (repairLog s) ∧ SameTalk s (repairLog s) ∧
    (repairLog s).receiver = s.receiver ∧ (repairLog s).meter = s.meter ∧ (repairLog s).link = s.link := by
  unfold repairLog; (repeat' split) <;> simp [SameCore, SameInputs, SameTalk]

@[simp] theorem repairTotals_frame (s : State) :
    SameCore s (repairTotals s) ∧ SameInputs s (repairTotals s) ∧ SameRadio s (repairTotals s) ∧
    SameTalk s (repairTotals s) ∧ (repairTotals s).meter = s.meter ∧ (repairTotals s).link = s.link := by
  unfold repairTotals
  split
  · split
    · simp [SameCore, SameInputs, SameRadio, SameTalk]
    · rename_i e es _
      have h := foldl_keeps (fun t => SameCore s t ∧ SameInputs s t ∧ SameRadio s t ∧ SameTalk s t ∧
          t.meter = s.meter ∧ t.link = s.link)
        (fun (u : State) (x : LogEntry) => updateTotals (addTrip x.record) u)
        (by intros; simp_all [SameCore, SameInputs, SameRadio, SameTalk]) (e :: es) s
        (by simp [SameCore, SameInputs, SameRadio, SameTalk])
      simp_all [SameCore, SameInputs, SameRadio, SameTalk]
  · simp [SameCore, SameInputs, SameRadio, SameTalk]

@[simp] theorem recoverTrip_frame (s : State) :
    SameCore s (recoverTrip s) ∧ SameInputs s (recoverTrip s) ∧ SameTalk s (recoverTrip s) ∧
    (recoverTrip s).receiver = s.receiver ∧ (recoverTrip s).meter = s.meter ∧
    (recoverTrip s).link = s.link := by
  unfold recoverTrip; (repeat' split) <;> simp [SameCore, SameInputs, SameTalk]

@[simp] theorem resumeEmergency_frame (state : EmState) (mark : MarkKind) (s : State) :
    SameCore s (resumeEmergency state mark s) ∧ SameInputs s (resumeEmergency state mark s) ∧
    SameBooks s (resumeEmergency state mark s) ∧ (resumeEmergency state mark s).board = s.board ∧
    (resumeEmergency state mark s).inbox = s.inbox := by simp [resumeEmergency, SameCore, SameInputs, SameBooks]

@[simp] theorem resumeActive_frame (s : State) :
    SameCore s (resumeActive s) ∧ SameInputs s (resumeActive s) ∧ SameBooks s (resumeActive s) ∧
    (resumeActive s).board = s.board ∧ (resumeActive s).inbox = s.inbox := by simp [resumeActive, SameCore, SameInputs, SameBooks]

@[simp] theorem loadMark_frame (s : State) :
    SameCore s (loadMark s) ∧ SameInputs s (loadMark s) ∧ (loadMark s).board = s.board ∧
    (loadMark s).meter = s.meter ∧ (loadMark s).accounts = s.accounts ∧ (loadMark s).inbox = s.inbox := by
  unfold loadMark; (repeat' split) <;> simp [SameCore, SameInputs]

@[simp] theorem startMeter_frame (s : State) :
    SameCore s (startMeter s) ∧ SameInputs s (startMeter s) ∧ SameRadio s (startMeter s) ∧
    SameTalk s (startMeter s) ∧ (startMeter s).accounts = s.accounts ∧ (startMeter s).writer = s.writer ∧
    (startMeter s).link = s.link := by and_intros <;> rfl

@[simp] theorem findVoice_frame (s : State) :
    SameCore s (findVoice s) ∧ SameInputs s (findVoice s) ∧ SameBooks s (findVoice s) ∧
    SameTalk s (findVoice s) ∧ (findVoice s).scheduler = s.scheduler ∧ (findVoice s).link = s.link := by
  unfold findVoice; (repeat' split) <;> simp [SameCore, SameInputs, SameBooks, SameTalk]

end Sys2Proof.Machine
end

