-- ==== Sys2Proof/Laws/LinkFrames.lean ====
section
/-! SUPPORT. What each operation of the host link leaves as it was, and what bytes of the line can do. -/

namespace Sys2Proof.Machine

@[simp] theorem beginFrame_frame (s : State) :
    SameCore s (beginFrame s) ∧ SameInputs s (beginFrame s) ∧ SameBooks s (beginFrame s) ∧
    SameRadio s (beginFrame s) ∧ SameTalk s (beginFrame s) := by
  unfold beginFrame; dsimp only; (repeat' split) <;> simp [SameCore, SameInputs, SameBooks, SameRadio, SameTalk]

@[simp] theorem endBad_frame (s : State) :
    SameCore s (endBad s) ∧ SameInputs s (endBad s) ∧ SameBooks s (endBad s) ∧ SameRadio s (endBad s) ∧
    SameTalk s (endBad s) := by
  unfold endBad; (repeat' split) <;> simp [SameCore, SameInputs, SameBooks, SameRadio, SameTalk]

@[simp] theorem endReply_frame (s : State) :
    SameCore s (endReply s) ∧ SameInputs s (endReply s) ∧ SameBooks s (endReply s) ∧
    SameRadio s (endReply s) ∧ SameTalk s (endReply s) := by
  unfold endReply; (repeat' split) <;> simp [SameCore, SameInputs, SameBooks, SameRadio, SameTalk]

@[simp] theorem serveFetchEvent_frame (s : State) :
    SameCore s (serveFetchEvent s) ∧ SameInputs s (serveFetchEvent s) ∧ SameBooks s (serveFetchEvent s) ∧
    SameRadio s (serveFetchEvent s) ∧ SameTalk s (serveFetchEvent s) := by
  unfold serveFetchEvent; (repeat' split) <;> simp [SameCore, SameInputs, SameBooks, SameRadio, SameTalk]

@[simp] theorem serveRestart_frame (s : State) :
    SameCore s (serveRestart s) ∧ SameBooks s (serveRestart s) ∧ SameRadio s (serveRestart s) ∧
    SameTalk s (serveRestart s) ∧ (serveRestart s).locator = s.locator ∧ (serveRestart s).panel = s.panel := by
  and_intros <;> rfl

@[simp] theorem serveIdentify_frame (s : State) :
    SameCore s (serveIdentify s) ∧ SameInputs s (serveIdentify s) ∧ SameBooks s (serveIdentify s) ∧
    SameRadio s (serveIdentify s) ∧ SameTalk s (serveIdentify s) := by and_intros <;> rfl

/-- What a request that is served leaves as it was: the clock, the power, the nonvolatile memory, the queue of the
commands that wait. -/
@[simp] theorem serveRequest_frame (c : Instr) (s : State) : SameCore s (serveRequest c s) := by
  cases c <;> first
    | exact ⟨rfl, rfl, rfl, rfl, rfl⟩
    | (rename_i p; cases p <;> simp [serveRequest, handOn, SameCore])

/-! ### What bytes of the line can do -/

/-- A property of the part that each thing a byte of the line can do keeps: a change of the receiver, the lead byte of
an early frame, the BAD_FRAME reply, and a request taken from a good frame. -/
structure KeptByBytes (P : State → Prop) : Prop where
  receiver : ∀ f s, P s → P (updateRx f s)
  early : ∀ s, P s → P (beginEarlyFrame s)
  bad : ∀ s, P s → P (answer .bad .badFrame [] s)
  served : ∀ c s, P s → P (serveRequest c s)

theorem KeptByBytes.hunt {P : State → Prop} (k : KeptByBytes P) (s : State) (h : P s) : P (hunt s) := k.receiver _ s h

theorem KeptByBytes.dropStale {P : State → Prop} (k : KeptByBytes P) (s : State) (h : P s) : P (dropStale s) := by
  unfold Machine.dropStale; split
  · exact k.hunt s h
  · exact h

theorem KeptByBytes.beginFrame {P : State → Prop} (k : KeptByBytes P) (s : State) (h : P s) : P (beginFrame s) := by
  unfold Machine.beginFrame; dsimp only; split
  · exact k.early _ (k.receiver _ s h)
  · exact k.receiver _ s h

theorem KeptByBytes.endBad {P : State → Prop} (k : KeptByBytes P) (s : State) (h : P s) : P (endBad s) := by
  unfold Machine.endBad; dsimp only; split
  · exact k.hunt s h
  · exact k.bad _ (k.hunt s h)

theorem KeptByBytes.judgeFrame {P : State → Prop} (k : KeptByBytes P) (s : State) (h : P s) : P (judgeFrame s) := by
  unfold Machine.judgeFrame serveBody; dsimp only; split
  · exact k.endBad s h
  · split
    · exact k.hunt s h
    · exact k.served _ _ (k.hunt s h)

/-- What each thing a byte can do keeps, one byte keeps. -/
theorem KeptByBytes.takeByte {P : State → Prop} (k : KeptByBytes P) (b : LineByte) (s : State) (h : P s) :
    P (takeByte b s) := by
  unfold Machine.takeByte; dsimp only
  split <;> (try split) <;> first
    | exact h
    | exact k.beginFrame s h
    | exact k.receiver _ _ (k.receiver _ s h)
    | exact k.receiver _ s h
    | exact k.endBad _ (k.receiver _ s h)
    | exact k.judgeFrame _ (k.receiver _ s h)

/-- What each thing a byte can do keeps, any bytes keep. -/
theorem KeptByBytes.takeLineBytes {P : State → Prop} (k : KeptByBytes P) (l : List LineByte) (s : State) (h : P s) :
    P (takeLineBytes l s) := by
  induction l generalizing s with
  | nil => exact h
  | cons b l ih => exact ih _ (k.takeByte b _ (k.receiver _ s h))

theorem KeptByBytes.receiveBytes {P : State → Prop} (k : KeptByBytes P) (l : List LineByte) (s : State) (h : P s) :
    P (receiveBytes l s) := by
  unfold Machine.receiveBytes; split
  · exact k.takeLineBytes l _ (k.dropStale s h)
  · exact h

/-- What each thing a byte can do keeps, a whole frame keeps, if what follows another frame does. -/
theorem KeptByBytes.receiveFrame {P : State → Prop} (k : KeptByBytes P) (c : Instr) (follow : State → State)
    (hf : ∀ s, P s → P (follow s)) (s : State) (h : P s) : P (receiveFrame c follow s) := by
  unfold Machine.receiveFrame huntFrame; dsimp only
  (repeat' split) <;> first
    | exact k.early _ (k.dropStale s h)
    | exact k.served _ _ (k.dropStale s h)
    | exact hf _ (k.dropStale s h)
    | exact h

/-- What each thing a byte can do keeps, a request command keeps. -/
theorem KeptByBytes.request {P : State → Prop} (k : KeptByBytes P) (c : Instr) (s : State) (h : P s) :
    P (request c s) := k.receiveFrame c _ (fun t ht => k.takeLineBytes _ t ht) s h

/-- What each thing a byte can do keeps, and another index of the free values too, an unrecognised tag keeps. -/
theorem KeptByBytes.unknown {P : State → Prop} (k : KeptByBytes P)
    (hi : ∀ s, P s → P { s with freeIndex := s.freeIndex + 1 }) (t0 t1 t2 t3 : Byte) (s : State) (h : P s) :
    P (Machine.receiveFrame (.unknownRequest t0 t1 t2 t3) (followUnknown t0 t1 t2 t3) s) :=
  k.receiveFrame _ _ (fun t ht => k.takeLineBytes _ _ (hi t ht)) s h

/-- Bytes of the line leave the clock, the power, the nonvolatile memory and the queue of the commands that wait. -/
theorem sameCore_keptByBytes (s : State) : KeptByBytes (SameCore s) where
  receiver f t h := by simp_all [SameCore]
  early t h := by simp_all [SameCore]
  bad t h := by simp_all [SameCore]
  served c t h := by
    have := serveRequest_frame c t
    simp_all [SameCore]

@[simp] theorem receiveBytes_frame (bytes : List LineByte) (s : State) : SameCore s (receiveBytes bytes s) :=
  (sameCore_keptByBytes s).receiveBytes bytes s ⟨rfl, rfl, rfl, rfl, rfl⟩

/-- An unrecognised tag leaves the clock, the power, the nonvolatile memory and the queue of the commands that wait;
it may read one free value. -/
theorem unknown_frame (t0 t1 t2 t3 : Byte) (s : State) :
    let t := receiveFrame (.unknownRequest t0 t1 t2 t3) (followUnknown t0 t1 t2 t3) s
    t.powered = s.powered ∧ t.now = s.now ∧ t.pending = s.pending ∧ t.nonvolatile = s.nonvolatile := by
  refine KeptByBytes.unknown (P := fun t => t.powered = s.powered ∧ t.now = s.now ∧ t.pending = s.pending ∧
    t.nonvolatile = s.nonvolatile) ⟨?_, ?_, ?_, ?_⟩ ?_ t0 t1 t2 t3 s ⟨rfl, rfl, rfl, rfl⟩
  · intro f t h; simp_all
  · intro t h; simp_all
  · intro t h; simp_all
  · intro c t h
    have := serveRequest_frame c t
    simp_all
  · intro t h; simpa using h

@[simp] theorem request_frame (c : Instr) (s : State) : SameCore s (request c s) :=
  (sameCore_keptByBytes s).request c s ⟨rfl, rfl, rfl, rfl, rfl⟩

end Sys2Proof.Machine
end

