-- ==== Sys2Proof/Laws/Ops.lean ====
section
/-! SUPPORT. What each shared operation of Machine/Ops.lean, Machine/Board.lean, Machine/Items.lean and
Machine/Link.lean does, said once: the lemmas that a proof cites in place of unfolding the operation. -/

namespace Sys2Proof.Machine

/-! ### The clock -/

@[simp] theorem advanceTo_now (t : Nat) (s : State) : (advanceTo t s).now = max s.now t := rfl

@[simp] theorem advanceTo_zero (s : State) : advanceTo 0 s = s := by simp [advanceTo]

@[simp] theorem atInstant_none (effect : State → State) (s : State) : atInstant none effect s = s := rfl

@[simp] theorem atInstant_some (t : Nat) (effect : State → State) (s : State) :
    atInstant (some t) effect s = effect (advanceTo t s) := rfl

/-! ### The frame receiver -/

/-- In HUNT there is no frame to drop. -/
theorem dropStale_hunt (s : State) (h : s.link.rx.phase = .hunt) : dropStale s = s := by simp [dropStale, h]

/-- A frame whose last byte came no more than 20 ms ago is followed on. -/
theorem dropStale_live (s : State) (h : s.now ≤ s.link.rx.lastByte + 20) : dropStale s = s := by
  simp [dropStale, Config.gapMs, Nat.not_lt.mpr h]

/-- A frame whose last byte came more than 20 ms ago is dropped. -/
theorem dropStale_stale (s : State) (hr : s.link.rx.phase ≠ .hunt) (h : s.link.rx.lastByte + 20 < s.now) :
    dropStale s = hunt s := by simp [dropStale, Config.gapMs, hr, h]

@[simp] theorem hunt_phase (s : State) : (hunt s).link.rx.phase = .hunt := rfl

/-- A frame already dropped is not dropped again. -/
@[simp] theorem dropStale_idem (s : State) : dropStale (dropStale s) = dropStale s := by
  by_cases h : s.link.rx.phase ≠ .hunt ∧ s.link.rx.lastByte + Config.gapMs < s.now
  · rw [dropStale_stale s h.1 h.2]; exact dropStale_hunt _ rfl
  · have e : dropStale s = s := by simp only [dropStale, if_neg h]
    rw [e, e]

/-! ### Requests -/

/-- A request that meets a listening part is served. -/
theorem request_listening (c : Instr) (s : State)
    (h : s.powered = true ∧ s.link.rx.phase = .hunt ∧ s.link.owed = none) : request c s = serveRequest c s := by
  simp [request, receiveFrame, huntFrame, dropStale_hunt s h.2.1, h.1, h.2.1, h.2.2]

theorem request_early (c : Instr) (s : State)
    (hp : s.powered = true) (hr : s.link.rx.phase = .hunt) (ho : s.link.owed ≠ none) :
    request c s = beginEarlyFrame s := by
  have h : s.link.owed.isSome = true := Option.isSome_iff_ne_none.mpr ho
  simp [request, receiveFrame, huntFrame, dropStale_hunt s hr, hp, hr, h]

theorem request_unpowered (c : Instr) (s : State) (h : s.powered = false) : request c s = s := by
  simp [request, receiveFrame, h]

/-- The bytes of a request that comes while a frame is followed are received as that frame's. -/
theorem request_followed (c : Instr) (s : State) (hp : s.powered = true) (hr : s.link.rx.phase ≠ .hunt)
    (h : s.now ≤ s.link.rx.lastByte + 20) :
    request c s = takeLineBytes (unbroken (requestFrame c)) s := by
  simp [request, receiveFrame, dropStale_live s h, hp, hr]

/-- A request that meets a frame cut short by a long gap is taken as one that meets HUNT. -/
theorem request_stale (c : Instr) (s : State)
    (hp : s.powered = true) (hr : s.link.rx.phase ≠ .hunt) (h : s.link.rx.lastByte + 20 < s.now) :
    request c s = request c (hunt s) := by
  simp [request, receiveFrame, dropStale_stale s hr h, dropStale_hunt (hunt s) rfl, hp]

/-- Whatever a request does, it is one of four, a frame cut short having been dropped first: nothing without power, an
early frame, the block's own service, or bytes of the frame that is followed. -/
theorem request_cases (c : Instr) (s : State) :
    (s.powered = false ∧ request c s = s) ∨ request c s = beginEarlyFrame (dropStale s) ∨
      request c s = serveRequest c (dropStale s) ∨
      ((dropStale s).link.rx.phase ≠ .hunt ∧
        request c s = takeLineBytes (unbroken (requestFrame c)) (dropStale s)) := by
  unfold request receiveFrame huntFrame
  dsimp only
  (repeat' split) <;> simp_all

/-! ### The pending-event set -/

@[simp] theorem mem_insertEvent (j k : EventKind) (l : List EventKind) :
    j ∈ insertEvent k l ↔ j = k ∨ j ∈ l := by
  induction l with
  | nil => simp [insertEvent]
  | cons e es ih =>
    unfold insertEvent
    split
    · rename_i h; subst h; simp
    · split <;> simp [ih, or_left_comm]

theorem insertEvent_ordered (k : EventKind) (l : List EventKind)
    (h : l.Pairwise fun a b => a.urgency < b.urgency) :
    (insertEvent k l).Pairwise fun a b => a.urgency < b.urgency := by
  induction l with
  | nil => simp [insertEvent]
  | cons e es ih =>
    obtain ⟨he, hes⟩ := List.pairwise_cons.mp h
    unfold insertEvent
    split
    · exact h
    · rename_i hk
      split
      · rename_i hlt
        refine List.pairwise_cons.mpr ⟨?_, h⟩
        rintro x (_ | ⟨_, hx⟩)
        · exact hlt
        · exact lt_trans hlt (he x hx)
      · rename_i hlt
        refine List.pairwise_cons.mpr ⟨fun x hx => ?_, ih hes⟩
        rcases (mem_insertEvent x k es).mp hx with rfl | hx
        · have : e.urgency ≠ x.urgency := by
            intro hu; apply hk; revert hu; cases e <;> cases x <;> simp [EventKind.urgency]
          omega
        · exact he x hx

@[simp] theorem raise_events (k : EventKind) (s : State) :
    (raise k s).link.events = insertEvent k s.link.events := rfl

@[simp] theorem raise_link (k : EventKind) (s : State) :
    (raise k s).link = { s.link with events := insertEvent k s.link.events } := rfl

/-! ### The watch -/

/-- The next listened cycle lies 1 to 8 cycles on. -/
theorem cyclesToListened_spec (cycle address : Nat) :
    1 ≤ cyclesToListened cycle address ∧ cyclesToListened cycle address ≤ 8 ∧
      (cycle + cyclesToListened cycle address) % 8 = address % 8 := by
  unfold cyclesToListened; omega

theorem returnToFull_full (s : State) (h : s.receiver.watch = .full) : returnToFull s = s := by
  simp [returnToFull, h]

@[simp] theorem reaim_watch (span : Nat) (r : Receiver) : (reaim span r).watch = r.watch := by
  unfold reaim; split <;> rfl

@[simp] theorem returnToFull_watch (s : State) : (returnToFull s).receiver.watch = .full := by
  unfold returnToFull
  split
  · assumption
  · simp

/-- A return to FULL watch changes watch, prediction and event set, and nothing else. -/
theorem returnToFull_eq (s : State) :
    returnToFull s = { s with
      receiver := { s.receiver with
        watch := .full
        expected := (returnToFull s).receiver.expected
        span := (returnToFull s).receiver.span }
      link := { s.link with events := (returnToFull s).link.events } } := by
  unfold returnToFull
  split
  · rename_i h; simp [← h]
  · simp only [raise, reaim]; split <;> rfl

theorem returnToFull_events (s : State) (j : EventKind) (h : j ∈ s.link.events) :
    j ∈ (returnToFull s).link.events := by
  unfold returnToFull; split <;> simp [h]

/-! ### The uplink queue -/

@[simp] theorem mem_insertEntry (x new : Entry) (l : List Entry) :
    x ∈ insertEntry new l ↔ x = new ∨ x ∈ l := by
  induction l with
  | nil => simp [insertEntry]
  | cons e es ih => unfold insertEntry; split <;> simp [ih, or_left_comm]

theorem countP_insertEntry (p : Entry → Bool) (new : Entry) (l : List Entry) :
    (insertEntry new l).countP p = l.countP p + (if p new then 1 else 0) := by
  induction l with
  | nil => simp [insertEntry, List.countP_cons]
  | cons e es ih =>
    unfold insertEntry; split
    · simp [List.countP_cons]
    · simp only [List.countP_cons, ih]; omega

/-- A placement: the queue gains the new entry and the watch is FULL, or nothing changes. -/
theorem placeEntry_cases (kind : EntryKind) (key : Nat) (content : EntryContent) (deadline : Option Nat)
    (s : State) :
    (placementOf kind key s = .placed ∧
      (placeEntry kind key content deadline s).scheduler =
        { s.scheduler with queue := insertEntry (newEntry kind key content deadline s) s.scheduler.queue } ∧
      (placeEntry kind key content deadline s).receiver.watch = .full) ∨
    (placementOf kind key s ≠ .placed ∧ placeEntry kind key content deadline s = s) := by
  unfold placeEntry
  split <;> rename_i h <;> simp [h]

theorem placementOf_placed (kind : EntryKind) (key : Nat) (s : State)
    (h : ∀ e ∈ s.scheduler.queue, ¬ (e.kind = kind ∧ e.key = key))
    (hc : s.scheduler.queue.countP (fun e => kind.sharesCap e.kind) < kind.cap) :
    placementOf kind key s = .placed := by
  have h1 : s.scheduler.queue.any (Entry.is kind key) = false := by
    simpa [Entry.is, List.any_eq_false] using h
  simp [placementOf, h1, standing, Nat.not_le.mpr hc]

theorem placeEntry_events (kind : EntryKind) (key : Nat) (content : EntryContent) (deadline : Option Nat)
    (s : State) (j : EventKind) (h : j ∈ s.link.events) :
    j ∈ (placeEntry kind key content deadline s).link.events := by
  unfold placeEntry; split
  · exact returnToFull_events _ _ h
  · exact h
  · exact h

theorem mem_placeEntry (kind : EntryKind) (key : Nat) (content : EntryContent) (deadline : Option Nat)
    (s : State) (e : Entry) (h : e ∈ s.scheduler.queue) :
    e ∈ (placeEntry kind key content deadline s).scheduler.queue := by
  rcases placeEntry_cases kind key content deadline s with ⟨_, hs, _⟩ | ⟨_, hs⟩
  · rw [hs]; simp [h]
  · rw [hs]; exact h

@[simp] theorem dropEntry_queue (kind : EntryKind) (key : Nat) (s : State) :
    (dropEntry kind key s).scheduler.queue = s.scheduler.queue.filter fun e => !e.is kind key := rfl

/-! ### The offer board -/

@[simp] theorem closeOnly_board (n : Nat) (outcome : OfferOutcome) (s : State) :
    (closeOnly n outcome s).board = { s.board with
      entries := s.board.entries.map fun o =>
        if o.number == n then { o with state := .closed, outcome := some outcome } else o
      closeOrder := s.board.closeOrder ++ [n]
      focus := if s.board.focus = some n then none else s.board.focus } := rfl

@[simp] theorem closeOnly_events (n : Nat) (outcome : OfferOutcome) (s : State) :
    (closeOnly n outcome s).link = { s.link with events := insertEvent .offerClosed s.link.events } := rfl

/-- The board after a run of closings with one outcome: each entry named is CLOSED with it. -/
theorem foldl_closeOnly_entries (outcome : OfferOutcome) (l : List Nat) (s : State) :
    (l.foldl (fun s n => closeOnly n outcome s) s).board.entries =
      s.board.entries.map fun o =>
        if o.number ∈ l then { o with state := .closed, outcome := some outcome } else o := by
  induction l generalizing s with
  | nil => simp
  | cons n l ih =>
    rw [List.foldl_cons, ih]
    simp only [closeOnly_board, List.map_map]
    apply List.map_congr_left
    intro o _
    by_cases h1 : o.number = n <;> by_cases h2 : o.number ∈ l <;> simp [h1, h2]

/-- The new test closes the PRESENTED entries no longer admitted and leaves every other entry. -/
theorem refilter_entries (s : State) :
    (refilter s).board.entries = s.board.entries.map fun o =>
      if o.number ∈ noLongerAdmitted s then { o with state := .closed, outcome := some .dropped } else o :=
  foldl_closeOnly_entries .dropped (noLongerAdmitted s) s

/-! ### Downlink items -/

@[simp] theorem returnHeld_full (s : State) (h : s.receiver.watch = .full) : returnHeld s = s := by
  simp [returnHeld, h]

/-- In SPARSE watch: the return to FULL, with the test of the conditions held back where they hold on. -/
theorem returnHeld_sparse (s : State) (h : s.receiver.watch = .sparse) :
    returnHeld s = { returnToFull s with receiver := { (returnToFull s).receiver with
      sparseHeld := sparseConditions (returnToFull s) } } := by simp [returnHeld, h]

@[simp] theorem returnHeld_watch (s : State) : (returnHeld s).receiver.watch = .full := by
  unfold returnHeld; split
  · assumption
  · exact returnToFull_watch s

/-- All that the arrival of an item can do: nothing, one block more counted, or the item handed over, a UNIT one
returning the watch to FULL. -/
theorem takeItem_cases (head : ItemHead) (fieldsOk : Bool) (allowed : Target → Bool) (offer : Bool)
    (hand : Target → State → State) (s : State) :
    takeItem head fieldsOk allowed offer hand s = s ∨
      takeItem head fieldsOk allowed offer hand s = countItem s ∨
      ∃ g, passes head fieldsOk allowed offer s = some g ∧
        takeItem head fieldsOk allowed offer hand s =
          if g = .unit then returnHeld (hand g (countItem s)) else hand g (countItem s) := by
  unfold takeItem
  split
  · split
    · exact .inr (.inl rfl)
    · exact .inr (.inr ⟨_, by assumption, rfl⟩)
  · exact .inl rfl

end Sys2Proof.Machine
end

