-- ==== Sys2Proof/Laws/Frames.lean ====
section
/-! SUPPORT. Request frames: the encoder of Machine/Wire.lean gives back the bytes that Decode.lean reads, and bytes
that come in pieces do what they do at once. -/

namespace Sys2Proof.Machine

/-! ### Fields of payloads (R204) -/

/-- A reader takes from the front of the bytes those that a writer gives for what it read. -/
def Reads {α : Type} (item : List Byte → Option (α × List Byte)) (write : α → List Byte) : Prop :=
  ∀ b a rest, item b = some (a, rest) → b = write a ++ rest

theorem numberBytes_split (w n acc : Nat) : numberBytes w (acc * 256 ^ w + n) = numberBytes w n := by
  induction w generalizing n acc with
  | zero => rfl
  | succ w ih =>
    have e : acc * 256 ^ (w + 1) + n = (acc * 256) * 256 ^ w + n := by ring
    simp only [numberBytes]
    rw [e, ih]
    congr 1
    apply BitVec.eq_of_toNat_eq
    rw [Nat.add_comm, Nat.add_mul_div_right _ _ (by positivity)]
    simp [byte, Nat.add_mod]

theorem takeNumber_reads (w acc : Nat) (b : List Byte) (n : Nat) (rest : List Byte)
    (h : takeNumber w acc b = some (n, rest)) :
    ∃ m, n = acc * 256 ^ w + m ∧ m < 256 ^ w ∧ b = numberBytes w m ++ rest := by
  induction w generalizing acc b with
  | zero =>
    simp only [takeNumber, Option.some.injEq, Prod.mk.injEq] at h
    exact ⟨0, by simp [h.1], by simp, by simp [numberBytes, h.2]⟩
  | succ w ih =>
    cases b with
    | nil => simp [takeNumber] at h
    | cons x b =>
      obtain ⟨m, rfl, hm, rfl⟩ := ih _ _ h
      refine ⟨x.toNat * 256 ^ w + m, by ring, ?_, ?_⟩
      · have := x.isLt
        rw [pow_succ]
        nlinarith
      · simp only [numberBytes, numberBytes_split, List.cons_append, List.cons.injEq, and_true]
        rw [Nat.mul_comm, Nat.mul_add_div (by positivity), Nat.div_eq_of_lt hm]
        simp [byte]

theorem takeNumber_zero_reads (w : Nat) : Reads (takeNumber w 0) (numberBytes w) := by
  intro b n rest h
  obtain ⟨m, rfl, -, e⟩ := takeNumber_reads w 0 b n rest h
  simpa using e

theorem take1_reads : Reads take1 one := takeNumber_zero_reads 1
theorem take2_reads : Reads take2 two := takeNumber_zero_reads 2
theorem take4_reads : Reads take4 four := takeNumber_zero_reads 4

theorem takeBytes_reads (n : Nat) (b l rest : List Byte) (h : takeBytes n b = some (l, rest)) :
    b = l ++ rest ∧ l.length = n := by
  induction n generalizing b l with
  | zero => simp only [takeBytes, Option.some.injEq, Prod.mk.injEq] at h; simp [← h.1, h.2]
  | succ n ih =>
    cases b with
    | nil => simp [takeBytes] at h
    | cons x b =>
      simp only [takeBytes, Option.map_eq_some_iff, Prod.mk.injEq, Prod.exists] at h
      obtain ⟨l', r, h', rfl, rfl⟩ := h
      obtain ⟨rfl, rfl⟩ := ih b l' h'
      simp

theorem takeText_reads : Reads takeText textBytes := by
  intro b t rest h
  cases b with
  | nil => simp [takeText] at h
  | cons n b =>
    obtain ⟨rfl, e⟩ := takeBytes_reads _ _ _ _ h
    simp [textBytes, e, byte]

theorem takeItems_reads {α : Type} {item : List Byte → Option (α × List Byte)} {write : α → List Byte}
    (hi : Reads item write) (n : Nat) (b : List Byte) (l : List α) (rest : List Byte)
    (h : takeItems item n b = some (l, rest)) : b = l.flatMap write ++ rest ∧ l.length = n := by
  induction n generalizing b l with
  | zero => simp only [takeItems, Option.some.injEq, Prod.mk.injEq] at h; simp [← h.1, h.2]
  | succ n ih =>
    unfold takeItems at h
    split at h
    · simp at h
    · rename_i a r ha
      simp only [Option.map_eq_some_iff, Prod.mk.injEq, Prod.exists] at h
      obtain ⟨l', r', h', rfl, rfl⟩ := h
      obtain ⟨e, e'⟩ := ih r l' h'
      simp [hi b a r ha, e, e']

theorem takeList_reads {α : Type} {item : List Byte → Option (α × List Byte)} {write : α → List Byte}
    (hi : Reads item write) : Reads (takeList item) (listBytes write) := by
  intro b l rest h
  cases b with
  | nil => simp [takeList] at h
  | cons n b =>
    obtain ⟨rfl, e⟩ := takeItems_reads hi _ _ _ _ h
    simp [listBytes, e, byte]

theorem takePosition_reads : Reads takePosition (fun a => four a.easting ++ four a.northing ++ one a.quality) := by
  intro b a rest h
  simp only [takePosition, bind, Option.bind_eq_some_iff, Prod.exists, pure, Option.some.injEq, Prod.mk.injEq] at h
  obtain ⟨x0, b0, h0, x1, b1, h1, x2, b2, h2, rfl, rfl⟩ := h
  rw [take4_reads _ _ _ h0, take4_reads _ _ _ h1, take1_reads _ _ _ h2]
  simp

theorem takeRect_reads : Reads takeRect rectBytes := by
  intro b a rest h
  simp only [takeRect, bind, Option.bind_eq_some_iff, Prod.exists, pure, Option.some.injEq, Prod.mk.injEq] at h
  obtain ⟨x0, b0, h0, x1, b1, h1, x2, b2, h2, x3, b3, h3, x4, b4, h4, x5, b5, h5, x6, b6, h6, rfl, rfl⟩ := h
  rw [take4_reads _ _ _ h0, take4_reads _ _ _ h1, take4_reads _ _ _ h2, take4_reads _ _ _ h3, take1_reads _ _ _ h4,
    take1_reads _ _ _ h5, takeList_reads take1_reads _ _ _ h6]
  simp [rectBytes]

theorem takeZoneRead_reads : Reads takeZoneRead (fun a => one a.first ++ one a.count) := by
  intro b a rest h
  simp only [takeZoneRead, bind, Option.bind_eq_some_iff, Prod.exists, pure, Option.some.injEq, Prod.mk.injEq] at h
  obtain ⟨x0, b0, h0, x1, b1, h1, rfl, rfl⟩ := h
  rw [take1_reads _ _ _ h0, take1_reads _ _ _ h1]
  simp

theorem takeTime_reads : Reads takeTime (fun a => one a.dayType ++ four a.second) := by
  intro b a rest h
  simp only [takeTime, bind, Option.bind_eq_some_iff, Prod.exists, pure, Option.some.injEq, Prod.mk.injEq] at h
  obtain ⟨x0, b0, h0, x1, b1, h1, rfl, rfl⟩ := h
  rw [take1_reads _ _ _ h0, take4_reads _ _ _ h1]
  simp

theorem takeReply_reads : Reads takeReply (fun a => two a.number ++ one a.code) := by
  intro b a rest h
  simp only [takeReply, bind, Option.bind_eq_some_iff, Prod.exists, pure, Option.some.injEq, Prod.mk.injEq] at h
  obtain ⟨x0, b0, h0, x1, b1, h1, rfl, rfl⟩ := h
  rw [take2_reads _ _ _ h0, take1_reads _ _ _ h1]
  simp

theorem takeCanned_reads : Reads takeCanned (fun a => one a.number ++ textBytes a.text) := by
  intro b a rest h
  simp only [takeCanned, bind, Option.bind_eq_some_iff, Prod.exists, pure, Option.some.injEq, Prod.mk.injEq] at h
  obtain ⟨x0, b0, h0, x1, b1, h1, rfl, rfl⟩ := h
  rw [take1_reads _ _ _ h0, takeText_reads _ _ _ h1]
  simp

theorem takeTariff_reads : Reads takeTariff tariffBytes := by
  intro b a rest h
  simp only [takeTariff, bind, Option.bind_eq_some_iff, Prod.exists, pure, Option.some.injEq, Prod.mk.injEq] at h
  obtain ⟨x0, b0, h0, x1, b1, h1, x2, b2, h2, x3, b3, h3, x4, b4, h4, x5, b5, h5, x6, b6, h6, x7, b7, h7, x8, b8,
    h8, rfl, rfl⟩ := h
  rw [take1_reads _ _ _ h0, take1_reads _ _ _ h1, take4_reads _ _ _ h2, take2_reads _ _ _ h3, take2_reads _ _ _ h4,
    take2_reads _ _ _ h5, take2_reads _ _ _ h6, take1_reads _ _ _ h7, take2_reads _ _ _ h8]
  simp [tariffBytes]

theorem takeBands_reads : Reads takeBands (fun a => one a.row ++ one a.first ++ listBytes one a.tariffs) := by
  intro b a rest h
  simp only [takeBands, bind, Option.bind_eq_some_iff, Prod.exists, pure, Option.some.injEq, Prod.mk.injEq] at h
  obtain ⟨x0, b0, h0, x1, b1, h1, x2, b2, h2, rfl, rfl⟩ := h
  rw [take1_reads _ _ _ h0, take1_reads _ _ _ h1, takeList_reads take1_reads _ _ _ h2]
  simp

theorem takeTripSelector_reads : Reads takeTripSelector tripSelectorBytes := by
  intro b a rest h
  simp only [takeTripSelector, bind, Option.bind_eq_some_iff, Prod.exists, pure] at h
  obtain ⟨w, b0, h0, h⟩ := h
  rw [take1_reads _ _ _ h0]
  split at h <;> rename_i hw <;> simp only [Option.bind_eq_some_iff, Prod.exists, Option.some.injEq, Prod.mk.injEq]
    at h
  · obtain ⟨n, b1, h1, rfl, rfl⟩ := h
    rw [take2_reads _ _ _ h1]
    simp [tripSelectorBytes, hw]
  · obtain ⟨rfl, rfl⟩ := h
    simp [tripSelectorBytes, hw]

theorem takeSelector_reads : Reads takeSelector selectorBytes := by
  intro b a rest h
  simp only [takeSelector, bind, Option.bind_eq_some_iff, Prod.exists, pure] at h
  obtain ⟨w, b0, h0, h⟩ := h
  rw [take1_reads _ _ _ h0]
  split at h <;> rename_i hw <;> simp only [Option.bind_eq_some_iff, Prod.exists, Option.some.injEq, Prod.mk.injEq]
    at h
  · obtain ⟨n, b1, h1, rfl, rfl⟩ := h
    rw [take1_reads _ _ _ h1]
    simp [selectorBytes, hw]
  · obtain ⟨rfl, rfl⟩ := h
    simp [selectorBytes, hw]

theorem takeSetting_reads : Reads takeSetting settingBytes := by
  intro b a rest h
  simp only [takeSetting, bind, Option.bind_eq_some_iff, Prod.exists, pure] at h
  obtain ⟨w, b0, h0, h⟩ := h
  rw [take1_reads _ _ _ h0]
  (repeat' split at h) <;> rename_i hw <;>
    simp only [Option.bind_eq_some_iff, Prod.exists, Option.some.injEq, Prod.mk.injEq] at h <;>
    obtain ⟨n, b1, h1, rfl, rfl⟩ := h
  · rw [takeText_reads _ _ _ h1]; simp [settingBytes]
  · rw [take2_reads _ _ _ h1]; simp_all [settingBytes]
  · rw [take1_reads _ _ _ h1]; simp_all [settingBytes]

/-! ### Payloads and whole frames -/

theorem wholePayload_bytes {α : Type} {item : List Byte → Option (α × List Byte)} {write : α → List Byte}
    (hi : Reads item write) (b : List Byte) : payloadBytes write (wholePayload item b) = b := by
  unfold wholePayload
  split
  · rename_i a h; simpa [payloadBytes] using (hi b a [] h).symm
  · rfl

theorem emptyPayload_bytes (b : List Byte) : payloadBytes (fun _ => []) (emptyPayload b) = b := by
  cases b <;> rfl

/-- Each row of the table of requests: its command carries its tag and gives back its payload. -/
theorem requestTable_bytes : ∀ row ∈ requestTable, ∀ b : List Byte, ∃ tag, requestTag (row.2 b) = some tag ∧
    tag.chars = chars row.1 ∧ requestPayload (row.2 b) = b := by
  simp only [requestTable, List.forall_mem_cons]
  and_intros <;> first
    | exact fun _ h => absurd h (List.not_mem_nil)
    | (intro b; refine ⟨_, rfl, rfl, ?_⟩
       first
         | exact emptyPayload_bytes b
         | exact wholePayload_bytes take1_reads b
         | exact wholePayload_bytes take2_reads b
         | exact wholePayload_bytes takeText_reads b
         | exact wholePayload_bytes takePosition_reads b
         | exact wholePayload_bytes (takeList_reads takeRect_reads) b
         | exact wholePayload_bytes takeZoneRead_reads b
         | exact wholePayload_bytes takeTime_reads b
         | exact wholePayload_bytes takeTripSelector_reads b
         | exact wholePayload_bytes takeReply_reads b
         | exact wholePayload_bytes takeSetting_reads b
         | exact wholePayload_bytes takeCanned_reads b
         | exact wholePayload_bytes takeTariff_reads b
         | exact wholePayload_bytes takeBands_reads b
         | exact wholePayload_bytes takeSelector_reads b)

theorem chars_of_bytes (a b c d : Byte) :
    chars (((a.toNat * 256 + b.toNat) * 256 + c.toNat) * 256 + d.toNat) = [a, b, c, d] := by
  have := a.isLt; have := b.isLt; have := c.isLt; have := d.isLt
  simp only [chars, numberBytes, List.cons.injEq, and_true]
  and_intros <;> apply BitVec.eq_of_toNat_eq <;> simp only [byte, BitVec.toNat_ofNat] <;> omega

/-- The frame of the recognised request that a good frame spells is that frame. -/
theorem requestFrame_of_decodeFrame (bytes : List Byte) (c : Instr) (h : decodeFrame bytes = some c)
    (hc : ∀ t0 t1 t2 t3, c ≠ .unknownRequest t0 t1 t2 t3) : requestFrame c = bytes := by
  unfold decodeFrame at h
  split at h
  rotate_left
  · simp at h
  rename_i lead len rest
  split at h
  rotate_left
  · simp at h
  rename_i hl
  split at h
  rotate_left
  · simp at h
  rename_i body check hb
  split at h
  rotate_left
  · simp at h
  rename_i hk
  obtain ⟨rfl, hn⟩ := takeBytes_reads _ _ _ _ hb
  obtain ⟨rfl, -, -⟩ := hl
  unfold decodeBody at h
  split at h
  rotate_left
  · simp at h
  rename_i t0 t1 t2 t3 payload
  have hlen : byte (t0 :: t1 :: t2 :: t3 :: payload).length = len := by rw [hn]; simp [byte]
  have key : ∃ tag, requestTag c = some tag ∧ tag.chars = [t0, t1, t2, t3] ∧ requestPayload c = payload := by
    obtain rfl := Option.some.inj h
    rw [← chars_of_bytes t0 t1 t2 t3]
    unfold decodeRequest
    dsimp only
    split
    · rename_i row hr
      obtain ⟨tag, h1, h2, h3⟩ := requestTable_bytes row (List.mem_of_find?_eq_some hr) payload
      have hk := List.find?_some hr
      simp only [beq_iff_eq] at hk
      exact ⟨tag, h1, by rw [h2, hk], h3⟩
    · rename_i hr
      exact absurd (by simp only [decodeRequest, hr]) (hc t0 t1 t2 t3)
  obtain ⟨tag, h1, h2, h3⟩ := key
  simp only [requestFrame, h1, h2, h3]
  simp only [List.cons_append, List.nil_append, frameBytes, hlen, hk]

/-! ### Bytes in pieces -/

theorem takeLineBytes_append (a b : List LineByte) (s : State) :
    takeLineBytes (a ++ b) s = takeLineBytes b (takeLineBytes a s) := by
  induction a generalizing s with
  | nil => rfl
  | cons x a ih => exact ih _

end Sys2Proof.Machine
end

