-- ==== Sys2Proof/Tests/Slice0.lean ====
section
/-! SUPPORT. Tests of the model: a smoke test of WellFormed with an ill-formed command for each check, the words
of chapter 12 written out byte by byte, single steps with results read from the manual, and for each statement
of Certificates/Slice0/Obligations.lean a state and operands that meet its hypotheses, clause by clause. -/

namespace Sys2Proof.Tests

open Sys2Proof Sys2Proof.Machine

-- One test at a time: each waits for the kernel, and waiting tests would hold a thread each.
set_option Elab.async false

/-! ### States to start from -/

/-- A tariff: flag fall 250, 20 for each 100 m or 30 s, extra 50. -/
def dayTariff : Tariff := ⟨true, 250, 20, 100, 30, 0, .single, 50⟩

/-- Settings of a calibrated cab with address 5 in fleet 7: one pulse per metre, zone 9 about the origin. -/
def fleet : Settings :=
  { defaultSettings with
    address := 5, fleetCode := 7
    accessCode := [0x31#8, 0x32#8, 0x33#8, 0x34#8, 0x35#8, 0x36#8]
    cancelCode := [0x31#8, 0x32#8, 0x33#8, 0x34#8]
    duressCode := [0x34#8, 0x33#8, 0x32#8, 0x31#8]
    calibrationCode := [0x38#8, 0x37#8, 0x36#8, 0x35#8, 0x34#8, 0x33#8, 0x32#8, 0x31#8]
    canned := defaultSettings.canned.set 0 [0x41#8]
    zones := defaultSettings.zones.set 0 (some ⟨0, 0, 1000, 1000, 9, .inner, [8]⟩)
    metrology := { defaultSettings.metrology with
      pulseConstant := 1000, tariffs := ⟨dayTariff, dayTariff, dayTariff, dayTariff⟩ } }

/-- A part in service: settings loaded, totals sound, the meter OFF, the receiver in SEARCH. -/
def ready : State :=
  { State.reset with
    store := { State.reset.store with working := fleet, stored := fleet }
    accounts := { State.reset.accounts with fault := false }
    link := resetLink }

/-- A slot map of every use. -/
def slotMap : List SlotUse :=
  [.contention, .emergContention, .grant 5, .grant 6, .idle, .idle, .idle, .idle, .idle, .contention]

/-- The part LOCKED in cycle 10, whose header came at instant 1,000; the meter FREE, the current zone 9. -/
def cab : State :=
  { ready with
    now := 1200
    receiver := { resetReceiver with
      sync := .locked, cycleStart := 1000, expected := some 2200, cycle := some 10
      slotMap := some slotMap, itemsOpen := true }
    meter := { State.reset.meter with state := .free }
    locator := { resetLocator with
      zone := 9, record := some ⟨9, 0, .inner, [8]⟩, condition := .fresh
      fix := some ⟨500, 500, .twoD, 1000⟩ } }

/-- The part with its uplink queue, its offers, its emergency, its receiver or its store changed. -/
def queued (l : List Entry) (s : State) : State := { s with scheduler := { s.scheduler with queue := l } }
/-- The part with these offers on its board. -/
def offered (l : List Offer) (s : State) : State := { s with board := { s.board with entries := l } }
/-- The part in an emergency state. -/
def alarmed (e : EmState) (s : State) : State := { s with emergency := { s.emergency with state := e } }
/-- The part at an access level. -/
def atLevel (n : Nat) (s : State) : State := { s with store := { s.store with level := n } }
/-- The part with its receiver changed. -/
def tuned (f : Receiver → Receiver) (s : State) : State := { s with receiver := f s.receiver }
/-- The part with a meter state and trip. -/
def metered (m : MeterState) (t : Option Trip) (s : State) : State :=
  { s with meter := { s.meter with state := m, trip := t } }
/-- The part with a write in progress. -/
def writingItem (i : WriteItem) (s : State) : State := { s with writer := { s.writer with writing := some ⟨i, 0⟩ } }
/-- The part with these messages. -/
def holding (l : List Message) (s : State) : State := { s with inbox := { s.inbox with messages := l } }
/-- The part with these records in its log. -/
def logging (l : List LogEntry) (s : State) : State := { s with accounts := { s.accounts with log := l } }
/-- The part with a frame that its receiver follows, its last byte at instant 0, and perhaps a reply owed. -/
def following (owed : Option Owed) (s : State) : State :=
  { s with link := { s.link with owed := owed, rx := { resetRx with phase := .body } } }
/-- The part with a nonvolatile memory, without power. -/
def stored (n : Nonvolatile) : State := { ready with powered := false, nonvolatile := n }
/-- The part in SPARSE watch in the listened cycle 13. -/
def sparse (s : State) : State := tuned (fun r => { r with watch := .sparse, cycle := some 13, cycleListened := true }) s

/-- An entry of a kind and key in a state. -/
def entry (k : EntryKind) (key : Nat) (x : EntryState) : Entry :=
  { kind := k, key := key, content := .none, state := x, attempts := 0, deadline := some 40, placed := 0
    sentAs := some ⟨2, 10, 5, 1350⟩, grantWait := none }

/-- An offer of zone 9 with a number in a state. -/
def offer (n : Nat) (x : OfferState) : Offer :=
  { number := n, cls := .street, nextJob := false, target := .all, pickup := 9, arrival := 1, expiry := 40
    text := none, estimate := none, state := x, origin := none, outcome := none }

/-- A trip with some seconds behind it. -/
def trip : Trip :=
  { hireTime := none, seconds := 5, pulses := 50, fare := 250, acc := 2999, tariffAtHire := 1, tariff := 1
    tariffsUsed := [1], extrasCount := 0, extrasTotal := 0, implausible := 0, zoneAtHire := 9, offer := none
    flags := ⟨false, false, false, false, false⟩, stopAt := some 1000 }

/-- A message with a receipt state. -/
def message (n : Nat) (x : ReceiptState) : Message :=
  { number := n, target := .unit, priority := .normal, text := [0x41#8], replies := [1, 32], arrival := none
    read := .unread, receipt := x, receiptCode := 0, chosen := none, outstanding := false }

/-- A trip record. -/
def record (n : Nat) (x : ReportState) : TripRecord :=
  { seq := n, shift := 1, driver := 1, hireTime := none, duration := 5, pulses := 50, distance := 50
    tariffAtHire := 1, tariffsUsed := [1], fare := 250, extrasCount := 0, extrasTotal := 0, zoneAtHire := 9
    zoneAtClose := 9, offer := none, implausible := 0, flags := ⟨false, false, false, false, false⟩, report := x }

/-- A header block of fleet 7 with a heard list. -/
def header (cycle : Nat) (heard : List HeardPair) : HeaderBlock :=
  { checkOk := true, fleetCode := 7, cycle := cycle, dayType := 1, second := 86399, persistence := 0
    statusInterval := 0, offersPaused := false, slots := List.replicate 10 ⟨3, 4094⟩, heard := heard }

/-- The head of an item for this unit, and one for the whole fleet. -/
def unitHead : ItemHead := ⟨true, true, 2, 5⟩
/-- The head of an item for the whole fleet. -/
def allHead : ItemHead := ⟨true, true, 0, 0⟩
/-- The fields of an offer for zone 9. -/
def offerFields (n : Nat) : OfferFields := ⟨n, 0, 0, 9, 5, none, some 999999⟩

/-! ### WellFormed -/

theorem test_wf_takes_what_fits :
    Instr.wf (.cycleHeader (header 10 [])) = true ∧ Instr.wf (.offer unitHead (offerFields 65535)) = true := by decide +kernel

theorem test_wf_header_numbers :
    [{ header 1 [] with fleetCode := 256 }, { header 65536 [] with fleetCode := 7 },
      { header 1 [] with dayType := 256 }, { header 1 [] with second := 16777216 },
      { header 1 [] with persistence := 256 }, { header 1 [] with statusInterval := 65536 }].map
      (fun h => Instr.wf (.cycleHeader h)) = List.replicate 6 false := by decide +kernel

theorem test_wf_header_lists :
    [{ header 1 [] with slots := [] }, { header 1 [] with slots := List.replicate 10 ⟨16, 0⟩ },
      { header 1 [] with slots := List.replicate 10 ⟨0, 4096⟩ }, header 1 (List.replicate 256 ⟨0, 1⟩),
      header 1 [⟨16, 1⟩], header 1 [⟨0, 4096⟩]].map
      (fun h => Instr.wf (.cycleHeader h)) = List.replicate 6 false := by decide +kernel

theorem test_wf_items :
    [Instr.page ⟨true, true, 256, 5⟩, .page ⟨true, true, 2, 65536⟩, .withdraw unitHead 65536,
      .offer unitHead (offerFields 65536), .offer unitHead ⟨1, 256, 0, 9, 5, none, none⟩,
      .offer unitHead ⟨1, 0, 256, 9, 5, none, none⟩, .offer unitHead ⟨1, 0, 0, 256, 5, none, none⟩,
      .offer unitHead ⟨1, 0, 0, 9, 256, none, none⟩,
      .offer unitHead ⟨1, 0, 0, 9, 5, some (List.replicate 256 0#8), none⟩,
      .offer unitHead ⟨1, 0, 0, 9, 5, none, some 4294967296⟩, .text unitHead ⟨65536, 0, [], []⟩,
      .text unitHead ⟨1, 256, [], []⟩, .text unitHead ⟨1, 0, List.replicate 256 0#8, []⟩,
      .text unitHead ⟨1, 0, [], [256]⟩, .text unitHead ⟨1, 0, [], List.replicate 256 0⟩].map Instr.wf
      = List.replicate 15 false := by decide +kernel

theorem test_wf_requests :
    [Instr.claimDeadline 65536, .position (.fields ⟨4294967296, 0, 0⟩), .position (.fields ⟨0, 4294967296, 0⟩),
      .position (.fields ⟨0, 0, 256⟩), .zoneLoad (.fields [⟨4294967296, 0, 0, 0, 1, 0, []⟩]),
      .zoneLoad (.fields [⟨0, 0, 0, 0, 256, 0, []⟩]), .zoneLoad (.fields [⟨0, 0, 0, 0, 1, 256, []⟩]),
      .zoneLoad (.fields [⟨0, 0, 0, 0, 1, 0, [256]⟩]), .zoneRead (.fields ⟨256, 1⟩), .zoneRead (.fields ⟨0, 256⟩),
      .timeSet (.fields ⟨256, 0⟩), .timeSet (.fields ⟨0, 4294967296⟩), .tripRead (.fields ⟨256, 0⟩),
      .tripRead (.fields ⟨0, 65536⟩), .zonePoint (.fields 256), .offerTake (.fields 65536),
      .messageReply (.fields ⟨65536, 0⟩), .messageReply (.fields ⟨0, 256⟩),
      .sendText (.fields (List.replicate 256 0#8))].map Instr.wf = List.replicate 19 false := by decide +kernel

theorem test_wf_settings :
    [Instr.settingWrite (.fields ⟨256, .number 0⟩), .settingWrite (.fields ⟨0, .number 65536⟩),
      .settingWrite (.fields ⟨1, .number 256⟩), .settingWrite (.fields ⟨0, .code []⟩),
      .settingWrite (.fields ⟨2, .number 0⟩), .cannedWrite (.fields ⟨256, []⟩),
      .tariffWrite (.fields ⟨256, 0, 0, 0, 0, 0, 0, 0, 0⟩), .tariffWrite (.fields ⟨1, 0, 4294967296, 0, 0, 0, 0, 0, 0⟩),
      .tariffWrite (.fields ⟨1, 0, 0, 65536, 0, 0, 0, 0, 0⟩), .tariffWrite (.fields ⟨1, 0, 0, 0, 0, 0, 0, 256, 0⟩),
      .bandsWrite (.fields ⟨256, 0, []⟩), .bandsWrite (.fields ⟨0, 256, []⟩), .bandsWrite (.fields ⟨0, 0, [256]⟩),
      .settingRead (.fields ⟨256, 0⟩), .settingRead (.fields ⟨0, 256⟩),
      .zoneLoad (.fields (List.replicate 13 ⟨0, 0, 0, 0, 1, 0, []⟩)), .sendText (.fields (List.replicate 240 0#8)),
      .settingWrite (.fields ⟨2, .code (List.replicate 239 0#8)⟩), .cannedWrite (.fields ⟨1, List.replicate 239 0#8⟩),
      .bandsWrite (.fields ⟨0, 0, List.replicate 238 1⟩), .linkStatus (.wrongSize (List.replicate 241 0#8))].map Instr.wf
      = List.replicate 21 false := by decide +kernel

/-! ### Words of chapter 12 -/

/-- R193's check over the nine characters "123456789". -/
theorem test_check_of_nine_digits :
    crc16 [0x31#8, 0x32#8, 0x33#8, 0x34#8, 0x35#8, 0x36#8, 0x37#8, 0x38#8, 0x39#8] = 0x29B1#16 := by decide +kernel

/-- A FETCH EVENT frame: lead byte, length 4, "FEVT", check. -/
theorem test_decode_fetch_event :
    decodeFrame ([0x5A#8, 4#8, 0x46#8, 0x45#8, 0x56#8, 0x54#8] ++
      checkBytes [4#8, 0x46#8, 0x45#8, 0x56#8, 0x54#8]) = some (.fetchEvent (.fields ())) := by decide +kernel

/-- An OFFER TAKE of offer 258: the number most significant byte first (R204). -/
theorem test_decode_offer_take :
    decodeRequest 0x4F#8 0x54#8 0x41#8 0x4B#8 [1#8, 2#8] = .offerTake (.fields 258) ∧
      decodeRequest 0x4F#8 0x54#8 0x41#8 0x4B#8 [1#8] = .offerTake (.wrongSize [1#8]) := by decide +kernel

/-- An unrecognised tag stands as it was sent. -/
theorem test_decode_unknown_tag :
    decodeRequest 0x3F#8 0x3F#8 0x3F#8 0x3F#8 [] = .unknownRequest 0x3F#8 0x3F#8 0x3F#8 0x3F#8 := by decide +kernel

/-- A PAGE block for unit 5: type 02h, target kind 2, value 5, kind 5. -/
theorem test_decode_page_block :
    decodeBlock ([0x02#8, 2#8, 0#8, 5#8, 5#8] ++ checkBytes [0x02#8, 2#8, 0#8, 5#8, 5#8])
      = some (.page ⟨true, true, 2, 5⟩) := by decide +kernel

/-- An IDENTIFY frame: lead byte, length 4, "IDNT", check. -/
def identifyFrame : List Byte :=
  [0x5A#8, 4#8, 0x49#8, 0x44#8, 0x4E#8, 0x54#8] ++ checkBytes [4#8, 0x49#8, 0x44#8, 0x4E#8, 0x54#8]

/-- The host's bytes of a POSITION: easting and northing in four bytes, quality in one (R204). -/
theorem test_position_frame :
    requestFrame (.position (.fields ⟨1, 258, 2⟩)) =
      let covered := [13#8, 0x50#8, 0x4F#8, 0x53#8, 0x4E#8, 0#8, 0#8, 0#8, 1#8, 0#8, 0#8, 1#8, 2#8, 2#8]
      0x5A#8 :: covered ++ checkBytes covered := by decide +kernel

/-- No row of the table gives bits. -/
theorem test_no_table_word : decodeTableWord 8 0 = none := rfl

/-- The BAD_FRAME reply of R195 and R205: tag "????", result 1, part 1. -/
theorem test_bad_frame_reply :
    replyBytes ⟨.bad, .badFrame, []⟩ = [0x5A#8, 6#8, 0x3F#8, 0x3F#8, 0x3F#8, 0x3F#8, 1#8, 1#8] ++
      checkBytes [6#8, 0x3F#8, 0x3F#8, 0x3F#8, 0x3F#8, 1#8, 1#8] := by decide +kernel

/-! ### Single steps -/

/-- The state that a command leaves: the state itself where it stops. -/
def after (c : Instr) (s : State) : State :=
  match exec c s with
  | .next t => t
  | .fault _ => s
  | .refused _ => s

/-- R60's example: STOP handed after HIRE finds the meter HIRED. -/
theorem test_hire_then_stop :
    (after (.meterKey (.fields 0)) cab).meter.state = .hired ∧
      (after (.meterKey (.fields 1)) { after (.meterKey (.fields 0)) cab with link := resetLink }).meter.state
        = .stopped := by decide +kernel

/-- R60's example, the other order: STOP in FREE is refused with STATE. -/
theorem test_stop_in_free_refused :
    (after (.meterKey (.fields 1)) cab).link.owed.map (·.reply.content) = some [.name 0] := by decide +kernel

/-- R110 to R112: 2,999 of 3,000 progress units and one standing second of 100 make one increment of 20. -/
theorem test_meter_second_makes_an_increment :
    ((after .meterSecond (metered .hired (some trip) cab)).meter.trip.map fun t => (t.fare, t.acc, t.seconds))
      = some (270, 99, 6) := by decide +kernel

/-- R50's table loaded in one pass: a load of two rectangles at pointer 62 leaves the second in position 63. -/
theorem test_load_pointer_stays_at_63 :
    (after (.zoneLoad (.fields [⟨0, 0, 1, 1, 3, 0, []⟩, ⟨0, 0, 1, 1, 4, 0, []⟩]))
      { atLevel 1 cab with locator := { cab.locator with loadPointer := 63 } }).locator.loadPointer = 63 := by decide +kernel

/-- R189: the third wrong code starts the lockout. -/
theorem test_third_failure_locks :
    (after (.codeEnter (.fields (List.replicate 6 0x30#8)))
      { cab with store := { cab.store with failures := 2 } }).store.lockoutEnd = some 61200 := by decide +kernel

/-- R9: the window of an expected header at 2,200 opens at 2,170. -/
theorem test_window_opens_30_ms_before :
    (after .windowOpen cab).now = 2170 ∧ (after .windowOpen cab).receiver.windowOpen = true := by decide +kernel

/-- R32: with persistence 1, a draw of 0 sends and a draw of 1 does not. -/
theorem test_persistence_decides :
    (after (.slotStart 0 0) (queued [entry .status 0 .waiting] cab)).receiver.transmission.isSome = true ∧
      (after (.slotStart 0 1) (queued [entry .status 0 .waiting] cab)).receiver.transmission.isSome = false := by
  decide +kernel

/-- R160: EMERGENCY RAISE in IDLE answers ACTIVE and places the EMERGENCY entry. -/
theorem test_emergency_raise :
    (after (.emergencyRaise (.fields ())) cab).emergency.state = .active ∧
      (after (.emergencyRaise (.fields ())) cab).scheduler.queue.map (·.kind) = [.emergency] := by decide +kernel

/-- R52: the second fix that agrees with the candidate confirms it. -/
theorem test_second_fix_confirms :
    (after (.position (.fields ⟨5000, 5000, 1⟩)) { cab with
      locator := { cab.locator with candidate := some 0 } }).locator.zone = 0 := by decide +kernel

/-- R207: a block without fields has 7 bytes; one byte fewer is not good, though its last two check the first four. -/
theorem test_short_stand_down_block :
    [0x07#8, 0x69#8] = checkBytes [0x02#8, 2#8, 0#8, 0x89#8] ∧
      decodeBlock [0x02#8, 2#8, 0#8, 0x89#8, 0x07#8, 0x69#8] = some (.standDown ⟨false, true, 2, 0x89⟩) := by
  decide +kernel

/-- R204: an optional text that is absent has length 0. -/
theorem test_absent_text_is_empty :
    (takeOptText [0#8, 1#8, 0x41#8]).map (·.1.1) = some false ∧ (takeOptText [0#8, 0#8]).map (·.1.1) = some true := by
  decide +kernel

/-- R194: a request 1,200 ms after the last byte of a frame finds the frame dropped. -/
theorem test_gap_drops_the_frame :
    (after (.identify (.fields ())) (following none cab)).link.owed.map (·.reply.tag) = some .idnt ∧
      (after (.identify (.fields ())) (following none ready)).link.owed.map (·.reply.tag) ≠ some .idnt := by
  decide +kernel

/-- R203: a frame of which five bytes have come when a remote reset is taken runs on and is taken. -/
theorem test_frame_runs_on_over_a_remote_reset :
    let s := after (.remoteReset unitHead) (after (.badFrame (unbroken (identifyFrame.take 5))) cab)
    (after (.badFrame (unbroken (identifyFrame.drop 5))) s).link.owed.map (·.reply.tag) = some .idnt := by
  decide +kernel

/-- R194: a request whose bytes come while a frame is followed belongs to that frame; R195: its check fails. -/
theorem test_request_ends_another_frame :
    let s := after (.badFrame (unbroken [0x5A#8, 4#8])) cab
    (after (.identify (.fields ())) s).link.owed.map (·.reply.tag) = some .bad := by decide +kernel

/-- R62: a release recognised at the very end of the 1.5 s finds PANIC armed. -/
theorem test_release_at_the_arming_instant :
    (after (.keyRelease .panic) { cab with
      panel := { cab.panel with keys := cab.panel.keys.put .panic ⟨false, 2470, .down, some 1000⟩ } }).emergency.state
      = .active := by decide +kernel

/-- R73: an offer taken at its expiry closes EXPIRED at once. -/
theorem test_take_at_the_expiry :
    ((after (.offerTake (.fields 3)) (offered [offer 3 .presented] { cab with now := 40000 })).board.entries.map
      fun o => (o.state, o.outcome)) = [(.closed, some .expired)] := by decide +kernel

/-- R16: after a PAGE no condition of SPARSE watch has changed, and none is tested. -/
theorem test_page_is_not_undone :
    let s := tuned (fun r => { r with parkSince := some 0, parkMarked := true, parkedStatus := true }) (sparse cab)
    (after .enterSparse (after (.page unitHead) s)).receiver.watch = .full := by decide +kernel

/-- R4: a cycle ends 1,200 ms after its header; a TEXT then is none of its items. -/
theorem test_cycle_ends :
    (after (.text allHead ⟨1, 0, [0x41#8], []⟩) { cab with now := 2199 }).inbox.messages.length = 1 ∧
      (after (.text allHead ⟨1, 0, [0x41#8], []⟩) { cab with now := 2200 }).inbox.messages.length = 0 := by
  decide +kernel

/-- R204: a ZONE READ reply counts its records. -/
theorem test_zone_read_counts :
    (after (.zoneRead (.fields ⟨62, 2⟩)) cab).link.owed.map (fun o => o.reply.content.take 3)
      = some [.num 63 0, .num 64 1, .count 2] := by decide +kernel

/-- R133: of two valid totals copies the one of the higher generation loads. -/
theorem test_newer_totals_load :
    let n := { asShipped with totalsA := some ⟨3, emptyTotals⟩, totalsB := some ⟨4, { emptyTotals with shiftOpen := true }⟩ }
    (after .powerOn { ready with powered := false, nonvolatile := n }).accounts.totals.shiftOpen = true := by
  decide +kernel

/-- R29, R33: an EMERG_CONTENTION slot carries the EMERGENCY entry alone, and not a STATUS. -/
theorem test_emergency_contention_slot :
    (after (.slotStart 1 0) (queued [entry .status 0 .waiting] cab)).receiver.transmission.isSome = false ∧
      (after (.slotStart 1 0) (queued [entry .emergency 0 .waiting] cab)).receiver.transmission.isSome = true := by
  decide +kernel

/-- R24: the origins of the kinds. -/
theorem test_origins :
    [EntryKind.status, .claim, .decline, .receipt, .canned, .freetext, .tripReport, .emergency].map (·.origin)
      = [.scheduler, .offerBoard, .offerBoard, .messageInbox, .host, .host, .tripLog, .emergencyController] := by
  decide

/-- R138: the emergency mark is served before the checkpoint. -/
theorem test_mark_is_served_first :
    (after .storeWriteStart { cab with
      writer := { cab.writer with markDirty := true, checkpointDirty := true } }).writer.writing
      = some ⟨.mark .none, 1200⟩ := by decide +kernel

/-! ### Witnesses: the hypotheses of each statement can be met -/

/-- A good header (R2). -/
theorem good_header (c : Nat) (l : List HeardPair) (hc : c ≤ 4095) (hl : l.length ≤ 10)
    (hp : ∀ p ∈ l, p.slot ≤ 9 ∧ 1 ≤ p.address ∧ p.address ≤ 4094) : HeaderGood (header c l) 7 :=
  ⟨rfl, rfl, hc, Nat.le_refl 1, Nat.le_refl 86399, rfl,
    fun f hf => by
      obtain rfl : f = ⟨3, 4094⟩ := List.eq_of_mem_replicate hf
      exact ⟨by decide, fun _ => ⟨by decide, by decide⟩⟩,
    hl, hp⟩

theorem witness_EmptyQueueRunsTheClock :
    ({ ready with powered := false }.pending = [] ∧ ({ ready with powered := false } : State).powered = false) ∧
    (ready.pending = [] ∧ ready.powered = true ∧ dueSteps ready = []) ∧
    (({ ready with now := 30 } : State).pending = [] ∧ dueSteps { ready with now := 30 } ≠ []) := by decide +kernel

theorem witness_RequestsTurnedAway :
    (requestTag (.identify (.fields ())) = some .idnt ∧ ready.link.rx.phase = .hunt ∧
      ({ ready with link := { ready.link with owed := some ⟨⟨.idnt, .ok, []⟩, 0⟩ } } : State).link.owed ≠ none) ∧
    ({ ready with powered := false } : State).powered = false ∧
    ((following none ready).link.rx.phase ≠ .hunt ∧ ready.now ≤ (following none ready).link.rx.lastByte + 20) ∧
    ((following none cab).link.rx.phase ≠ .hunt ∧ (following none cab).link.rx.lastByte + 20 < cab.now) ∧
    (decodeFrame identifyFrame = some (.identify (.fields ())) ∧ (following none ready).powered = true) ∧
    requestTag (.unknownRequest 0x3F#8 0x3F#8 0x3F#8 0x3F#8) = some (.other 0x3F#8 0x3F#8 0x3F#8 0x3F#8) ∧
    Instr.identify (.wrongSize [0#8]) ∈ wrongSizeRequests [0#8] ∧ Listening ready := by decide +kernel

theorem witness_PowerLossTearsTheWrite :
    ready.powered = true ∧ ready.writer.writing = none ∧
    (writingItem (.mark .active) ready).writer.writing = some ⟨.mark .active, 0⟩ ∧
    (writingItem (.checkpoint ⟨none, none⟩) ready).writer.writing = some ⟨.checkpoint ⟨none, none⟩, 0⟩ ∧
    (writingItem (.record 31 (record 1 .unreported)) ready).writer.writing
      = some ⟨.record 31 (record 1 .unreported), 0⟩ ∧
    (writingItem (.totals .a ⟨1, emptyTotals⟩) ready).writer.writing = some ⟨.totals .a ⟨1, emptyTotals⟩, 0⟩ ∧
    (writingItem (.totals .b ⟨1, emptyTotals⟩) ready).writer.writing = some ⟨.totals .b ⟨1, emptyTotals⟩, 0⟩ ∧
    (writingItem (.report 0 ⟨1, .reported⟩) ready).writer.writing = some ⟨.report 0 ⟨1, .reported⟩, 0⟩ ∧
    (writingItem (.settings .a ⟨1, fleet⟩) ready).writer.writing = some ⟨.settings .a ⟨1, fleet⟩, 0⟩ ∧
    (writingItem (.settings .b ⟨1, fleet⟩) ready).writer.writing = some ⟨.settings .b ⟨1, fleet⟩, 0⟩ := by
  and_intros <;> rfl

/-- Nonvolatile memories for the statements about power-on: both copies, one, none. -/
def copies (a b : Option Nat) : Nonvolatile :=
  { asShipped with
    settingsA := a.map fun g => ⟨g, fleet⟩, settingsB := b.map fun g => ⟨g, fleet⟩
    totalsA := a.map fun g => ⟨g, emptyTotals⟩, totalsB := b.map fun g => ⟨g, emptyTotals⟩ }

theorem witness_PowerOnLoadsTheSettings :
    (stored (copies (some 3) (some 3))).powered = false ∧
    (stored (copies (some 3) (some 3))).nonvolatile.settingsA = some ⟨3, fleet⟩ ∧
    (stored (copies (some 3) (some 3))).nonvolatile.settingsB = some ⟨3, fleet⟩ ∧
    (stored (copies (some 3) none)).nonvolatile.settingsB = none ∧
    (stored (copies none (some 3))).nonvolatile.settingsA = none ∧
    (stored (copies none none)).nonvolatile.settingsA = none ∧
    (stored (copies none none)).nonvolatile.settingsB = none := by and_intros <;> rfl

/-- The state that a power-on makes of a nonvolatile memory. -/
def loaded (n : Nonvolatile) : State := after .powerOn (stored n)

/-- A nonvolatile memory with one copy of the totals, a marker, one record in the log and a last close. -/
def kept (marker : Option Nat) (seq : Nat) (x : ReportState) (close : Option TripRecord) : Nonvolatile :=
  { asShipped with
    totalsA := some ⟨3, { emptyTotals with shiftOpen := true, marker := marker }⟩
    log := asShipped.log.set 5 ⟨false, some (record seq x), some ⟨seq, .reported⟩⟩
    checkpoint := some ⟨none, close⟩ }

theorem witness_PowerOnLoadsTheAccounts :
    ((stored (copies (some 3) (some 4))).nonvolatile.totalsA = some ⟨3, emptyTotals⟩ ∧
      (stored (copies (some 3) (some 4))).nonvolatile.totalsB = some ⟨4, emptyTotals⟩ ∧
      (copies (some 3) (some 4)).checkpoint = some ⟨none, none⟩ ∧ emptyTotals.marker = none ∧
      (stored (copies (some 3) (some 3))).nonvolatile.totalsA = some ⟨3, emptyTotals⟩ ∧
      (stored (copies (some 3) (some 3))).nonvolatile.totalsB = some ⟨3, emptyTotals⟩ ∧
      (stored (copies (some 3) none)).nonvolatile.totalsB = none ∧
      (stored (copies none (some 3))).nonvolatile.totalsA = none ∧
      (stored (copies none none)).nonvolatile.totalsA = none ∧
      (stored (copies none none)).nonvolatile.totalsB = none) ∧
    ((∃ x ∈ ({ asShipped with log := asShipped.log.set 31 ⟨true, none, none⟩ } : Nonvolatile).log, x.torn = true) ∧
      ({ asShipped with checkpoint := none } : Nonvolatile).checkpoint = none ∧
      (kept none 65535 .unreported none).checkpoint = some ⟨none, none⟩) ∧
    ((loaded (kept none 65535 .unreported none)).accounts.log = [⟨5, record 65535 .reported, none⟩] ∧
      (loaded asShipped).accounts.log = [] ∧
      (∀ o ∈ (loaded (kept none 65535 .unreported none)).accounts.log, (o.record.seq + 65535 - 65535) % 65535 = 0) ∧
      (loaded (kept (some 4) 4 .unreported none)).accounts.log = [] ++ ⟨5, record 4 .reported, none⟩ :: [] ∧
      (∀ x ∈ (loaded (kept (some 4) 9 .unreported none)).accounts.log, x.record.seq ≠ 4)) ∧
    ((kept none 4 .unreported (some (record 5 .unreported))).checkpoint = some ⟨none, some (record 5 .unreported)⟩ ∧
      (kept none 4 .unreported (some (record 5 .unreported))).log.length = 32 ∧
      (kept none 4 .unreported (some (record 5 .unreported))).log.countP (fun x => !x.torn && x.record.isSome) < 32 ∧
      (record 5 .unreported).seq = (loaded (kept none 4 .unreported none)).accounts.nextSeq ∧
      (∃ e ∈ (loaded (kept none 4 .unreported none)).accounts.log, e.record.seq = (record 4 .unreported).seq) ∧
      (loaded (kept none 4 .unreported none)).accounts.log ≠ [] ∧
      (record 7 .unreported).seq ≠ (loaded (kept none 4 .unreported none)).accounts.nextSeq) := by
  and_intros <;> first | rfl | decide +kernel

theorem witness_PowerOnClearsTheBlocks : (stored asShipped).powered = false := rfl

theorem witness_PowerOnClosesTheInterruptedTrip :
    (stored { asShipped with checkpoint := some ⟨some ⟨trip, .hired, 1, 1, 1000⟩, none⟩ }).nonvolatile.checkpoint
      = some ⟨some ⟨trip, .hired, 1, 1, 1000⟩, none⟩ := rfl

theorem witness_PowerOnReadsTheEmergencyMark :
    (stored asShipped).nonvolatile.mark = some .none ∧
    (stored { asShipped with mark := some .active }).nonvolatile.mark = some .active ∧
    (stored { asShipped with mark := none }).nonvolatile.mark = none ∧
    (stored { asShipped with mark := some .covert }).nonvolatile.mark = some .covert := by and_intros <;> rfl

theorem witness_GoodHeaderIsTaken :
    (HeaderGood (header 4095 [⟨9, 4094⟩]) ready.store.working.fleetCode ∧ ready.powered = true ∧
      ready.receiver.watch = .full ∧ ready.receiver.sync = .search ∧
      (tuned (fun r => { r with windowOpen := true }) cab).receiver.windowOpen = true) ∧
    ((sparse ready).receiver.watch = .sparse ∧ (sparse ready).scheduler.queue = [] ∧
      (header 13 []).cycle % 8 = (sparse ready).store.working.address % 8 ∧
      (header 12 []).cycle % 8 ≠ (sparse ready).store.working.address % 8) :=
  ⟨⟨good_header 4095 [⟨9, 4094⟩] (by decide) (by decide) (by decide), rfl, rfl, rfl, rfl⟩, by decide +kernel⟩

theorem witness_OtherHeadersAreNotTaken :
    ¬ HeaderGood { header 1 [] with checkOk := false } cab.store.working.fleetCode ∧
    HeaderGood (header 0 []) cab.store.working.fleetCode ∧ cab.powered = true ∧
    cab.receiver.sync ≠ .search ∧ cab.receiver.windowOpen = false :=
  ⟨fun h => absurd h.check (by decide), good_header 0 [] (by decide) (by decide) (by decide), rfl,
    by decide, rfl⟩

/-- A CLAIM for offer 3, sent in slot 2 of cycle 10 by address 5, with its offer. -/
def claimed : State :=
  queued [entry .claim 3 .sent] (offered [offer 3 .claiming] (tuned (fun r => { r with windowOpen := true }) cab))

/-- A queue in which each way of being answered stands: heard and unheard transmissions of cycle 10, a request and
two waits for a grant, and one that waits. -/
def answered : List Entry :=
  [{ entry .emergency 0 .sent with sentAs := some ⟨1, 10, 5, 1250⟩, attempts := 5 }, entry .decline 3 .sent,
    { entry .canned 1 .sent with attempts := 3, sentAs := some ⟨8, 10, 5, 1950⟩ }, entry .freetext 2 .requesting,
    { entry .freetext 3 .awaitGrant with grantWait := some 6, sentAs := none },
    { entry .tripReport 4 .awaitGrant with grantWait := some 5, sentAs := none }, entry .status 0 .waiting]

/-- The part with a queue, a fill record, its window open and stretched five times. -/
def awaited (l : List Entry) (fill : Option SentAs) : State :=
  let s := tuned (fun r => { r with windowOpen := true, stretches := 5 }) cab
  { s with scheduler := { s.scheduler with queue := l, fill := fill, parkMark := some 1349 } }

theorem witness_ReportsAnswerTransmissions :
    (HeaderGood (header 11 [⟨2, 5⟩]) claimed.store.working.fleetCode ∧
      (awaited answered none).receiver.windowOpen = true ∧
      ((awaited answered none).scheduler.queue.map fun e => (e.kind, e.key)).Nodup) ∧
    ((header 11 [⟨2, 5⟩]).cycle = (10 + 1) % 4096 ∧ (⟨2, 5⟩ : HeardPair) ∈ (header 11 [⟨2, 5⟩]).heard ∧
      (⟨8, 5⟩ : HeardPair) ∉ (header 11 [⟨2, 5⟩]).heard ∧ (⟨1, 5⟩ : HeardPair) ∉ (header 11 [⟨2, 5⟩]).heard) ∧
    ((awaited [] (some ⟨2, 10, 5, 1350⟩)).scheduler.fill = some ⟨2, 10, 5, 1350⟩ ∧
      (awaited [] none).scheduler.parkMark = some 1349) ∧
    (claimed.scheduler.queue = [entry .claim 3 .sent] ∧ claimed.scheduler.fill = none ∧
      (entry .claim 3 .sent).sentAs = some ⟨2, 10, 5, 1350⟩ ∧ findOffer 3 claimed = some (offer 3 .claiming) ∧
      claimed.now < ((offer 3 .claiming).expiry + 15) * 1000 ∧
      ((offer 3 .claiming).expiry + 15) * 1000 ≤ ({ claimed with now := 55000 } : State).now ∧
      (entry .claim 3 .sent).deadline = some 40 ∧ claimed.now < 40 * 1000 ∧
      5 ≤ ({ entry .claim 3 .sent with attempts := 4 } : Entry).attempts + 1) ∧
    (findMessage 3 (holding [{ message 3 .queued with outstanding := true, chosen := some 1 }] claimed)
        = some { message 3 .queued with outstanding := true, chosen := some 1 } ∧
      findMessage 3 (holding [message 3 .queued] claimed) = some (message 3 .queued) ∧
      (∀ r, findRecord 3 (logging [⟨0, record 3 r, none⟩] claimed) = some ⟨0, record 3 r, none⟩) ∧
      (alarmed .active claimed).emergency.state ≠ .idle ∧ claimed.scheduler.regenerate = false) ∧
    ((awaited answered none).receiver.expected = some 2200 ∧ (awaited answered none).receiver.stretches = 5) := by
  refine ⟨⟨good_header 11 [⟨2, 5⟩] (by decide) (by decide) (by decide), ?_⟩, ?_⟩
  · decide +kernel
  · refine ⟨?_, ?_, ?_, ⟨?_, ?_, fun r => by cases r <;> rfl, ?_⟩, ?_⟩ <;> decide +kernel

theorem witness_HeaderIsAwaitedAndMissed :
    cab.powered = true ∧ cab.receiver.expected = some 2200 ∧ cab.receiver.windowOpen = false ∧
    (tuned (fun r => { r with windowOpen := true, stretches := 4 }) cab).receiver.stretches < 5 ∧
    (tuned (fun r => { r with windowOpen := true, stretches := 5 }) cab).receiver.stretches = 5 ∧
    cab.receiver.watch = .full ∧ cab.receiver.sync = .locked ∧
    (tuned (fun r => { r with windowOpen := true, stretches := 5, sync := .coast, misses := 2 }) cab).receiver.misses
      + 1 < 4 ∧
    4 ≤ (tuned (fun r => { r with windowOpen := true, stretches := 5, sync := .coast, misses := 3 }) cab).receiver.misses
      + 1 ∧
    (after .missedHeader (tuned (fun r => { r with windowOpen := true, stretches := 5 }) (sparse cab))).receiver.sync
      = .coast ∧
    (sparse cab).receiver.watch = .sparse ∧ (sparse cab).scheduler.queue = [] := by decide +kernel

/-- The part parked, its STATUS heard. -/
def parked : State := tuned (fun r => { r with parkSince := some 0, parkMarked := true, parkedStatus := true }) cab

theorem witness_SparseWatchIsEntered :
    (parked.powered = true ∧ parked.receiver.watch = .full ∧ parked.receiver.parkSince ≠ none ∧
      parked.receiver.parkMarked = true ∧ parked.receiver.parkedStatus = true ∧ parked.meter.state = .free ∧
      assignment parked = none ∧ parked.emergency.state = .idle ∧ parked.scheduler.queue = [] ∧
      parked.receiver.sparseHeld = false ∧ parked.receiver.windowOpen = false ∧ parked.receiver.expected ≠ none) ∧
    cab.receiver.parkSince = none ∧ (metered .hired none parked).meter.state.onTrip = true ∧
    assignment (offered [offer 3 .awarded] parked) ≠ none ∧
    (tuned (fun r => { r with windowOpen := true }) parked).receiver.windowOpen = true ∧
    (tuned (fun r => { r with sparseHeld := true }) parked).receiver.sparseHeld = true := by decide +kernel

theorem witness_TimePulseAndVoice :
    cab.receiver.time = none ∧
    (tuned (fun r => { r with time := some ⟨⟨.workday, 86399⟩, .host, 0⟩ }) cab).receiver.time
      = some ⟨⟨.workday, 86399⟩, .host, 0⟩ ∧
    ({ cab with link := { cab.link with hostReset := some 1000 } } : State).link.hostReset = some 1000 ∧
    cab.link.hostReset = none ∧ cab.receiver.voiceReq = false ∧ cab.receiver.voice = .idle ∧
    (tuned (fun r => { r with voice := .blocked }) cab).receiver.voice ≠ .idle ∧
    (tuned (fun r => { r with voiceReq := true, voice := .pending }) cab).receiver.voiceReq = true ∧
    (tuned (fun r => { r with transmission := some ⟨5, .slotReq, 1100⟩ }) cab).receiver.transmission ≠ none := by
  decide +kernel

theorem witness_DiscardedItemsChangeNothing :
    (itemHead (.page unitHead) = some (unitHead, true) ∧
      itemHead (.text allHead ⟨1, 0, [], []⟩) = some (allHead, false) ∧
      ready.receiver.sync ≠ .locked ∧ (tuned (fun r => { r with itemsOpen := false }) cab).receiver.itemsOpen = false ∧
      ({ cab with now := 2200 } : State).receiver.cycleStart + 1200 ≤ 2200 ∧
      (tuned (fun r => { r with watch := .sparse }) cab).receiver.cycleListened = false ∧
      8 ≤ (tuned (fun r => { r with itemCount := 8 }) cab).receiver.itemCount) ∧
    (ItemsHeard (tuned (fun r => { r with itemCount := 7 }) cab) ∧ ItemsHeard { cab with now := 2199 } ∧
      (⟨true, false, 2, 5⟩ : ItemHead).encodingOk = false ∧ 2 < (⟨true, true, 3, 5⟩ : ItemHead).target ∧
      (⟨true, true, 2, 6⟩ : ItemHead).value ≠ cab.store.working.address ∧
      250 < (⟨true, true, 1, 251⟩ : ItemHead).value ∧ (⟨true, true, 1, 0⟩ : ItemHead).value < 1 ∧
      (⟨true, true, 1, 200⟩ : ItemHead).value ∉ servedSet cab) ∧
    ForThisUnitInSparse unitHead (sparse cab) ∧ FieldsInRange (.lost unitHead 65535) ∧
    ¬ FieldsInRange (.lost unitHead 0) ∧ ¬ FieldsInRange (.text allHead ⟨1, 0, [], []⟩) := by
  refine ⟨by decide +kernel, by decide +kernel, by decide +kernel, ⟨by decide, by decide⟩,
    fun h => absurd h.1 (by decide),
    fun h => absurd h.2.2.2.1 (by decide)⟩

/-- Eight open offers, and eight of which the one numbered 11 is CLOSED. -/
def fullBoard : List Offer := [11, 12, 13, 14, 15, 16, 17, 18].map fun n => { offer n .presented with cls := .booked }

/-- Eight PRESENTED offers of class STREET: the second and the fourth expire first, and the second arrived first. -/
def streetBoard : List Offer :=
  [(11, 50), (12, 45), (13, 50), (14, 45), (15, 50), (16, 50), (17, 50), (18, 50)].map fun x =>
    { offer x.1 .presented with expiry := x.2 }

/-- The cab admits each of the fleet's offers. -/
theorem admitted (n : Nat) : OfferAdmitted allHead (offerFields n) cab :=
  ⟨rfl, rfl, rfl, .inl rfl, .inl rfl, .inr (show 9 ∈ servedSet cab by decide +kernel)⟩

/-- An offer of the fleet's lies in its ranges. -/
theorem in_range (n : Nat) (h : 1 ≤ n) (h' : n ≤ 65535) : OfferInRange (offerFields n) :=
  ⟨h, h', Nat.zero_le 2, Nat.zero_le 1, Nat.le_of_ble_eq_true rfl, Nat.le_of_ble_eq_true rfl, Nat.le_refl 5,
    Nat.le_of_ble_eq_true rfl, (fun x h => nomatch h), (fun n h => by cases h; decide)⟩

theorem witness_OfferJoinsTheBoard :
    (ItemsHeard cab ∧ allHead.checkOk = true ∧ OfferInRange (offerFields 65535) ∧ OfferInRange (offerFields 1) ∧
      OfferAdmitted allHead (offerFields 1) cab ∧ NamesThisUnit unitHead cab ∧
      (⟨true, true, 1, 9⟩ : ItemHead).value ∈ servedSet cab) ∧
    (findOffer 1 cab = none ∧ cab.board.entries.length < 8 ∧
      (offered fullBoard cab).board.entries.length = 8 ∧ findOffer 1 (offered fullBoard cab) = none ∧
      (offered fullBoard cab).board.closeOrder = [] ∧
      (∀ x ∈ fullBoard, ¬(x.state = .presented ∧ x.cls.code < OfferClass.street.code)) ∧
      ({ offered fullBoard cab with
          board := { (offered fullBoard cab).board with closeOrder := [11] } } : State).board.closeOrder = 11 :: []) ∧
    (streetBoard = [{ offer 11 .presented with expiry := 50 }] ++ { offer 12 .presented with expiry := 45 } ::
        streetBoard.drop 2 ∧
      (offer 12 .presented).cls.code < OfferClass.booked.code ∧
      (∀ x ∈ streetBoard.drop 2, ¬(x.cls = .street ∧ x.expiry < 45))) ∧
    (findOffer 1 (offered [offer 1 .presented] cab) = some (offer 1 .presented) ∧
      findOffer 1 (offered [offer 1 .closed] cab) = some (offer 1 .closed)) ∧
    ¬ OfferAdmitted unitHead (offerFields 1) (sparse cab) ∧
    ¬ OfferAdmitted allHead (offerFields 1) (tuned (fun r => { r with offersPaused := true }) cab) :=
  ⟨⟨by decide +kernel, rfl, in_range _ (by decide) (by decide), in_range _ (by decide) (by decide), admitted 1,
      by decide +kernel, by decide +kernel⟩, by decide +kernel, by decide +kernel, by decide +kernel,
    fun h => absurd h.watch (by decide), fun h => absurd h.paused (by decide)⟩

theorem witness_LostClosesTheClaim :
    ForThisUnit unitHead cab ∧ ForThisUnitInSparse unitHead (sparse cab) ∧
    findOffer 65535 (offered [offer 65535 .claiming] cab) = some (offer 65535 .claiming) ∧
    findOffer 1 (sparse (offered [offer 1 .awaitingAward] cab)) = some (offer 1 .awaitingAward) ∧
    findOffer 1 (offered [offer 1 .awarded] cab) = some (offer 1 .awarded) ∧ findOffer 1 cab = none := by
  decide +kernel

theorem witness_WithdrawClosesOpenEntries :
    ForThisUnit unitHead (offered [offer 1 .presented] cab) ∧ ForManyUnits allHead (offered [offer 1 .presented] cab) ∧
    ForManyUnits ⟨true, true, 1, 250⟩ (sparse cab) ∧ ForThisUnitInSparse unitHead (sparse cab) ∧
    findOffer 1 (offered [offer 1 .presented] cab) = some (offer 1 .presented) ∧
    findOffer 1 (offered [offer 1 .awarded] cab) = some (offer 1 .awarded) ∧
    findOffer 65535 (offered [offer 65535 .closed] cab) = some (offer 65535 .closed) := by
  and_intros <;> decide +kernel

theorem witness_AwardMakesTheAssignment :
    ForThisUnit unitHead (offered [offer 1 .claiming] cab) ∧
    ForThisUnitInSparse unitHead (sparse (offered [offer 1 .awaitingAward] cab)) ∧
    findOffer 1 (offered [offer 1 .claiming] cab) = some (offer 1 .claiming) ∧
    (offered [offer 1 .claiming] cab).emergency.state = .idle ∧
    ForThisUnit unitHead (alarmed .active (offered [offer 65535 .awaitingAward] cab)) ∧
    findOffer 65535 (alarmed .active (offered [offer 65535 .awaitingAward] cab)) = some (offer 65535 .awaitingAward) ∧
    findOffer 1 (offered [offer 1 .awarded] cab) = some (offer 1 .awarded) ∧ findOffer 1 cab = none ∧
    (∀ e ∈ cab.scheduler.queue, ¬(e.kind = .decline ∧ e.key = 1)) ∧
    (queued [entry .decline 7 .waiting, entry .decline 8 .waiting] cab).scheduler.queue.countP
      (fun e => e.kind == .decline) < 3 ∧
    BoardSound (offered [offer 1 .claiming, offer 2 .presented] cab) ∧
    (offered [offer 1 .claiming, offer 2 .presented] cab).board.entries.getLast? = some (offer 2 .presented) := by
  and_intros <;> first | decide +kernel | (constructor <;> decide +kernel)

/-- Sixteen messages with a receipt state. -/
def fullInbox (x : ReceiptState) : List Message := (List.range 16).map fun n => message (n + 10) x

theorem witness_TextIsStoredOrRefused :
    (TextInRange ⟨65535, 1, List.replicate 160 0x7E#8, [1, 32]⟩ ∧ TextInRange ⟨1, 0, [0x20#8], []⟩) ∧
    (ForThisUnit unitHead cab ∧ ForManyUnits allHead cab ∧ ForManyUnits ⟨true, true, 1, 250⟩ cab ∧
      ForThisUnitInSparse unitHead (sparse cab)) ∧
    (findMessage 65535 cab = none ∧ cab.inbox.messages.length < 16) ∧
    ((holding (fullInbox .due) cab).inbox.messages.length = 16 ∧
      findMessage 1 (holding (fullInbox .due) cab) = none ∧
      (∀ m ∈ (holding (fullInbox .due) cab).inbox.messages,
        ¬(m.read ≠ .unread ∧ m.priority = .normal ∧ (m.receipt = .none ∨ m.receipt = .sent)))) ∧
    (let old : Message := { message 3 .sent with read := .read }
      let l := (fullInbox .none).take 15
      (l ++ old :: []).length = 16 ∧ ((l ++ old :: []).map (·.number)).Nodup ∧ old.read ≠ .unread ∧
        old.priority = .normal ∧ (∀ y ∈ l, y.read = .unread)) ∧
    (findMessage 1 (holding [message 1 .failed] cab) = some (message 1 .failed) ∧
      (∀ y ∈ (holding [message 1 .failed] cab).inbox.messages, y.receipt ≠ .due)) := by
  and_intros <;> decide +kernel

theorem witness_PageReturnsToFullWatch :
    ForThisUnit unitHead cab ∧ ForThisUnitInSparse unitHead (sparse cab) ∧
    (sparse cab).receiver.cycleStart ≤ (sparse cab).now ∧ (sparse cab).receiver.windowOpen = false ∧
    (sparse cab).receiver.expected ≠ none ∧
    (tuned (fun r => { r with windowOpen := true }) (sparse cab)).receiver.windowOpen = true := by
  and_intros <;> decide +kernel

theorem witness_EmergAckActsByTheState :
    ForThisUnit unitHead (alarmed .active cab) ∧ (alarmed .active cab).emergency.state = .active ∧
    ForThisUnit unitHead (alarmed .covert cab) ∧ (alarmed .covert cab).emergency.state = .covert ∧
    cab.emergency.state = .idle ∧ (alarmed .acknowledged cab).emergency.state = .acknowledged := by decide +kernel

theorem witness_StandDownAndCancelEndTheEmergency :
    ForThisUnit unitHead (alarmed .active cab) ∧ ForThisUnit unitHead (alarmed .acknowledged cab) ∧
    ForThisUnit unitHead (alarmed .covert cab) ∧ ForThisUnit unitHead cab ∧
    Listening (alarmed .active cab) ∧ (alarmed .active cab).store.working.cancelCode.length = 4 ∧
    (∀ b ∈ (alarmed .active cab).store.working.cancelCode, 0x30 ≤ b.toNat ∧ b.toNat ≤ 0x39) ∧
    (alarmed .active cab).store.working.cancelCode ≠ (alarmed .active cab).store.working.duressCode ∧
    ForThisUnitInSparse unitHead (sparse cab) ∧ (sparse cab).emergency.state = .idle := by
  and_intros <;> decide +kernel

theorem witness_DuressGoesCovert :
    Listening (alarmed .acknowledged cab) ∧ (alarmed .acknowledged cab).store.working.duressCode.length = 4 ∧
    (∀ b ∈ (alarmed .acknowledged cab).store.working.duressCode, 0x30 ≤ b.toNat ∧ b.toNat ≤ 0x39) ∧
    (alarmed .acknowledged cab).emergency.state = .acknowledged ∧ Listening cab ∧ cab.emergency.state = .idle ∧
    (List.replicate 8 0x30#8 : Digits) ≠ cab.store.working.duressCode ∧
    (List.replicate 8 0x30#8 : Digits) ≠ cab.store.working.cancelCode := by decide +kernel

theorem witness_RemoteResetClearsTheJobSide :
    ForThisUnit unitHead (queued [entry .canned 1 .waiting, entry .tripReport 4 .sent] cab) ∧
    ForThisUnitInSparse unitHead (sparse cab) ∧
    (queued [entry .canned 1 .waiting] cab).emergency.state = .idle ∧
    (entry .canned 1 .waiting).kind = .canned ∧ cab.scheduler.results.length ≤ 8 ∧
    ({ cab with panel := { cab.panel with ignition := .off } } : State).panel.ignition = .off ∧
    (alarmed .covert cab).emergency.state ≠ .idle ∧
    cab.locator.zone ≠ 0 ∧ servedSet { cab with locator := resetLocator } = [] ∧ resetLocator.zone = 0 ∧
    resetLocator.condition = .lost ∧ ¬ Pending .zone { cab with locator := resetLocator } := by
  and_intros <;> decide +kernel

theorem witness_ClosedSlotGoesUnused :
    cab.powered = true ∧ cab.receiver.slotMap = some slotMap ∧ cab.receiver.nextSlot ≤ 0 ∧
    slotMap[4]? = some .idle ∧ slotMap[3]? = some (.grant 6) ∧ 6 ≠ cab.store.working.address ∧
    (tuned (fun r => { r with voice := .granted }) cab).receiver.voice = .granted ∧
    (tuned (fun r => { r with voice := .pending }) cab).receiver.voice = .pending ∧
    (tuned (fun r => { r with sync := .coast }) cab).receiver.sync ≠ .locked ∧
    State.reset.store.working.address = 0 ∧ slotMap[9]? = some .contention ∧ slotMap[1]? = some .emergContention ∧
    ({ cab with scheduler := { cab.scheduler with contentionUsed := true } } : State).scheduler.contentionUsed = true ∧
    (∀ e ∈ (queued [entry .emergency 0 .sent, entry .status 0 .waiting] cab).scheduler.queue,
      ¬(e.kind = .emergency ∧ e.state = .waiting)) ∧
    (tuned (fun r => { r with slotMap := none }) cab).receiver.slotMap = none := by decide +kernel

theorem witness_EmergencyGoesWithCertainty :
    MayTransmit (queued [entry .emergency 0 .waiting, entry .status 0 .waiting] cab) ∧
    slotMap[0]? = some .contention ∧ slotMap[1]? = some .emergContention ∧
    (∀ x ∈ [entry .status 0 .waiting], x.kind ≠ .emergency) ∧ cab.scheduler.contentionUsed = false ∧
    ({ cab with scheduler := { cab.scheduler with contentionUsed := true } } : State).scheduler.contentionUsed = true := by
  decide +kernel

/-- Entries in rank order: a CLAIM on the air, a STATUS and a free text that wait. -/
def ranked : List Entry := [entry .claim 3 .sent, entry .status 0 .waiting, entry .freetext 1 .waiting]

theorem witness_ContentionFollowsThePersistence :
    (MayTransmit (queued ranked cab) ∧ slotMap[9]? = some .contention ∧ cab.scheduler.contentionUsed = false ∧
      cab.scheduler.slotReq = none ∧ (0 : Fin 16).val < cab.receiver.persistence ∧
      cab.receiver.persistence ≤ (1 : Fin 16).val) ∧
    (ranked = [entry .claim 3 .sent] ++ entry .status 0 .waiting :: [entry .freetext 1 .waiting] ∧
      (∀ x ∈ [entry .claim 3 .sent], x.state ≠ .waiting) ∧ (entry .status 0 .waiting).kind.long = false ∧
      (∀ x ∈ [entry .claim 3 .sent] ++ [entry .freetext 1 .waiting], x.kind ≠ .status)) ∧
    ((entry .freetext 1 .waiting).kind.long = true ∧ (entry .freetext 1 .waiting).kind ≠ .emergency ∧
      (∀ x ∈ (queued [entry .claim 3 .sent] cab).scheduler.queue, x.state ≠ .waiting)) := by decide +kernel

theorem witness_GrantCarriesOneItem :
    (slotMap[2]? = some (.grant cab.store.working.address) ∧ MayTransmit cab ∧ cab.scheduler.queue = [] ∧
      cab.receiver.watch = .full ∧ MayTransmit (sparse cab) ∧ (sparse cab).receiver.watch = .sparse) ∧
    ((entry .emergency 0 .waiting).kind = .emergency ∧ (entry .emergency 0 .waiting).state = .waiting ∧
      (entry .tripReport 4 .awaitGrant).kind.long = true ∧ (entry .tripReport 4 .awaitGrant).state = .awaitGrant) ∧
    ((∀ x ∈ ranked, ¬(x.kind = .emergency ∧ x.state = .waiting)) ∧
      (∀ x ∈ ranked, ¬(x.kind.long = true ∧ x.state = .awaitGrant)) ∧
      (∀ x ∈ [entry .claim 3 .sent], ¬(x.kind.long = false ∧ x.state = .waiting)) ∧
      (entry .status 0 .waiting).kind.long = false) ∧
    (∀ x ∈ [entry .claim 3 .sent, entry .freetext 1 .waiting],
      ¬(x.kind.long = true ∧ x.state = .awaitGrant) ∧ ¬(x.kind.long = false ∧ x.state = .waiting)) ∧
    (assignment (offered [offer 1 .awarded] cab) = some 1 ∧ assignment cab = none) ∧
    ({ entry .receipt 1 .waiting with content := .code 32 } : Entry).kind = .receipt ∧
    ({ entry .canned 1 .waiting with content := .canned 32 } : Entry).kind = .canned ∧
    ({ entry .freetext 1 .waiting with content := .text [] } : Entry).kind = .freetext ∧
    ({ entry .tripReport 1 .waiting with content := .summary (record 1 .unreported) } : Entry).kind = .tripReport := by
  and_intros <;> decide +kernel

theorem witness_ClaimsAndOffersRunOut :
    findEntry .claim 3 (queued [entry .claim 3 .waiting] cab) = some (entry .claim 3 .waiting) ∧
    (entry .claim 3 .waiting).deadline = some 40 ∧
    findOffer 3 (queued [entry .claim 3 .waiting] (offered [offer 3 .claiming] cab)) = some (offer 3 .claiming) ∧
    findEntry .claim 3 claimed = some (entry .claim 3 .sent) ∧
    findOffer 3 (offered [offer 3 .presented] cab) = some (offer 3 .presented) ∧
    findOffer 3 (offered [offer 3 .awaitingAward] cab) = some (offer 3 .awaitingAward) := by decide +kernel

/-- The report timer of an emergency running since 1,000. -/
def reporting (e : EmState) : State :=
  { cab with emergency := { cab.emergency with state := e, reportSince := some 1000, acknowledged := true } }

theorem witness_TimersPlaceEntries :
    cab.powered = true ∧ (reporting .active).emergency.reportSince = some 1000 ∧
    (reporting .active).emergency.state ≠ .idle ∧ (reporting .covert).emergency.acknowledged = true ∧
    (∀ e ∈ (reporting .active).scheduler.queue, e.kind ≠ .emergency) ∧ cab.emergency.reportSince = none ∧
    (tuned (fun r => { r with parkSince := some 0 }) cab).receiver.parkSince = some 0 ∧
    cab.receiver.parkMarked = false := by decide +kernel

theorem witness_BeaconsWithoutASlot :
    (alarmed .active ready).emergency.state ≠ .idle ∧ (alarmed .active ready).receiver.sync = .search ∧
    (alarmed .active ready).receiver.voice ≠ .pending ∧ (alarmed .active ready).receiver.voice ≠ .granted ∧
    1 ≤ (alarmed .active ready).store.working.address ∧ (alarmed .active ready).store.working.address ≤ 4094 ∧
    (alarmed .active State.reset).store.working.address = 0 ∧ (alarmed .active State.reset).receiver.sync = .search ∧
    ready.emergency.state = .idle ∧
    cab.meter.state = .free ∧ (metered .hired (some trip) cab).meter.state = .hired ∧
    (metered .hired (some trip) cab).meter.trip = some trip := by
  and_intros <;> decide +kernel

theorem witness_ReadingsReportWhatStands :
    (Listening cab ∧ (⟨56, 8⟩ : ZoneReadArgs).first + (⟨56, 8⟩ : ZoneReadArgs).count ≤ 64 ∧
      selectRecord ⟨0, 65535⟩ (logging [⟨0, record 65535 .unreported, none⟩] cab)
        = some ⟨0, record 65535 .unreported, none⟩ ∧
      findMessage 1 (holding [message 1 .none] cab) = some (message 1 .none) ∧
      (selectedFields ⟨15, 0⟩ cab).isSome = true) ∧
    ((metered .stopped (some trip) cab).meter.state = .stopped ∧
      (metered .stopped (some trip) cab).meter.resumeOpen = false) ∧
    ((∃ e ∈ (alarmed .active (queued [entry .emergency 0 .waiting] cab)).scheduler.queue,
        e.kind = .emergency ∧ e.key = 0) ∧
      (∀ e ∈ (alarmed .active cab).scheduler.queue, ¬(e.kind = .emergency ∧ e.key = 0))) := by decide +kernel

/-- The cab with an offer, about to leave its zone for none. -/
def leaving : State :=
  offered [offer 1 .presented] { cab with locator := { cab.locator with candidate := some 0 } }

theorem witness_TwoFixesConfirmAZone :
    Listening cab ∧ (⟨9999999, 0, 1⟩ : PositionArgs).easting ≤ 9999999 ∧
    9999999 < (⟨10000000, 0, 0⟩ : PositionArgs).easting ∧ 2 < (⟨0, 0, 3⟩ : PositionArgs).quality ∧
    (lookup 1000 1000 cab).map (·.zone) = some 9 ∧ cab.locator.zone = 9 ∧ (lookup 1001 1000 cab) = none ∧
    cab.locator.condition = .fresh ∧ cab.locator.candidate ≠ some 0 ∧
    ({ cab with locator := { cab.locator with candidate := some 0 } } : State).locator.candidate = some 0 ∧
    ({ cab with locator := { cab.locator with condition := .stale } } : State).locator.condition ≠ .fresh ∧
    (BoardSound leaving ∧ servedSet (after (.position (.fields ⟨5000, 5000, 1⟩)) leaving) ≠ servedSet leaving) ∧
    servedSet (after (.position (.fields ⟨500, 500, 1⟩)) cab) = servedSet cab ∧
    cab.locator.record = some ⟨9, 0, .inner, [8]⟩ ∧ resetLocator.zone = 0 := by
  and_intros <;> first | decide +kernel | (constructor <;> decide +kernel)

theorem witness_OldFixesLoseTheZone :
    cab.locator.fix = some ⟨500, 500, .twoD, 1000⟩ ∧ cab.locator.condition = .fresh ∧ cab.locator.zone ≠ 0 ∧
    ({ cab with locator := { cab.locator with condition := .stale } } : State).locator.condition = .stale ∧
    BoardSound (offered [offer 1 .presented] cab) ∧ (offer 1 .presented).target ≠ .unit ∧
    ({ cab with locator := { cab.locator with condition := .stale, zone := 0 } } : State).locator.zone = 0 := by
  and_intros <;> first | decide +kernel | (constructor <;> decide +kernel)

theorem witness_ZoneTableIsWrittenAtThePointer :
    Listening (atLevel 1 cab) ∧ 1 ≤ (atLevel 1 cab).store.level ∧
    [(⟨0, 0, 9999999, 9999999, 250, 1, [1]⟩ : RectArgs)].map toRect
      = [(⟨0, 0, 9999999, 9999999, 250, .outer, [1]⟩ : Rect)].map some ∧
    (63 : Nat) < 64 ∧ 4 < (List.replicate 5 (⟨0, 0, 1, 1, 1, 0, []⟩ : RectArgs)).length ∧
    9999999 < (⟨0, 0, 10000000, 0, 1, 0, []⟩ : RectArgs).east ∧ 250 < (⟨0, 0, 0, 0, 251, 0, []⟩ : RectArgs).zone ∧
    Listening cab ∧ cab.store.level = 0 ∧ (63 : Nat) ≤ 63 ∧ 64 < (⟨63, 2⟩ : ZoneReadArgs).first + 2 := by
  decide +kernel

/-- The part with the HIRE line in a raw level and state. -/
def pressedHire (raw : Bool) (x : KeyState) : State :=
  { cab with panel := { cab.panel with keys := cab.panel.keys.put .hire ⟨raw, 1000, x, some 1000⟩ } }

/-- The part with the PANIC line in a raw level and state. -/
def pressedPanic (raw : Bool) (x : KeyState) : State :=
  { cab with panel := { cab.panel with keys := cab.panel.keys.put .panic ⟨raw, 1000, x, some 1000⟩ } }

/-- The part with PANIC held for 1.5 s up to the very instant its release is recognised. -/
def panicHeld : State :=
  { cab with panel := { cab.panel with keys := cab.panel.keys.put .panic ⟨false, 2470, .down, some 1000⟩ } }

/-- The part with the ignition line in a raw level and state. -/
def ignited (raw : Bool) (x : Ignition) : State :=
  { cab with panel := { cab.panel with ignitionRaw := raw, ignition := x } }

theorem witness_InputsAreDebounced :
    (keyLine .hire cab).state = .unsettled ∧ (keyLine .hire (pressedHire false .stuck)).state = .stuck ∧
    (keyLine .hire (pressedHire false .stuck)).raw = false ∧
    (keyLine .hire (pressedHire true .heldAtStart)).holdSince = some 1000 ∧
    (pressedPanic false .down).panel.keys.panic.raw = false ∧
    (pressedPanic false .down).panel.keys.panic.state = .down ∧ (ignited false .unsettled).panel.ignition = .unsettled ∧
    (ignited false .on).panel.ignition = .on ∧ (ignited true .off).panel.ignitionRaw = true ∧
    (sparse (ignited true .off)).receiver.watch = .sparse ∧
    (pressedPanic false .down).panel.keys.panic.holdSince = some 1000 ∧
    ¬ 1000 + 1500 ≤ (pressedPanic false .down).panel.keys.panic.rawSince + 30 ∧
    panicHeld.panel.keys.panic.holdSince = some 1000 ∧
    1000 + 1500 ≤ panicHeld.panel.keys.panic.rawSince + 30 ∧
    panicHeld.panel.keys.panic.state = .down ∧ panicHeld.panel.panicArmed = false := by
  and_intros <;> decide +kernel

theorem witness_KeyPressesAreRouted :
    (keyLine .hire (pressedHire true .up)).raw = true ∧ (keyLine .hire (pressedHire true .up)).state = .up ∧
    meterRefusal .hire (pressedHire true .up) = none ∧ meterRefusal .stop cab = some .state ∧
    Listening (pressedHire true .up) ∧ (pressedHire true .up).store.working.keysOnly = false ∧
    acceptRefusal (offered [offer 3 .presented] cab) = none ∧
    chosenOffer (offered [offer 3 .presented] cab) = some (offer 3 .presented) ∧
    findOffer 3 (offered [offer 3 .presented] cab) = some (offer 3 .presented) ∧
    acceptRefusal cab = some .noOffer ∧ (keyLine .panic (pressedPanic true .up)).state = .up ∧
    cab.now < (offer 3 .presented).expiry * 1000 ∧
    (offer 3 .presented).expiry * 1000 ≤ ({ cab with now := 40000 } : State).now ∧
    (∀ e ∈ cab.scheduler.queue, e.kind ≠ .claim) ∧
    ({ cab with board := { cab.board with focus := some 3 } } : State).board.focus = some 3 ∧
    (offered [offer 4 .closed, offer 3 .presented, offer 5 .presented] cab).board.entries
      = [offer 4 .closed] ++ offer 3 .presented :: [offer 5 .presented] ∧
    (offered [offer 3 .presented] cab).board.focus = none ∧
    (∀ x ∈ [offer 4 .closed], x.state = .presented → (offer 3 .presented).expiry < x.expiry) ∧
    (∀ x ∈ [offer 5 .presented], x.state = .presented → (offer 3 .presented).expiry ≤ x.expiry) ∧
    (∀ x ∈ cab.board.entries, x.state ≠ .presented) := by
  and_intros <;> decide +kernel

/-- A board with an entry in each state, the claim's CLAIM heard of or not. -/
def mixedBoard : List Offer := [offer 1 .presented, offer 2 .claiming, offer 3 .closed]

theorem witness_AnArmingEntersActive :
    ((pressedPanic true .down).panel.keys.panic.state = .down ∧ (pressedPanic true .down).panel.panicArmed = false ∧
      (pressedPanic true .down).panel.keys.panic.holdSince = some 1000 ∧
      (pressedPanic true .down).emergency.state = .idle ∧ (alarmed .covert cab).emergency.state ≠ .idle ∧
      cab.panel.keys.panic.state ≠ .down ∧ Listening cab ∧ (metered .stopped (some trip) cab).meter.state.onTrip = true) ∧
    BoardSound (queued [entry .claim 2 .sent] (offered mixedBoard cab)) ∧
    BoardSound (queued [entry .claim 2 .waiting] (offered mixedBoard cab)) ∧
    (((queued [entry .claim 2 .sent] cab).scheduler.queue.map fun e => (e.kind, e.key)).Nodup ∧
      (entry .claim 2 .sent).state = .sent ∧ ¬ ((entry .claim 2 .waiting).state = .sent ∨
        1 ≤ (entry .claim 2 .waiting).attempts)) := by
  refine ⟨by decide +kernel, ?_, ?_, by decide +kernel⟩ <;> constructor <;> decide +kernel

theorem witness_BoardRequestsFollowTheirTables :
    Listening (offered [offer 65535 .presented] cab) ∧
    findOffer 65535 (offered [offer 65535 .presented] cab) = some (offer 65535 .presented) ∧
    findOffer 1 (offered [offer 1 .closed] cab) = some (offer 1 .closed) ∧ findOffer 1 cab = none ∧
    (alarmed .active cab).emergency.state = .active ∧
    (∃ o ∈ (offered [offer 1 .awarded] cab).board.entries, o.state.claimOpen = true) ∧
    ¬ (∃ o ∈ (offered [offer 65535 .presented] cab).board.entries, o.state.claimOpen = true) ∧
    cab.store.working.address ≠ 0 ∧ State.reset.store.working.address = 0 ∧
    cab.now < (offer 65535 .presented).expiry * 1000 ∧
    (offer 65535 .presented).expiry * 1000 ≤ ({ cab with now := 40000 } : State).now ∧
    assignment (offered [offer 1 .awarded] cab) = some 1 ∧
    findOffer 1 (offered [offer 1 .awarded] cab) = some (offer 1 .awarded) ∧ assignment cab = none := by
  decide +kernel

/-- The cab in an OUTER area at 23:59:59 of a workday, tariff 2 being the out-of-area tariff. -/
def outOfTown : State :=
  let s := tuned (fun r => { r with time := some ⟨⟨.workday, 86399⟩, .host, 0⟩ }) cab
  { s with
    locator := { s.locator with record := some ⟨9, 0, .outer, []⟩ }
    store := { s.store with working := { s.store.working with
      metrology := { s.store.working.metrology with outOfArea := 2 } } } }

theorem witness_MeterSecondRunsTheFare :
    (cab.meter.state ≠ .hired ∧ cab.store.working.metrology.pulseConstant ≠ 0 ∧
      State.reset.store.working.metrology.pulseConstant = 0 ∧ cab.accounts.totals.life.totalDistance ≤ 999999999999 ∧
      cab.receiver.time = none ∧ tariffArea outOfTown = .outer ∧
      (outOfTown.store.working.metrology.tariffs.get 2).valid = true ∧
      (outOfTown.store.working.metrology.row .workday)[86399 / 1800]? = some 1 ∧ tariffArea cab ≠ .outer) ∧
    ((metered .hired (some trip) cab).meter.state = .hired ∧ trip.fare ≤ 999999 ∧
      1 ≤ ((cab.store.working.metrology.tariffs.get 1).distanceStep * 1000 + 500) / 1000 *
        (cab.store.working.metrology.tariffs.get 1).timeStep ∧
      evaluateTariff cab = trip.tariff ∧ evaluateTariff outOfTown ≠ trip.tariff ∧
      cab.store.working.metrology.lockTariff = false) ∧
    ({ metered .hired (some trip) cab with
        meter := { (metered .hired (some trip) cab).meter with checkpointCount := 59 } } : State).meter.checkpointCount
      + 1 ≥ 60 := by decide +kernel

theorem witness_MeterKeysDriveTheTrip :
    (Listening cab ∧ cab.store.working.keysOnly = false ∧ cab.meter.state = .free ∧ meterRefusal .hire cab = none ∧
      meterRefusal .stop cab = some .state ∧ (metered .hired (some trip) cab).meter.trip = some trip ∧
      ({ metered .stopped (some trip) cab with
          meter := { (metered .stopped (some trip) cab).meter with resumeOpen := true } } : State).meter.resumeOpen
        = true ∧ trip.extrasCount < 9 ∧ 9 ≤ ({ trip with extrasCount := 9 } : Trip).extrasCount ∧
      trip.stopAt = some 1000 ∧ assignment (offered [offer 1 .awarded] cab) = some 1 ∧
      findOffer 1 (offered [offer 1 .awarded] cab) = some (offer 1 .awarded) ∧ cab.meter.resumeOpen = false ∧
      evaluateTariff cab = trip.tariff ∧ evaluateTariff outOfTown ≠ trip.tariff) ∧
    BoardSound (offered [offer 1 .awarded] cab) := by
  refine ⟨by decide +kernel, ?_⟩; constructor <;> decide +kernel

/-- A full log: 32 UNREPORTED records, the oldest numbered 65,520. -/
def fullLog : List LogEntry :=
  (List.range 32).map fun n => ⟨n, record (if n < 16 then 65520 + n else n - 15) .unreported, none⟩

theorem witness_FreeClosesTheTrip :
    Listening (metered .stopped (some trip) cab) ∧ (metered .stopped (some trip) cab).meter.state = .stopped ∧
    (metered .stopped (some trip) cab).store.working.keysOnly = false ∧ trip.flags.trial = false ∧
    ({ trip with flags := { trip.flags with trial := true } } : Trip).flags.trial = true ∧
    (metered .stopped (some trip) cab).accounts.fault = false ∧ State.reset.accounts.fault = true ∧
    32 ≤ (logging fullLog cab).accounts.log.length ∧ cab.accounts.log.length < 32 := by decide +kernel

theorem witness_ShiftsAndTimeAreSet :
    Listening ready ∧ ready.meter.state = .off ∧ Listening cab ∧ cab.meter.state = .free ∧ assignment cab = none ∧
    assignment (offered [offer 1 .awarded] cab) ≠ none ∧ 1 ≤ (atLevel 1 cab).store.level ∧ cab.store.level = 0 ∧
    BoardSound (offered [offer 1 .presented] cab) ∧ assignment (offered [offer 1 .presented] cab) = none := by
  and_intros <;> first | decide +kernel | (constructor <;> decide +kernel)

/-- The part with a log of one record. -/
def logged (e : LogEntry) : State := logging [e] cab

theorem witness_AccountsActOnTheirInstants :
    (∀ x ∈ cab.scheduler.queue, x.kind ≠ .tripReport) ∧ cab.receiver.sync = .locked ∧
    (logged ⟨0, record 1 .unreported, none⟩).accounts.log.find?
      (fun x => x.record.report == .unreported && x.holdOff.isNone) = some ⟨0, record 1 .unreported, none⟩ ∧
    findRecord 1 (logged ⟨0, record 1 .unreported, some 61000⟩) = some ⟨0, record 1 .unreported, some 61000⟩ ∧
    (∀ x ∈ cab.accounts.log, x.record.report ≠ .unreported ∨ x.holdOff ≠ none) ∧ Listening cab ∧
    cab.store.level < 2 ∧ 2 ≤ (atLevel 2 cab).store.level ∧ cab.accounts.fault = false ∧
    State.reset.accounts.fault = true ∧ State.reset.accounts.reinit = false := by decide +kernel

theorem witness_StoreWriterServesInOrder :
    cab.writer.writing = none ∧ cab.writer.markDirty = false ∧ cab.writer.checkpointDirty = false ∧
    ((logged ⟨31, record 1 .unreported, none⟩).accounts.log.find? fun e => [31].contains e.position)
      = some ⟨31, record 1 .unreported, none⟩ ∧
    (writingItem (.mark .none) cab).writer.writing = some ⟨.mark .none, 0⟩ ∧
    (writingItem (.settings .b ⟨1, fleet⟩) cab).writer.writing = some ⟨.settings .b ⟨1, fleet⟩, 0⟩ := by decide +kernel

theorem witness_MessagesAreAnswered :
    Listening (holding [message 65535 .due] cab) ∧
    findMessage 65535 (holding [message 65535 .due] cab) = some (message 65535 .due) ∧ findMessage 1 cab = none ∧
    32 < (⟨65535, 33⟩ : ReplyArgs).code ∧ 65535 < (⟨65536, 32⟩ : ReplyArgs).number ∧
    32 ∈ (message 65535 .due).replies ∧ 2 ∉ (message 65535 .due).replies ∧
    findMessage 1 (queued [entry .receipt 1 .waiting] (holding [message 1 .queued] cab)) = some (message 1 .queued) ∧
    findEntry .receipt 1 (queued [entry .receipt 1 .waiting] (holding [message 1 .queued] cab))
      = some (entry .receipt 1 .waiting) ∧
    findEntry .receipt 1 (queued [entry .receipt 1 .sent] (holding [message 1 .queued] cab))
      = some (entry .receipt 1 .sent) ∧
    findMessage 1 (holding [message 1 .sent] cab) = some (message 1 .sent) ∧
    ((holding [message 1 .due, message 2 .due] cab).inbox.messages.map (·.number)).Nodup ∧
    (∀ e ∈ cab.scheduler.queue, e.kind ≠ .receipt) ∧ (∀ m ∈ cab.inbox.messages, m.receipt ≠ .due) ∧
    (findMessage 1 (after (.messageReply (.fields ⟨1, 32⟩)) (holding [message 1 .sent, message 2 .none] cab))).map
      (·.receipt) = some .queued ∧
    ((holding [message 1 .sent, message 2 .none] cab).inbox.messages.map (·.number)).Nodup ∧
    Listening (holding [message 1 .sent, message 2 .none] cab) := by
  and_intros <;> decide +kernel

theorem witness_HostMessagesTakeTickets :
    Listening cab ∧ cab.store.working.canned.getD (1 - 1) [] ≠ [] ∧ cab.store.working.canned.getD (32 - 1) [] = [] ∧
    cab.store.working.address ≠ 0 ∧ ¬ 5 ≤ cab.scheduler.queue.countP (fun e => e.kind == .canned || e.kind == .freetext) ∧
    5 ≤ (queued ([1, 2, 3, 4, 5].map fun n => entry .canned n .waiting) cab).scheduler.queue.countP
      (fun e => e.kind == .canned || e.kind == .freetext) ∧
    (∀ b ∈ (List.replicate 65 0x7E#8 : Text), 0x20 ≤ b.toNat ∧ b.toNat ≤ 0x7E) ∧
    (∃ b ∈ ([0x7F#8] : Text), b.toNat < 0x20 ∨ 0x7E < b.toNat) := by decide +kernel

theorem witness_SettingsAreWritten :
    Listening (atLevel 1 cab) ∧ 1 ≤ (atLevel 1 cab).store.level ∧ cab.store.level = 0 ∧
    2 ≤ (atLevel 2 cab).store.level ∧ (metered .hired (some trip) cab).meter.state.onTrip = true ∧
    cab.meter.state.onTrip = false ∧ (atLevel 1 cab).store.working.canned.length = 32 ∧
    (cab.store.working.metrology.tariffs.get 4).valid = true ∧
    (State.reset.store.working.metrology.tariffs.get 4).valid = false ∧
    (cab.store.working.metrology.row .restday).length = 48 ∧ 47 + [4].length ≤ 48 ∧
    cab.store.working.accessCode.length = 6 ∧ (∀ b ∈ cab.store.working.accessCode, 0x30 ≤ b.toNat ∧ b.toNat ≤ 0x39) ∧
    cab.store.working.calibrationCode.length = 8 := by decide +kernel

theorem witness_CommitRevertAndAlertClear :
    Listening (atLevel 1 cab) ∧ ¬ ((atLevel 1 cab).store.working.metrology ≠ (atLevel 1 cab).store.stored.metrology) ∧
    ({ cab with store := { cab.store with stored := defaultSettings } } : State).store.working.metrology
      ≠ ({ cab with store := { cab.store with stored := defaultSettings } } : State).store.stored.metrology ∧
    (atLevel 1 cab).store.commit = .none ∧
    ({ cab with store := { cab.store with commit := .writing } } : State).store.commit ≠ .none ∧
    (atLevel 1 (alarmed .active cab)).emergency.state = .active ∧
    (atLevel 1 (alarmed .covert cab)).emergency.state = .covert := by decide +kernel

theorem witness_CodesOpenLevels :
    Listening cab ∧ cab.store.working.accessCode.length = 6 ∧ cab.store.working.calibrationCode.length = 8 ∧
    (∀ b ∈ cab.store.working.calibrationCode, 0x30 ≤ b.toNat ∧ b.toNat ≤ 0x39) ∧
    (∀ b ∈ cab.store.working.accessCode, 0x30 ≤ b.toNat ∧ b.toNat ≤ 0x39) ∧ cab.store.lockoutEnd = none ∧
    (List.replicate 6 0x30#8 : Digits) ≠ cab.store.working.accessCode ∧
    ({ cab with store := { cab.store with lockoutEnd := some 9000 } } : State).store.lockoutEnd = some 9000 := by
  decide +kernel

theorem witness_FetchEventRemovesTheMostUrgent :
    Listening cab ∧ cab.link.events = [] ∧
    EventsOrdered { cab with link := { cab.link with events := [.emergency, .fault] } } := by decide +kernel

/-- A part marked for reset that owes the reply of its RESTART and follows an early frame (R201). -/
def earlyFollowed (phase : RxPhase) : State :=
  { ready with link := { resetLink with
      owed := some ⟨⟨.rstr, .ok, []⟩, 0⟩
      rx := { resetRx with phase := phase, early := true, check := [0#8], resetMarked := true } } }

theorem witness_FramesAndReplies :
    (Listening cab ∧ recognisedTag 0x3F#8 0x3F#8 0x3F#8 0x3F#8 = false ∧ (3#8 : Byte).toNat < 4 ∧
      244 < (245#8 : Byte).toNat) ∧
    (([⟨4#8, false⟩, ⟨0#8, false⟩, ⟨0#8, true⟩, ⟨0#8, false⟩, ⟨0#8, false⟩, ⟨0#8, false⟩, ⟨0#8, false⟩] :
        List LineByte).map (·.value) = BitVec.ofNat 8 4 :: ([0#8, 0#8, 0#8, 0#8] ++ [0#8, 0#8]) ∧
      [0#8, 0#8] ≠ checkBytes (BitVec.ofNat 8 4 :: [0#8, 0#8, 0#8, 0#8])) ∧
    ({ cab with link := { cab.link with owed := some ⟨⟨.rstr, .ok, []⟩, 0⟩ } } : State).link.owed ≠ none ∧
    ((following none cab).link.rx.phase ≠ .hunt ∧ (following none cab).link.rx.lastByte + 20 < cab.now ∧
      (following (some ⟨⟨.rstr, .ok, []⟩, 0⟩) cab).link.owed ≠ none ∧ (following none cab).link.owed = none) ∧
    ({ cab with link := { cab.link with rx := { resetRx with resetMarked := true } } } : State).link.rx.resetMarked
      = true ∧
    (decodeFrame identifyFrame = some (.identify (.fields ())) ∧
      identifyFrame = identifyFrame.take 5 ++ identifyFrame.drop 5 ∧ identifyFrame.drop 5 ≠ [] ∧
      identifyFrame.take 5 ≠ [] ∧
      (after (.badFrame (unbroken (identifyFrame.take 5))) cab).link.owed = none) ∧
    ((following none ready).link.rx.phase = .body ∧ ready.now ≤ (following none ready).link.rx.lastByte + 20) ∧
    ((earlyFollowed .check).link.rx.resetMarked = true ∧ (earlyFollowed .check).link.rx.early = true ∧
      (earlyFollowed .check).link.owed = some ⟨⟨.rstr, .ok, []⟩, 0⟩ ∧
      (replyBytes ⟨.rstr, .ok, []⟩).length * 10 * 1000 + 115199 ≤ 20 * 115200 ∧
      (earlyFollowed .check).link.rx.check.length = 1 ∧ (earlyFollowed .length).link.rx.phase = .length) := by
  and_intros <;> decide +kernel

/-- The cab with three entries in rank order, a QUEUED message and two records in its log. -/
def busy : State :=
  let s := queued [entry .emergency 0 .waiting, entry .status 0 .waiting, entry .receipt 1 .waiting]
    (holding [message 1 .queued, message 2 .none] cab)
  { s with accounts := { s.accounts with
      log := [⟨31, record 65535 .unreported, none⟩, ⟨0, record 1 .reported, none⟩], nextSeq := 2 } }

/-- The tests' metrology lies in its ranges. -/
theorem fleet_metrology : MetrologyOk fleet := by
  constructor
  · decide
  all_goals intro n; unfold Tariffs.get; split <;> decide

/-- The invariants that the statements assume of a state are met by one. -/
theorem witness_Invariants :
    EventsOrdered ready ∧ LevelSound ready ∧ VoiceSound ready ∧ SparseSound ready ∧ SyncSound cab ∧
      BoardSound (offered [offer 1 .awarded] cab) ∧ FareSound (metered .hired (some trip) cab) ∧
      QueueSound busy ∧ InboxSound busy ∧ LogSound busy := by
  refine ⟨by decide +kernel, by decide +kernel, by decide +kernel, by decide +kernel, ?_, ?_, ?_, ?_, ?_, ?_⟩
  · exact ⟨by decide, by decide, (fun l h => by cases h; decide), by decide, by decide, by decide, by decide,
      by decide, by decide⟩
  · constructor <;> decide +kernel
  · exact ⟨(fun t h => by cases h; decide), by decide, (fun t _ h => by cases h; decide), fleet_metrology,
      fleet_metrology, (fun c h => nomatch h), (fun c h => nomatch h), (fun x copy c h => nomatch h)⟩
  · exact ⟨by decide +kernel, (fun kind => by cases kind <;> decide), by decide +kernel, by decide +kernel⟩
  · constructor <;> decide +kernel
  · refine ⟨by decide, by decide, by decide, fun l a b m h => ?_, fun l a h => ?_⟩
    all_goals
      rcases l with _ | ⟨x, _ | ⟨y, l⟩⟩ <;> simp [busy, queued, holding] at h
      obtain ⟨rfl, rfl, rfl⟩ := h; decide

end Sys2Proof.Tests
end

section
/-! SUPPORT. What the generation of a STATUS and the new test of the PRESENTED entries do, said once, and the
comparisons by which a statement about one state carries over to another that reads the same. -/

namespace Sys2Proof.Machine

/-! ### STATUS generation (R42) -/

theorem generateStatus_events (s : State) (j : EventKind) (h : j ∈ s.link.events) :
    j ∈ (generateStatus s).link.events := by
  unfold generateStatus
  split
  · exact placeEntry_events _ _ _ _ _ _ h
  · split <;> exact h

/-- With no STATUS entry in the queue, one is placed. -/
theorem generateStatus_places (s : State) (h : ∀ e ∈ s.scheduler.queue, e.kind ≠ .status) :
    newEntry .status 0 .none none s ∈ (generateStatus s).scheduler.queue := by
  have hfind : findEntry .status 0 s = none := by
    simp only [findEntry, List.find?_eq_none, Entry.is, Bool.and_eq_true, beq_iff_eq, not_and]
    exact fun e he hk => absurd hk (h e he)
  have hplaced : placementOf .status 0 s = .placed := by
    refine placementOf_placed _ _ _ (fun e he hk => h e he hk.1) ?_
    have hzero : s.scheduler.queue.countP (fun e => EntryKind.status.sharesCap e.kind) = 0 := by
      simp only [List.countP_eq_zero, EntryKind.sharesCap, beq_iff_eq]
      exact fun e he hk => h e he hk.symm
    rw [hzero]; decide
  rcases placeEntry_cases .status 0 .none none s with ⟨-, hsched, -⟩ | ⟨hno, -⟩
  · simp [generateStatus, hfind, hsched]
  · exact absurd hplaced hno

/-- With the STATUS entry SENT, the regeneration mark is set. -/
theorem generateStatus_regenerates (s : State) (e : Entry) (h : findEntry .status 0 s = some e)
    (hsent : e.state = .sent) : (generateStatus s).scheduler.regenerate = true := by
  simp [generateStatus, h, hsent]

/-- The first STATUS entry, if its key is 0, is the one that the scheduler finds. -/
theorem findEntry_status (s : State) (e : Entry)
    (h : s.scheduler.queue.find? (fun x => x.kind == .status) = some e) (hkey : e.key = 0) :
    findEntry .status 0 s = some e := by
  obtain ⟨hkind, before, after, hqueue, hbefore⟩ := List.find?_eq_some_iff_append.mp h
  refine List.find?_eq_some_iff_append.mpr ⟨by simp [Entry.is, hkey, beq_iff_eq.mp hkind], before, after, hqueue, ?_⟩
  intro x hx
  have hne := hbefore x hx
  simp only [Entry.is, Bool.not_and, Bool.or_eq_true]
  exact .inl hne

theorem statusGenerated_generateStatus (s : State) : StatusGenerated s (generateStatus s) where
  placed h := ⟨_, generateStatus_places s h, rfl, rfl, rfl⟩
  sent e h hkey hsent := generateStatus_regenerates s e (findEntry_status s e h hkey) hsent

/-- Whether a STATUS was generated shows in the schedulers alone. -/
theorem StatusGenerated.congr {s t u v : State} (h : StatusGenerated u v) (hs : s.scheduler = u.scheduler)
    (ht : t.scheduler = v.scheduler) : StatusGenerated s t where
  placed := by rw [hs, ht]; exact h.placed
  sent := by rw [hs, ht]; exact h.sent

/-! ### Admission by the cab condition (R71) -/

theorem emState_open_eq_false (e : EmState) : e.open = false ↔ e = .idle ∨ e = .covert := by
  cases e <;> decide

/-- The meter's rows of R71's table: not OFF, and FREE or a BOOKED offer allowed as the next job. -/
theorem cabAdmits_iff (o : Offer) (s : State) : cabAdmits o.cls o.nextJob s = true ↔ CabAdmits o s := by
  have hcab : CabAdmits o s ↔ assignment s = none ∧ s.emergency.state.open = false ∧
      (s.meter.state = .free ∨ s.meter.state.onTrip = true ∧ o.cls = .booked ∧ o.nextJob = true) := by
    rw [emState_open_eq_false]
    exact ⟨fun h => ⟨h.free, h.calm, h.meter⟩, fun ⟨hf, hc, hm⟩ => ⟨hf, hc, hm⟩⟩
  rw [hcab, cabAdmits]
  cases s.meter.state <;> cases s.emergency.state.open <;> cases assignment s <;> simp [MeterState.onTrip]

/-- The cab condition reads the meter state, the emergency state and the assignment. -/
theorem CabAdmits.congr {o : Offer} {s t : State} (h : CabAdmits o s) (ha : assignment t = assignment s)
    (hm : t.meter = s.meter) (he : t.emergency = s.emergency) : CabAdmits o t where
  free := ha.trans h.free
  calm := he ▸ h.calm
  meter := hm ▸ h.meter

/-! ### The new test of the PRESENTED entries (R74) -/

/-- The new test leaves an entry: the cab condition admits it, and it is for this unit by name or its zone is served. -/
abbrev StillAdmitted (o : Offer) (s : State) : Prop :=
  CabAdmits o s ∧ (o.target = .unit ∨ o.pickup ∈ servedSet s)

/-- The new test reads the board's assignment, the meter, the emergency and the locator. -/
theorem stillAdmitted_congr {s t : State} (o : Offer) (ha : assignment t = assignment s)
    (hm : t.meter = s.meter) (he : t.emergency = s.emergency) (hl : t.locator = s.locator) :
    StillAdmitted o t ↔ StillAdmitted o s := by
  have hserved : servedSet t = servedSet s := by simp [servedSet, hl]
  rw [StillAdmitted, StillAdmitted, hserved]
  exact and_congr_left' ⟨fun h => h.congr ha.symm hm.symm he.symm, fun h => h.congr ha hm he⟩

theorem zoneAdmits_iff (target : Target) (pickup : Nat) (s : State) :
    zoneAdmits target pickup s = true ↔ target = .unit ∨ pickup ∈ servedSet s := by
  simp [zoneAdmits]

/-- On a board without two entries of one number, the numbers given are those of the PRESENTED entries that are no
longer admitted. -/
theorem mem_noLongerAdmitted (s : State) (hs : (s.board.entries.map (·.number)).Nodup) (o : Offer)
    (ho : o ∈ s.board.entries) :
    o.number ∈ noLongerAdmitted s ↔ o.state = .presented ∧ ¬ StillAdmitted o s := by
  have htest : ∀ x : Offer, (x.state == .presented &&
      !(cabAdmits x.cls x.nextJob s && zoneAdmits x.target x.pickup s)) = true ↔
      x.state = .presented ∧ ¬ StillAdmitted x s := by
    intro x
    rw [Bool.and_eq_true, beq_iff_eq, Bool.not_eq_true', ← Bool.not_eq_true, Bool.and_eq_true, cabAdmits_iff,
      zoneAdmits_iff]
  simp only [noLongerAdmitted, List.mem_map, List.mem_filter, htest]
  constructor
  · rintro ⟨x, ⟨hx, hclosed⟩, hnum⟩
    rwa [← List.inj_on_of_nodup_map hs hx ho hnum]
  · exact fun h => ⟨o, ⟨ho, h⟩, rfl⟩

theorem refilter_events (s : State) (j : EventKind) (h : j ∈ s.link.events) :
    j ∈ (refilter s).link.events :=
  foldl_keeps (fun t => j ∈ t.link.events) _ (fun t n ht => by simp [ht]) _ s h

theorem foldl_closeOnly_closeOrder (outcome : OfferOutcome) (l : List Nat) (s : State) :
    (l.foldl (fun s n => closeOnly n outcome s) s).board.closeOrder = s.board.closeOrder ++ l := by
  induction l generalizing s with
  | nil => simp
  | cons n l ih => rw [List.foldl_cons, ih]; simp

theorem refilter_closeOrder (s : State) :
    (refilter s).board.closeOrder = s.board.closeOrder ++ noLongerAdmitted s :=
  foldl_closeOnly_closeOrder .dropped (noLongerAdmitted s) s

/-- A new test that closes an entry leaves OFFER_CLOSED pending. -/
theorem refilter_offerClosed (s : State) (n : Nat) (h : n ∈ noLongerAdmitted s) :
    Pending .offerClosed (refilter s) := by
  unfold refilter
  cases hl : noLongerAdmitted s with
  | nil => simp [hl] at h
  | cons m l =>
    exact foldl_keeps (Pending .offerClosed) _ (fun t k ht => by simp [Pending, ht]) l _ (by simp [Pending])

/-- The first of a list that passes a test, read by `g`, is the same after a change of the elements that neither the
test nor `g` sees. -/
theorem find?_map_unseen {α β : Type} {p : α → Bool} {f : α → α} {g : α → β} {l : List α}
    (hp : ∀ a ∈ l, p (f a) = p a) (hg : ∀ a, g (f a) = g a) :
    ((l.map f).find? p).map g = (l.find? p).map g := by
  have hcomp : g ∘ f = g := funext hg
  rw [List.find?_map, Option.map_map, hcomp, ← List.find?_congr hp]
  rfl

/-- The new test closes PRESENTED entries alone, so the assignment stands. -/
theorem assignment_refilter (s : State) (hs : (s.board.entries.map (·.number)).Nodup) :
    assignment (refilter s) = assignment s := by
  rw [assignment, refilter_entries]
  refine find?_map_unseen (fun o ho => ?_) (fun o => by split <;> rfl)
  split
  · rename_i hclosed
    have hpres := ((mem_noLongerAdmitted s hs o ho).mp hclosed).1
    simp [hpres]
  · rfl

/-- What the new test does on a board without two entries of one number. -/
theorem retested_refilter (s : State) (hs : BoardSound s) : Retested s (refilter s) := by
  obtain ⟨-, ⟨hloc, -, -⟩, ⟨hmeter, -, -⟩, -, -, hemerg⟩ := refilter_frame s
  have hsame : ∀ o, StillAdmitted o (refilter s) ↔ StillAdmitted o s := fun o =>
    stillAdmitted_congr o (assignment_refilter s hs.distinct) hmeter hemerg hloc
  constructor
  · intro o ho hpres hnot
    have hmem := (mem_noLongerAdmitted s hs.distinct o ho).mpr ⟨hpres, fun h => hnot ((hsame o).mpr h)⟩
    exact {
      entry := by rw [refilter_entries]; exact List.mem_map.mpr ⟨o, ho, by simp [hmem]⟩
      order := by rw [refilter_closeOrder]; exact List.mem_append_right _ hmem
      event := refilter_offerClosed s _ hmem }
  · intro o ho hstay
    have hmem : o.number ∉ noLongerAdmitted s := by
      rw [mem_noLongerAdmitted s hs.distinct o ho]
      rintro ⟨hpres, hnot⟩
      exact hstay.elim (absurd hpres) fun h => hnot ((hsame o).mp h)
    rw [refilter_entries]; exact List.mem_map.mpr ⟨o, ho, by simp [hmem]⟩

/-- The new test reads board, cab condition and served set, and shows in the board and the event set. -/
theorem Retested.congr {s t u v : State} (h : Retested u v) (hs : s.board = u.board) (hb : t.board = v.board)
    (hl : t.locator = v.locator) (hm : t.meter = v.meter) (he : t.emergency = v.emergency)
    (hk : t.link.events = v.link.events) : Retested s t := by
  have hassign : assignment t = assignment v := by simp [assignment, hb]
  have hsame : ∀ o, StillAdmitted o t ↔ StillAdmitted o v := fun o => stillAdmitted_congr o hassign hm he hl
  constructor
  · intro o ho hpres hnot
    obtain ⟨hentry, horder, hevent⟩ := h.dropped o (hs ▸ ho) hpres fun hv => hnot ((hsame o).mpr hv)
    exact ⟨hb ▸ hentry, hb ▸ horder, by rw [Pending, hk]; exact hevent⟩
  · intro o ho hstay
    rw [hb]
    exact h.kept o (hs ▸ ho) (hstay.imp_right (hsame o).mp)

end Sys2Proof.Machine
end

section
/-! PROOFS. The zone locator: the served set, the lookup, and what a fix does to the current zone and to the board. -/

namespace Sys2Proof.Machine

/-! ### The served set and the tariff area (R54) -/

@[simp] theorem mem_insertOnce (m n : Nat) (l : List Nat) : m ∈ insertOnce n l ↔ m = n ∨ m ∈ l := by
  induction l with
  | nil => simp [insertOnce]
  | cons x xs ih =>
    unfold insertOnce
    split
    · rename_i h; subst h; simp
    · split <;> simp [ih, or_left_comm]

theorem insertOnce_ascending (n : Nat) (l : List Nat) (h : l.Pairwise (· < ·)) :
    (insertOnce n l).Pairwise (· < ·) := by
  induction l with
  | nil => simp [insertOnce]
  | cons x xs ih =>
    obtain ⟨hx, hxs⟩ := List.pairwise_cons.mp h
    unfold insertOnce
    split
    · exact h
    · rename_i hne
      split
      · rename_i hlt
        refine List.pairwise_cons.mpr ⟨?_, h⟩
        rintro y (_ | ⟨_, hy⟩)
        · exact hlt
        · exact lt_trans hlt (hx y hy)
      · rename_i hge
        refine List.pairwise_cons.mpr ⟨fun y hy => ?_, ih hxs⟩
        rcases (mem_insertOnce y n xs).mp hy with rfl | hy
        · omega
        · exact hx y hy

@[simp] theorem mem_foldr_insertOnce (z : Nat) (l : List Nat) : z ∈ l.foldr insertOnce [] ↔ z ∈ l := by
  induction l with
  | nil => rfl
  | cons n l ih => simp [ih]

theorem foldr_insertOnce_ascending (l : List Nat) : (l.foldr insertOnce []).Pairwise (· < ·) := by
  induction l with
  | nil => exact .nil
  | cons n l ih => exact insertOnce_ascending n _ ih

theorem servedSet_ascending (s : State) : (servedSet s).Pairwise (· < ·) := by
  unfold servedSet
  split
  · exact .nil
  · exact insertOnce_ascending _ _ (foldr_insertOnce_ascending _)

theorem mem_servedSet (s : State) (z : Nat) :
    z ∈ servedSet s ↔ s.locator.zone ≠ 0 ∧
      (z = s.locator.zone ∨ ∃ r, s.locator.record = some r ∧ z ∈ r.adjacent) := by
  unfold servedSet
  split
  · simp_all
  · cases hrec : s.locator.record <;> simp_all

/-- The served set reads zone and record. -/
theorem servedSet_congr {s t : State} (hz : t.locator.zone = s.locator.zone)
    (hr : t.locator.record = s.locator.record) : servedSet t = servedSet s := by simp [servedSet, hz, hr]

theorem tariffArea_noZone (s : State) (h : s.locator.zone = 0) : tariffArea s = .inner := by simp [tariffArea, h]

theorem tariffArea_record (s : State) (r : ZoneRecord) (hz : s.locator.zone ≠ 0)
    (hr : s.locator.record = some r) : tariffArea s = r.area := by simp [tariffArea, hz, hr]

/-! ### The lookup (R51) -/

theorem contains_iff (r : Rect) (easting northing : Nat) :
    r.contains easting northing = true ↔
      r.west ≤ easting ∧ easting ≤ r.east ∧ r.south ≤ northing ∧ northing ≤ r.north := by
  simp [Rect.contains, within, and_assoc]

/-- Position `i` of a table holds `x`, the first rectangle that contains the point. -/
structure FirstContaining (easting northing : Nat) (l : List (Option Rect)) (i : Nat) (x : Rect) : Prop where
  held : l[i]? = some (some x)
  contains : x.contains easting northing = true
  first : ∀ j y, j < i → l[j]? = some (some y) → ¬ y.contains easting northing = true

/-- A first position that does not contain the point moves the one that does by one. -/
theorem FirstContaining.cons {easting northing i : Nat} {l : List (Option Rect)} {x : Rect}
    (h : FirstContaining easting northing l i x) (o : Option Rect)
    (ho : ∀ y, o = some y → ¬ y.contains easting northing = true) :
    FirstContaining easting northing (o :: l) (i + 1) x where
  held := by simpa using h.held
  contains := h.contains
  first j y hj hy := by
    cases j with
    | zero => exact ho y (by simpa using hy)
    | succ j => exact h.first j y (by omega) (by simpa using hy)

/-- A lookup result is the record of the first rectangle that contains the point. -/
theorem lookupFrom_some (easting northing k : Nat) (l : List (Option Rect)) (r : ZoneRecord)
    (h : lookupFrom easting northing k l = some r) :
    ∃ i x, FirstContaining easting northing l i x ∧ r = recordOf (k + i) x := by
  induction l generalizing k with
  | nil => simp [lookupFrom] at h
  | cons o l ih =>
    cases o with
    | none =>
      obtain ⟨i, x, hx, rfl⟩ := ih (k + 1) h
      exact ⟨i + 1, x, hx.cons none (by simp), by rw [Nat.add_right_comm, Nat.add_assoc]⟩
    | some y =>
      by_cases hy : y.contains easting northing = true
      · simp only [lookupFrom, hy, if_true, Option.some.injEq] at h
        exact ⟨0, y, ⟨rfl, hy, by simp⟩, h.symm⟩
      · simp only [lookupFrom, hy] at h
        obtain ⟨i, x, hx, rfl⟩ := ih (k + 1) h
        exact ⟨i + 1, x, hx.cons (some y) (by simpa using hy), by rw [Nat.add_right_comm, Nat.add_assoc]⟩

/-- Without a result no rectangle of the table contains the point. -/
theorem lookupFrom_none (easting northing k : Nat) (l : List (Option Rect))
    (h : lookupFrom easting northing k l = none) (y : Rect) (hy : some y ∈ l) :
    ¬ y.contains easting northing = true := by
  induction l generalizing k with
  | nil => simp at hy
  | cons o l ih =>
    cases o with
    | none => exact ih (k + 1) h (by simpa using hy)
    | some x =>
      by_cases hx : x.contains easting northing = true
      · simp [lookupFrom, hx] at h
      · simp only [lookupFrom, hx] at h
        rcases List.mem_cons.mp hy with hyx | hyl
        · cases hyx; exact hx
        · exact ih (k + 1) h hyl

/-! ### The board is told of the served set (R55) -/

/-- Between two states the board stands where the served set is the same, and its PRESENTED entries were tested again
where it is not. -/
structure BoardTold (s t : State) : Prop where
  stands : servedSet t = servedSet s → t.board = s.board
  tested : servedSet t ≠ servedSet s → BoardSound s → Retested s t

/-- What the board keeps is said of the board alone. -/
theorem BoardSound.congr {s t : State} (h : BoardSound s) (hb : t.board = s.board) : BoardSound t where
  size := hb ▸ h.size
  distinct := hb ▸ h.distinct
  oneClaim := hb ▸ h.oneClaim
  closed := hb ▸ h.closed

/-- Boards are told alike where the states read alike. -/
theorem BoardTold.congr {s t u v : State} (h : BoardTold u v) (hserved : servedSet s = servedSet u)
    (hs : s.board = u.board) (hb : t.board = v.board) (hl : t.locator = v.locator) (hm : t.meter = v.meter)
    (he : t.emergency = v.emergency) (hk : t.link.events = v.link.events) : BoardTold s t := by
  have ht : servedSet t = servedSet v := servedSet_congr (by rw [hl]) (by rw [hl])
  constructor
  · intro heq
    rw [hb, hs]; exact h.stands (by rw [← ht, heq, hserved])
  · intro hne hsound
    exact (h.tested (by rwa [← ht, ← hserved]) (hsound.congr hs.symm)).congr hs hb hl hm he hk

theorem servedSet_tellBoard (before : List Nat) (s : State) : servedSet (tellBoard before s) = servedSet s := by
  simp [servedSet]

theorem tellBoard_scheduler (before : List Nat) (s : State) : (tellBoard before s).scheduler = s.scheduler := by simp

theorem tellBoard_events (before : List Nat) (s : State) (j : EventKind) (h : j ∈ s.link.events) :
    j ∈ (tellBoard before s).link.events := by
  unfold tellBoard; split
  · exact h
  · exact refilter_events s j h

/-- The locator's word reaches the board that stood before its own work. -/
theorem boardTold_tellBoard {s u : State} (hb : u.board = s.board) : BoardTold s (tellBoard (servedSet s) u) := by
  have hserved := servedSet_tellBoard (servedSet s) u
  constructor
  · intro heq
    rw [hserved] at heq
    simp [tellBoard, heq, hb]
  · intro hne hsound
    rw [hserved] at hne
    rw [tellBoard, if_neg hne]
    exact (retested_refilter u (hsound.congr hb)).congr hb.symm rfl rfl rfl rfl rfl

/-! ### Changes of the current zone (R52, R55) -/

@[simp] theorem changeZone_locator (r : Option ZoneRecord) (s : State) :
    (changeZone r s).locator = { s.locator with zone := resultZone r, record := r, candidate := none } := by
  simp [changeZone]

theorem changeZone_events (r : Option ZoneRecord) (s : State) (j : EventKind) (h : j = .zone ∨ j ∈ s.link.events) :
    j ∈ (changeZone r s).link.events :=
  tellBoard_events _ _ _ (generateStatus_events _ _ (by simpa using h))

theorem changeZone_status (r : Option ZoneRecord) (s : State) : StatusGenerated s (changeZone r s) := by
  unfold changeZone
  refine (statusGenerated_generateStatus _).congr ?_ (tellBoard_scheduler _ _)
  rfl

theorem changeZone_told (r : Option ZoneRecord) (s : State) : BoardTold s (changeZone r s) :=
  boardTold_tellBoard (by simp)

@[simp] theorem refreshRecord_locator (r : Option ZoneRecord) (s : State) :
    (refreshRecord r s).locator = { s.locator with record := r, candidate := none } := by
  unfold refreshRecord; dsimp only; split <;> simp

theorem refreshRecord_events (r : Option ZoneRecord) (s : State) (j : EventKind)
    (h : j ∈ s.link.events ∨ j = .zone ∧ r ≠ s.locator.record) : j ∈ (refreshRecord r s).link.events := by
  unfold refreshRecord
  split
  · rename_i hsame; exact h.elim id fun hz => absurd hsame hz.2
  · exact tellBoard_events _ _ _ (by simpa [or_comm] using h.imp_right And.left)

theorem refreshRecord_told (r : Option ZoneRecord) (s : State) : BoardTold s (refreshRecord r s) := by
  unfold refreshRecord
  split
  · rename_i hsame
    exact ⟨fun _ => rfl, fun hne => (hne (servedSet_congr rfl hsame)).elim⟩
  · exact boardTold_tellBoard (by simp)

theorem applyLookup_same (r : Option ZoneRecord) (s : State) (h : resultZone r = s.locator.zone) :
    applyLookup r s = refreshRecord r s := by simp [applyLookup, h]

theorem applyLookup_agrees (r : Option ZoneRecord) (s : State) (h : resultZone r ≠ s.locator.zone)
    (hc : s.locator.candidate = some (resultZone r)) : applyLookup r s = changeZone r s := by
  simp [applyLookup, h, hc]

theorem applyLookup_differs (r : Option ZoneRecord) (s : State) (h : resultZone r ≠ s.locator.zone)
    (hc : s.locator.candidate ≠ some (resultZone r)) :
    applyLookup r s = { s with locator := { s.locator with candidate := some (resultZone r) } } := by
  simp [applyLookup, h, hc]

/-- The three ways in which a lookup result is applied. -/
theorem applyLookup_cases (r : Option ZoneRecord) (s : State) :
    applyLookup r s = refreshRecord r s ∨ applyLookup r s = changeZone r s ∨
      applyLookup r s = { s with locator := { s.locator with candidate := some (resultZone r) } } := by
  by_cases h : resultZone r = s.locator.zone
  · exact .inl (applyLookup_same r s h)
  · by_cases hc : s.locator.candidate = some (resultZone r)
    · exact .inr (.inl (applyLookup_agrees r s h hc))
    · exact .inr (.inr (applyLookup_differs r s h hc))

theorem applyLookup_events (r : Option ZoneRecord) (s : State) (j : EventKind) (h : j ∈ s.link.events) :
    j ∈ (applyLookup r s).link.events := by
  rcases applyLookup_cases r s with e | e | e <;> rw [e]
  · exact refreshRecord_events r s j (.inl h)
  · exact changeZone_events r s j (.inr h)
  · exact h

theorem applyLookup_told (r : Option ZoneRecord) (s : State) : BoardTold s (applyLookup r s) := by
  rcases applyLookup_cases r s with e | e | e <;> rw [e]
  · exact refreshRecord_told r s
  · exact changeZone_told r s
  · exact ⟨fun _ => rfl, fun hne => (hne (servedSet_congr rfl rfl)).elim⟩

/-- A lookup result leaves the fix, its condition and the load pointer. -/
theorem applyLookup_locator (r : Option ZoneRecord) (s : State) :
    (applyLookup r s).locator.fix = s.locator.fix ∧ (applyLookup r s).locator.condition = s.locator.condition ∧
      (applyLookup r s).locator.loadPointer = s.locator.loadPointer := by
  rcases applyLookup_cases r s with e | e | e <;> simp [e]

/-! ### Fixes (R47) -/

@[simp] theorem storeFix_locator (f : Fix) (s : State) :
    (storeFix f s).locator = { s.locator with
      fix := some f, condition := .fresh
      candidate := if s.locator.condition = .fresh then s.locator.candidate else none } := by
  unfold storeFix; dsimp only; split <;> simp

theorem storeFix_zoneEvent (f : Fix) (s : State) (h : s.locator.condition ≠ .fresh) : Pending .zone (storeFix f s) := by
  simp [storeFix, h, Pending]

/-- The part after a fix of a quality has been taken: stored, and its lookup applied. -/
def afterFix (a : PositionArgs) (q : Quality) (s : State) : State :=
  applyLookup (lookup a.easting a.northing s) (storeFix ⟨a.easting, a.northing, q, s.now⟩ s)

section
variable (a : PositionArgs) (q : Quality) (s : State)

theorem afterFix_frame :
    SameCore s (afterFix a q s) ∧ SameBooks s (afterFix a q s) ∧ (afterFix a q s).panel = s.panel ∧
    (afterFix a q s).inbox = s.inbox ∧ (afterFix a q s).emergency = s.emergency ∧
    (afterFix a q s).store = s.store := by simp [afterFix, SameCore, SameBooks]

theorem afterFix_fix :
    (afterFix a q s).locator.fix = some ⟨a.easting, a.northing, q, s.now⟩ ∧
    (afterFix a q s).locator.condition = .fresh ∧
    (afterFix a q s).locator.loadPointer = s.locator.loadPointer := by
  simp [afterFix, applyLookup_locator]

theorem afterFix_zoneEvent (h : s.locator.condition ≠ .fresh) : Pending .zone (afterFix a q s) :=
  applyLookup_events _ _ _ (storeFix_zoneEvent _ s h)

theorem afterFix_told : BoardTold s (afterFix a q s) :=
  (applyLookup_told _ _).congr (servedSet_congr (by simp) (by simp)).symm (by simp) rfl rfl rfl rfl rfl

/-- A result of the current zone refreshes the record. -/
theorem afterFix_same (h : resultZone (lookup a.easting a.northing s) = s.locator.zone) :
    let t := afterFix a q s
    t.locator.zone = resultZone (lookup a.easting a.northing s) ∧ t.locator.record = lookup a.easting a.northing s ∧
      t.locator.candidate = none ∧ (lookup a.easting a.northing s ≠ s.locator.record → Pending .zone t) := by
  have e := applyLookup_same (lookup a.easting a.northing s) (storeFix ⟨a.easting, a.northing, q, s.now⟩ s)
    (by simp [h])
  intro t
  simp only [t, afterFix, e, refreshRecord_locator, storeFix_locator, true_and]
  exact ⟨h.symm, fun hne => refreshRecord_events _ _ _ (.inr ⟨rfl, by simpa using hne⟩)⟩

/-- A result of another zone that the candidate does not name becomes the candidate. -/
theorem afterFix_differs (h : resultZone (lookup a.easting a.northing s) ≠ s.locator.zone)
    (hc : (if s.locator.condition = .fresh then s.locator.candidate else none) ≠
      some (resultZone (lookup a.easting a.northing s))) :
    let t := afterFix a q s
    t.locator.zone = s.locator.zone ∧ t.locator.record = s.locator.record ∧
      t.locator.candidate = some (resultZone (lookup a.easting a.northing s)) ∧ t.board = s.board ∧
      t.scheduler = s.scheduler := by
  have e := applyLookup_differs (lookup a.easting a.northing s) (storeFix ⟨a.easting, a.northing, q, s.now⟩ s)
    (by simpa using h) (by simpa using hc)
  simp [afterFix, e]

/-- A result that agrees with the candidate becomes the current zone. -/
theorem afterFix_agrees (h : resultZone (lookup a.easting a.northing s) ≠ s.locator.zone)
    (hc : (if s.locator.condition = .fresh then s.locator.candidate else none) =
      some (resultZone (lookup a.easting a.northing s))) :
    let t := afterFix a q s
    t.locator.zone = resultZone (lookup a.easting a.northing s) ∧
      t.locator.record = lookup a.easting a.northing s ∧ t.locator.candidate = none ∧
      Pending .zone t ∧ StatusGenerated s t := by
  have e := applyLookup_agrees (lookup a.easting a.northing s) (storeFix ⟨a.easting, a.northing, q, s.now⟩ s)
    (by simpa using h) (by simpa using hc)
  have hstatus := (changeZone_status (lookup a.easting a.northing s)
    (storeFix ⟨a.easting, a.northing, q, s.now⟩ s)).congr (s := s) (by simp) rfl
  simp only [afterFix, e, changeZone_locator, true_and]
  exact ⟨changeZone_events _ _ _ (.inl rfl), hstatus⟩

end

/-! ### POSITION (R47) -/

theorem exec_position (a : PositionArgs) (s : State) (h : Listening s) :
    exec (.position (.fields a)) s = .next (servePosition a s) :=
  congrArg Host.Outcome.next (request_listening (.position (.fields a)) s h)

theorem toQuality_eq_none (n : Nat) : toQuality n = none ↔ 2 < n := by
  unfold toQuality
  split <;> simp_all; omega

theorem servePosition_badArg (a : PositionArgs) (s : State)
    (h : 9999999 < a.easting ∨ 9999999 < a.northing ∨ 2 < a.quality) :
    servePosition a s = answer .posn .badArg [] s := by
  unfold servePosition
  split
  · rfl
  · rename_i hin
    have hq : toQuality a.quality = none := by
      rw [toQuality_eq_none]
      simp [within] at hin
      omega
    rw [hq]

theorem servePosition_none (a : PositionArgs) (s : State) (he : a.easting ≤ 9999999) (hn : a.northing ≤ 9999999)
    (hq : toQuality a.quality = some none) :
    servePosition a s = answer .posn .ok [.flag false, .count 0, .num 250 0, .num 250 s.locator.zone] s := by
  simp [servePosition, within, he, hn, hq, optNum, optField]

theorem servePosition_fix (a : PositionArgs) (s : State) (q : Quality) (he : a.easting ≤ 9999999)
    (hn : a.northing ≤ 9999999) (hq : toQuality a.quality = some (some q)) :
    servePosition a s = answer .posn .ok
      [.flag true, .count 1, .num 250 (resultZone (lookup a.easting a.northing s)),
        .num 250 (afterFix a q s).locator.zone] (afterFix a q s) := by
  simp [servePosition, within, he, hn, hq, optNum, optField, afterFix]

/-- A quality of 2D or 3D by its number. -/
theorem toQuality_fix (n : Nat) (h : n = 1 ∨ n = 2) :
    toQuality n = some (some (if n = 1 then .twoD else .threeD)) := by
  rcases h with rfl | rfl <;> rfl

/-- Settles O36. The parts about served set, tariff area and lookup are facts about those readings; a fix is split by
what its lookup result is to the current zone and the candidate, and what the board hears is `afterFix_told`. -/
theorem twoFixesConfirmAZone : Obligations.TwoFixesConfirmAZone := by
  refine ⟨fun u => ⟨servedSet_ascending u, mem_servedSet u, tariffArea_noZone u, tariffArea_record u⟩, ?_⟩
  intro a s hl
  constructor
  · intro h
    rw [exec_position a s hl, servePosition_badArg a s h]
    rfl
  intro he hn
  refine ⟨?_, ?_, fun hq => ?_, fun hq => ?_⟩
  · intro r hr
    obtain ⟨p, x, ⟨hx, hin, hfirst⟩, rfl⟩ := lookupFrom_some _ _ _ _ _ hr
    rw [Nat.zero_add]
    exact ⟨x, hx, (contains_iff ..).mp hin, rfl, fun j y hj hy hc => hfirst j y hj hy ((contains_iff ..).mpr hc)⟩
  · exact fun hnone p y hy hc => lookupFrom_none _ _ _ _ hnone y (List.mem_of_getElem? hy) ((contains_iff ..).mpr hc)
  · generalize hqual : (if a.quality = 1 then Quality.twoD else .threeD) = q
    obtain ⟨⟨-, hnow, -, -, hnonvol⟩, ⟨hmeter, haccounts, -⟩, hpanel, hinbox, hemerg, hstore⟩ := afterFix_frame a q s
    obtain ⟨hfix, hcond, hpointer⟩ := afterFix_fix a q s
    have htold (content : List Field) : BoardTold s (answer .posn .ok content (afterFix a q s)) :=
      (afterFix_told a q s).congr rfl rfl rfl rfl rfl rfl rfl
    rw [exec_position a s hl, servePosition_fix a s q he hn (hqual ▸ toQuality_fix a.quality hq)]
    refine ⟨_, rfl, hfix, hcond, hpointer, afterFix_zoneEvent a q s, afterFix_same a q s, afterFix_differs a q s,
      ?agrees, (htold _).stands, (htold _).tested, ?owed, hmeter, haccounts, hinbox, hemerg, hstore, hpanel, hnonvol⟩
    case agrees =>
      intro hz hc
      obtain ⟨hzone, hrecord, hcand, hevent, hstatus⟩ := afterFix_agrees a q s hz hc
      exact ⟨hzone, hrecord, hcand, hevent, hstatus.congr rfl rfl⟩
    case owed => simp only [answer, hnow]; rfl
  · rw [exec_position a s hl, servePosition_none a s he hn (by rw [hq]; rfl)]
    rfl

end Sys2Proof.Machine
end

section
/-! PROOFS. The zone table and its requests: the ranges of a rectangle, what a load writes, and the answers. -/

namespace Sys2Proof.Machine

/-! ### Loading (R49, R50) -/

/-- The working zone table and the load pointer at values given. -/
def withTable (x : List (Option Rect) × Nat) (s : State) : State :=
  { s with
    store := { s.store with working := { s.store.working with zones := x.1 } }
    locator := { s.locator with loadPointer := x.2 } }

/-- A rectangle written at the load pointer, which advances and stays at 63. -/
def putRect (x : List (Option Rect) × Nat) (r : Rect) : List (Option Rect) × Nat :=
  (x.1.set x.2 (some r), min 63 (x.2 + 1))

/-- Loading rectangles writes them one after another into table and pointer, and nothing else. -/
theorem foldl_loadRect_withTable (l : List Rect) (x : List (Option Rect) × Nat) (s : State) :
    l.foldl loadRect (withTable x s) = withTable (l.foldl putRect x) s := by
  induction l generalizing x with
  | nil => rfl
  | cons r l ih => exact ih (putRect x r)

theorem foldl_loadRect (l : List Rect) (s : State) :
    l.foldl loadRect s = withTable (l.foldl putRect (s.store.working.zones, s.locator.loadPointer)) s :=
  foldl_loadRect_withTable l (s.store.working.zones, s.locator.loadPointer) s

theorem toArea_eq_none (n : Nat) : toArea n = none ↔ 1 < n := by
  unfold toArea
  split <;> simp_all; omega

/-- A rectangle of a ZONE LOAD lies outside a range of R49. -/
def OutsideRanges (r : RectArgs) : Prop :=
  9999999 < r.west ∨ 9999999 < r.south ∨ 9999999 < r.east ∨ 9999999 < r.north ∨ r.east < r.west ∨
    r.north < r.south ∨ r.zone < 1 ∨ 250 < r.zone ∨ 1 < r.area ∨ 4 < r.adjacent.length ∨
    ∃ z ∈ r.adjacent, z < 1 ∨ 250 < z

theorem toRect_eq_none (r : RectArgs) (h : OutsideRanges r) : toRect r = none := by
  unfold toRect
  split
  · rfl
  · rename_i area harea
    have hin : ¬ 1 < r.area := by simp [← toArea_eq_none, harea]
    refine if_neg fun hsound => ?_
    simp only [isBound, within, Bool.and_eq_true, decide_eq_true_eq, List.all_eq_true] at hsound
    obtain ⟨hbounds, hadjacent⟩ := hsound
    have hzones : ¬ ∃ z ∈ r.adjacent, z < 1 ∨ 250 < z := by
      rintro ⟨z, hz, hout⟩
      have := hadjacent z hz
      omega
    simp only [OutsideRanges, hzones, or_false] at h
    omega

theorem toRects_eq_some (l : List RectArgs) (rects : List Rect) :
    toRects l = some rects ↔ l.map toRect = rects.map some := by
  induction l generalizing rects with
  | nil => cases rects <;> simp [toRects]
  | cons r l ih =>
    cases rects with
    | nil => simp only [toRects]; split <;> simp
    | cons x rects =>
      rw [List.map_cons, List.map_cons, List.cons.injEq, ← ih, toRects]
      cases toRect r <;> cases toRects l <;> simp

theorem toRects_eq_none (l : List RectArgs) (r : RectArgs) (hr : r ∈ l) (h : toRect r = none) :
    toRects l = none := by
  cases hl : toRects l with
  | none => rfl
  | some rects =>
    have hmem : toRect r ∈ rects.map some := (toRects_eq_some l rects).mp hl ▸ List.mem_map_of_mem hr
    simp [h] at hmem

/-- A rectangle within its ranges has an area byte of the listing. -/
theorem areas_of_toRects (l : List RectArgs) (rects : List Rect) (h : toRects l = some rects) :
    ∀ r ∈ l, r.area ≤ 1 := by
  intro r hr
  by_contra harea
  have hout : OutsideRanges r := by unfold OutsideRanges; omega
  simp [toRects_eq_none l r hr (toRect_eq_none r hout)] at h

/-- No area byte lies outside its listing, as ZONE LOAD tests it first. -/
theorem areasListed (l : List RectArgs) (h : ∀ r ∈ l, r.area ≤ 1) :
    ¬ l.any (fun r => (toArea r.area).isNone) = true := by
  simpa [toArea_eq_none] using h

/-! ### The requests and their answers -/

section
variable (s : State) (h : Listening s)
include h

theorem exec_zoneLoad (l : List RectArgs) : exec (.zoneLoad (.fields l)) s = .next (serveZoneLoad l s) :=
  congrArg Host.Outcome.next (request_listening (.zoneLoad (.fields l)) s h)

theorem exec_zonePoint (n : Nat) : exec (.zonePoint (.fields n)) s = .next (serveZonePoint n s) :=
  congrArg Host.Outcome.next (request_listening (.zonePoint (.fields n)) s h)

theorem exec_zoneClear : exec (.zoneClear (.fields ())) s = .next (serveZoneClear s) :=
  congrArg Host.Outcome.next (request_listening (.zoneClear (.fields ())) s h)

theorem exec_zoneRead (a : ZoneReadArgs) : exec (.zoneRead (.fields a)) s = .next (serveZoneRead a s) :=
  congrArg Host.Outcome.next (request_listening (.zoneRead (.fields a)) s h)

end

theorem serveZoneLoad_level (l : List RectArgs) (s : State) (hs : s.store.level = 0) (hl : ∀ r ∈ l, r.area ≤ 1) :
    serveZoneLoad l s = answer .zlod .level [] s := by
  rw [serveZoneLoad, if_neg (areasListed l hl), if_pos (by omega)]

theorem serveZoneLoad_badArg (l : List RectArgs) (s : State) (hs : 1 ≤ s.store.level)
    (hl : l = [] ∨ 4 < l.length ∨ ∃ r ∈ l, OutsideRanges r) : serveZoneLoad l s = answer .zlod .badArg [] s := by
  unfold serveZoneLoad
  split
  · rfl
  rw [if_neg (by omega)]
  split
  · rfl
  rename_i hcount
  simp only [within, Bool.and_eq_true, decide_eq_true_eq, not_not] at hcount
  have hnone : toRects l = none := by
    rcases hl with rfl | hlong | ⟨r, hr, hout⟩
    · simp at hcount
    · omega
    · exact toRects_eq_none l r hr (toRect_eq_none r hout)
  rw [hnone]

theorem serveZoneLoad_ok (l : List RectArgs) (rects : List Rect) (s : State) (hs : 1 ≤ s.store.level)
    (h1 : 1 ≤ l.length) (h4 : l.length ≤ 4) (hl : toRects l = some rects) :
    serveZoneLoad l s =
      let put := rects.foldl putRect (s.store.working.zones, s.locator.loadPointer)
      answer .zlod .ok [.num 63 put.2] (withTable put s) := by
  have hcount : within 1 4 l.length = true := by simp [within, h1, h4]
  rw [serveZoneLoad, if_neg (areasListed l (areas_of_toRects l rects hl)), if_neg (by omega),
    if_neg (by simp [hcount]), hl]
  simp only [foldl_loadRect]
  rfl

theorem serveZonePoint_level (n : Nat) (s : State) (hs : s.store.level = 0) :
    serveZonePoint n s = answer .zpnt .level [] s := by simp [serveZonePoint, hs]

theorem serveZonePoint_badArg (n : Nat) (s : State) (hs : 1 ≤ s.store.level) (hn : 63 < n) :
    serveZonePoint n s = answer .zpnt .badArg [] s := by
  simp [serveZonePoint, within, Nat.ne_of_gt hs, hn]

theorem serveZonePoint_ok (n : Nat) (s : State) (hs : 1 ≤ s.store.level) (hn : n ≤ 63) :
    serveZonePoint n s = answer .zpnt .ok [] (setPointer n s) := by
  simp [serveZonePoint, within, Nat.ne_of_gt hs, hn]

theorem serveZoneClear_level (s : State) (hs : s.store.level = 0) :
    serveZoneClear s = answer .zclr .level [] s := by simp [serveZoneClear, hs]

theorem serveZoneClear_ok (s : State) (hs : 1 ≤ s.store.level) :
    serveZoneClear s = answer .zclr .ok [] (withTable (List.replicate 64 none, 0) s) := by
  simp [serveZoneClear, Nat.ne_of_gt hs]; rfl

/-- A ZONE READ of no position, of more than eight, or of one past the table is refused. -/
theorem serveZoneRead_badArg (a : ZoneReadArgs) (s : State)
    (h : a.count = 0 ∨ 8 < a.count ∨ 64 < a.first + a.count) :
    serveZoneRead a s = answer .zred .badArg [] s := by
  unfold serveZoneRead
  split
  · rfl
  rename_i hin
  simp only [lastPosition, within, Bool.and_eq_true, decide_eq_true_eq, not_not] at hin
  exact if_pos (by simp only [lastPosition]; omega)

/-- Settles O38, request by request: each clause is the answer of the request that serves it. -/
theorem zoneTableIsWrittenAtThePointer : Obligations.ZoneTableIsWrittenAtThePointer := by
  intro s hs
  refine ⟨fun l rects hlevel h1 h4 hl => ?_, fun n hlevel hn => ?_, fun hlevel => ?_,
    fun hlevel => ⟨fun n hn => ?_, fun l hl => ?_⟩, fun a ha => ?_,
    fun hlevel => ⟨fun l hl => ?_, fun n => ?_, ?_⟩⟩
  · rw [exec_zoneLoad s hs, serveZoneLoad_ok l rects s hlevel h1 h4 ((toRects_eq_some l rects).mpr hl)]; rfl
  · rw [exec_zonePoint s hs, serveZonePoint_ok n s hlevel hn]; rfl
  · rw [exec_zoneClear s hs, serveZoneClear_ok s hlevel]; rfl
  · rw [exec_zonePoint s hs, serveZonePoint_badArg n s hlevel hn]; rfl
  · rw [exec_zoneLoad s hs, serveZoneLoad_badArg l s hlevel hl]; rfl
  · rw [exec_zoneRead s hs, serveZoneRead_badArg a s ha]; rfl
  · rw [exec_zoneLoad s hs, serveZoneLoad_level l s hlevel hl]; rfl
  · rw [exec_zonePoint s hs, serveZonePoint_level n s hlevel]; rfl
  · rw [exec_zoneClear s hs, serveZoneClear_level s hlevel]; rfl

end Sys2Proof.Machine
end

section
/-! PROOFS. Job offers and assignments: the arrival of an item for this unit, the board's answers to the base, and
LOST. -/

namespace Sys2Proof.Machine

/-! ### Items for this unit (R4 to R6, R17) -/

/-- An item block that is heard and passes its check is received. -/
theorem itemReceived_of_heard (head : ItemHead) (s : State) (h : ItemsHeard s) (hc : head.checkOk = true) :
    itemReceived head s = true := by
  obtain ⟨-, hsync, hopen, hcycle, hwatch, hcount⟩ := h
  have hlistened : s.receiver.watch = .full ∨ s.receiver.cycleListened = true := hwatch.imp_right And.right
  simp [itemReceived, decoding, Config.cycleMs, *]

/-- An item that names this unit passes as a UNIT item where its kind allows UNIT targets. -/
theorem passes_unit (head : ItemHead) (allowed : Target → Bool) (offer : Bool) (s : State)
    (henc : head.encodingOk = true) (hname : NamesThisUnit head s) (hallow : allowed .unit = true) :
    passes head true allowed offer s = some .unit := by
  obtain ⟨htarget, hvalue, haddress⟩ := hname
  simp [passes, htarget, toTarget, targetPasses, henc, hallow, hvalue, haddress]

section
variable (head : ItemHead) (allowed : Target → Bool) (offer : Bool) (hand : Target → State → State) (s : State)

/-- An item for this unit goes to its owner, and the watch then returns to FULL. -/
theorem takeItem_unit (hheard : ItemsHeard s) (hc : head.checkOk = true) (henc : head.encodingOk = true)
    (hname : NamesThisUnit head s) (hallow : allowed .unit = true) :
    takeItem head true allowed offer hand s = returnHeld (hand .unit (countItem s)) := by
  simp [takeItem, hheard.1, itemReceived_of_heard head s hheard hc, passes_unit head allowed offer s henc hname hallow]

/-- An item that its owner ignores acts as any other that its owner ignores. -/
theorem takeItem_ignored (fieldsOk : Bool) (h : ∀ g, hand g (countItem s) = countItem s) :
    takeItem head fieldsOk allowed offer hand s = takeItem head fieldsOk allowed offer (fun _ t => t) s := by
  simp only [takeItem, h]

end

/-- The return to FULL watch that a UNIT item makes, as the statements write it. -/
theorem returnHeld_eq_backToFull (s : State) (h : s.receiver.watch = .sparse) :
    returnHeld s = backToFull s (returnHeld s) := by
  simp only [returnHeld, returnToFull, h, raise, reaim]
  split <;> rfl

/-! ### The board's entries -/

/-- The entry found has the number looked for. -/
theorem number_of_findOffer (n : Nat) (s : State) (o : Offer) (h : findOffer n s = some o) : o.number = n := by
  simpa using List.find?_some h

/-- The lookup of an entry reads the board alone. -/
theorem findOffer_congr {s t : State} (n : Nat) (h : t.board = s.board) : findOffer n t = findOffer n s := by
  simp [findOffer, h]

/-- The removal of an entry's CLAIM changes the queue and the slot request alone: a CLAIMING entry's CLAIM leaves. -/
theorem dropClaim_eq (o : Offer) (s : State) :
    dropClaim o s = { s with scheduler := { s.scheduler with
      queue :=
        if o.state = .claiming then
          s.scheduler.queue.filter (fun e => !(e.kind == .claim && e.key == o.number))
        else s.scheduler.queue
      slotReq := (dropClaim o s).scheduler.slotReq } } := by
  unfold dropClaim
  split <;> rfl

/-- An entry other than the assignment closes with nothing further. -/
theorem closeOffer_of_ne_awarded (n : Nat) (outcome : OfferOutcome) (s : State) (o : Offer)
    (h : findOffer n s = some o) (ho : o.state ≠ .awarded) : closeOffer n outcome s = closeOnly n outcome s := by
  simp [closeOffer, h, ho]

/-! ### LOST (R83) -/

theorem exec_lost (head : ItemHead) (n : Nat) (s : State) (h1 : 1 ≤ n) (h2 : n ≤ 65535) :
    exec (.lost head n) s = .next (takeItem head true unitOnly false (fun _ => receiveLost n) s) := by
  have hin : within 1 65535 n = true := by simp [within, h1, h2]
  rw [← hin]; rfl

/-- A LOST closes an entry whose claim is open and not yet awarded. -/
theorem receiveLost_open (n : Nat) (s : State) (o : Offer) (h : findOffer n s = some o)
    (ho : o.state = .claiming ∨ o.state = .awaitingAward) :
    receiveLost n s = closeOnly n .lost (dropClaim o s) := by
  have hboard : (dropClaim o s).board = s.board := by rw [dropClaim_eq]
  have hfind : findOffer n (dropClaim o s) = some o := (findOffer_congr n hboard).trans h
  have hclose := closeOffer_of_ne_awarded n .lost _ o hfind (by rcases ho with ho | ho <;> simp [ho])
  rcases ho with ho | ho <;> simp [receiveLost, h, ho, hclose]

theorem receiveLost_ignored (n : Nat) (s : State)
    (h : ∀ o, findOffer n s = some o → o.state ≠ .claiming ∧ o.state ≠ .awaitingAward) : receiveLost n s = s := by
  unfold receiveLost
  split
  · rfl
  · rename_i o hfind
    obtain ⟨hclaiming, hawaiting⟩ := h o hfind
    split <;> simp_all

/-- Settles O19. A LOST for this unit reaches the board, where `receiveLost_open` says what it closes; one that the
board ignores does what a PAGE does. -/
theorem lostClosesTheClaim : Obligations.LostClosesTheClaim := by
  intro head n s h1 h2 closed
  rw [exec_lost head n s h1 h2]
  refine ⟨fun o hfind ho => ?_, fun hother => ?_⟩
  · have htake (hheard hc henc hname) :=
      takeItem_unit head unitOnly false (fun _ => receiveLost n) s hheard hc henc hname rfl
    have hclosed (t : State) (ht : t.scheduler = (receiveLost n (countItem s)).scheduler) :
        receiveLost n (countItem s) = closed o t := by
      simp only [closed, ht]
      rw [receiveLost_open n (countItem s) o hfind ho, dropClaim_eq]
      rfl
    have hreceiver : (receiveLost n (countItem s)).receiver = (countItem s).receiver :=
      (congrArg State.receiver (hclosed _ rfl)).trans rfl
    constructor
    · rintro ⟨hheard, hc, henc, hname, hwatch⟩
      rw [htake hheard hc henc hname, returnHeld_full _ (hreceiver ▸ hwatch)]
      exact ⟨_, rfl, hclosed _ rfl⟩
    · rintro ⟨hheard, hc, henc, hname, hwatch⟩
      rw [htake hheard hc henc hname]
      obtain ⟨-, -, -, -, hscheduler⟩ := returnHeld_frame (receiveLost n (countItem s))
      refine ⟨_, rfl, ?_⟩
      rw [← hclosed _ hscheduler]
      exact returnHeld_eq_backToFull _ (hreceiver ▸ hwatch)
  · rw [takeItem_ignored head unitOnly false _ s true fun _ => receiveLost_ignored n (countItem s) hother]
    rfl

end Sys2Proof.Machine
end

section
/-! PROOFS. The settings store: what COMMIT and REVERT are refused for, what a change of the working settings does to
the alert latch, and the answers of COMMIT, REVERT and ALERT CLEAR. -/

namespace Sys2Proof.Machine

theorem emState_open_eq_true (e : EmState) : e.open = true ↔ e = .active ∨ e = .acknowledged := by
  cases e <;> decide

theorem uncommitted_iff (s : State) :
    uncommitted s = true ↔ s.store.working.metrology ≠ s.store.stored.metrology := decide_eq_true_iff

/-! ### The alert latch (R169) -/

/-- The alert latch after the working alert mode has changed from `old` to `new`, as R169 gives it. -/
def latchAfter (old new : AlertMode) (e : Emergency) : Bool :=
  if new = old then e.latch
  else if old = .latched then false
  else if new = .latched ∧ (e.state = .active ∨ e.state = .acknowledged) then true
  else e.latch

theorem followAlertMode_eq (old : AlertMode) (s : State) :
    followAlertMode old s = { s with emergency := { s.emergency with
      latch := latchAfter old s.store.working.alertMode s.emergency } } := by
  simp only [followAlertMode, latchAfter, emState_open_eq_true]
  by_cases hsame : s.store.working.alertMode = old
  · simp only [if_pos hsame]
  by_cases hleft : old = .latched
  · simp only [if_neg hsame, if_pos hleft]
  simp only [if_neg hsame, if_neg hleft]
  split <;> rfl

/-- Working settings are installed with the latch following their alert mode, and nothing else changes. -/
theorem installWorking_eq (w : Settings) (s : State) :
    installWorking w s = { s with
      store := { s.store with working := w }
      emergency := { s.emergency with
        latch := latchAfter s.store.working.alertMode w.alertMode s.emergency } } :=
  followAlertMode_eq _ _

/-! ### The causes that COMMIT and REVERT share (R184, R185) -/

section
variable (s : State)

theorem commitCause_level
    (h : s.store.level = 0 ∨ s.store.working.metrology ≠ s.store.stored.metrology ∧ s.store.level < 2) :
    commitCause s = some .level := by
  rcases h with hzero | ⟨hdiffers, hlow⟩
  · rw [commitCause, if_pos (by omega)]
  · have hmetrology : uncommitted s = true ∧ s.store.level < 2 := ⟨(uncommitted_iff s).mpr hdiffers, hlow⟩
    rw [commitCause, if_pos hmetrology, ite_self]

/-- A level that suffices leaves BUSY as the one cause. -/
theorem commitCause_of_level (h1 : 1 ≤ s.store.level)
    (h2 : s.store.working.metrology ≠ s.store.stored.metrology → 2 ≤ s.store.level) :
    commitCause s = if s.store.commit ≠ .none then some .busy else none := by
  have hlevel : ¬ (uncommitted s = true ∧ s.store.level < 2) := fun ⟨hu, hlow⟩ =>
    absurd (h2 ((uncommitted_iff s).mp hu)) (by omega)
  rw [commitCause, if_neg (by omega), if_neg hlevel]

theorem serveCommit_cause (r : Result) (h : commitCause s = some r) : serveCommit s = answer .cmit r [] s := by
  simp only [serveCommit, h]

theorem serveRevert_cause (r : Result) (h : commitCause s = some r) : serveRevert s = answer .rvrt r [] s := by
  simp only [serveRevert, h]

theorem serveCommit_taken (h : commitCause s = none) :
    serveCommit s = answer .cmit .ok [.name 1, .flag (uncommitted s)] (beginCommit s) := by
  simp only [serveCommit, h]; rfl

/-- A REVERT of metrology settings during a trip is refused. -/
theorem serveRevert_onTrip (h : commitCause s = none)
    (hdiffers : s.store.working.metrology ≠ s.store.stored.metrology) (htrip : s.meter.state.onTrip = true) :
    serveRevert s = answer .rvrt .refused [] s := by
  simp only [serveRevert, h]
  rw [if_pos ⟨(uncommitted_iff s).mpr hdiffers, htrip⟩]

/-- A REVERT that is taken leaves no commit under way and no metrology uncommitted. -/
theorem serveRevert_taken (h : commitCause s = none) (hcommit : s.store.commit = .none)
    (hfree : ¬ s.store.working.metrology ≠ s.store.stored.metrology ∨ s.meter.state.onTrip = false) :
    serveRevert s = answer .rvrt .ok [.name 0, .flag false] (installWorking s.store.stored s) := by
  have hnot : ¬ (uncommitted s = true ∧ s.meter.state.onTrip = true) := by
    rw [uncommitted_iff]
    rintro ⟨hdiffers, htrip⟩
    exact hfree.elim (· hdiffers) fun hoff => by simp [hoff] at htrip
  have hcontent : commitContent (installWorking s.store.stored s) = [.name 0, .flag false] := by
    simp [commitContent, installWorking_eq, uncommitted, hcommit, CommitState.code]
  simp only [serveRevert, h, if_neg hnot, hcontent]

/-! ### ALERT CLEAR (R170) -/

theorem serveAlertClear_level (h : s.store.level = 0) : serveAlertClear s = answer .aclr .level [] s := by
  rw [serveAlertClear, if_pos (by omega)]

theorem serveAlertClear_refused (h : 1 ≤ s.store.level)
    (hopen : s.emergency.state = .active ∨ s.emergency.state = .acknowledged) :
    serveAlertClear s = answer .aclr .refused [] s := by
  rw [serveAlertClear, if_neg (by omega), if_pos ((emState_open_eq_true _).mpr hopen)]

theorem serveAlertClear_ok (h : 1 ≤ s.store.level)
    (hidle : s.emergency.state = .idle ∨ s.emergency.state = .covert) :
    serveAlertClear s = answer .aclr .ok [] { s with emergency := { s.emergency with latch := false } } := by
  have hclosed := (emState_open_eq_false s.emergency.state).mpr hidle
  rw [serveAlertClear, if_neg (by omega), if_neg (by simp [hclosed])]

/-! ### The requests and their answers -/

variable (h : Listening s)
include h

theorem exec_commit : exec (.commit (.fields ())) s = .next (serveCommit s) :=
  congrArg Host.Outcome.next (request_listening (.commit (.fields ())) s h)

theorem exec_revert : exec (.revert (.fields ())) s = .next (serveRevert s) :=
  congrArg Host.Outcome.next (request_listening (.revert (.fields ())) s h)

/-- A shared cause is the answer to both requests. -/
theorem exec_commit_revert_cause (r : Result) (hcause : commitCause s = some r) :
    exec (.commit (.fields ())) s = .next (answer .cmit r [] s) ∧
      exec (.revert (.fields ())) s = .next (answer .rvrt r [] s) := by
  rw [exec_commit s h, exec_revert s h, serveCommit_cause s r hcause, serveRevert_cause s r hcause]
  exact ⟨rfl, rfl⟩

theorem exec_alertClear : exec (.alertClear (.fields ())) s = .next (serveAlertClear s) :=
  congrArg Host.Outcome.next (request_listening (.alertClear (.fields ())) s h)

end

/-- Settles O52. COMMIT and REVERT are split by the cause they share, a REVERT that passes it by the trip; each clause
is then the answer of the request that serves it. -/
theorem commitRevertAndAlertClear : Obligations.CommitRevertAndAlertClear := by
  intro s hs differs
  refine ⟨fun hlow => ?_, fun h1 h2 => ⟨fun hbusy => ?_, fun hnone => ?taken⟩, fun h0 => ?_,
    fun h1 hopen => ?_, fun h1 hidle => ?_⟩
  · exact exec_commit_revert_cause s hs .level (commitCause_level s hlow)
  · exact exec_commit_revert_cause s hs .busy ((commitCause_of_level s h1 h2).trans (if_pos hbusy))
  case taken =>
    have hcause : commitCause s = none := (commitCause_of_level s h1 h2).trans (if_neg (not_not.mpr hnone))
    rw [exec_commit s hs, exec_revert s hs]
    refine ⟨?_, fun hdiffers htrip => ?_, fun hfree => ?_⟩
    · rw [serveCommit_taken s hcause]; rfl
    · rw [serveRevert_onTrip s hcause hdiffers htrip]; rfl
    · rw [serveRevert_taken s hcause hnone hfree, installWorking_eq]; rfl
  all_goals rw [exec_alertClear s hs]
  · rw [serveAlertClear_level s h0]; rfl
  · rw [serveAlertClear_refused s h1 hopen]; rfl
  · rw [serveAlertClear_ok s h1 hidle]; rfl

end Sys2Proof.Machine
end

section
/-! PROOFS. The host link: FETCH EVENT takes the head of the pending-event set, and the requests that read the blocks
leave the set as it is. -/

namespace Sys2Proof.Machine

/-! ### The pending-event set and ATTN (R199) -/

theorem attn_iff (s : State) : attn s = true ↔ s.link.events ≠ [] := by simp [attn]

/-- In a set in order of urgency the head is the most urgent kind. -/
theorem EventsOrdered.head_most_urgent {s : State} {k : EventKind} {rest : List EventKind} (h : EventsOrdered s)
    (hset : s.link.events = k :: rest) : ∀ j ∈ rest, k.urgency < j.urgency := by
  rw [EventsOrdered, hset] at h
  exact (List.pairwise_cons.mp h).1

/-- Owing a reply changes nothing in the set. -/
@[simp] theorem answer_events (tag : Tag) (result : Result) (content : List Field) (s : State) :
    (answer tag result content s).link.events = s.link.events := rfl

/-! ### FETCH EVENT (R200) -/

theorem serveFetchEvent_empty (s : State) (h : s.link.events = []) :
    serveFetchEvent s = answer .fevt .ok [.name 0, .count 0] s := by
  simp only [serveFetchEvent, h]

theorem serveFetchEvent_head (s : State) (k : EventKind) (rest : List EventKind) (h : s.link.events = k :: rest) :
    serveFetchEvent s = answer .fevt .ok (eventField k :: .count rest.length :: rest.map eventField)
      { s with link := { s.link with events := rest } } := by
  simp only [serveFetchEvent, h]

theorem exec_fetchEvent (s : State) (h : Listening s) :
    exec (.fetchEvent (.fields ())) s = .next (serveFetchEvent s) :=
  congrArg Host.Outcome.next (request_listening (.fetchEvent (.fields ())) s h)

/-! ### The readings -/

theorem serveZoneRead_events (a : ZoneReadArgs) (s : State) :
    (serveZoneRead a s).link.events = s.link.events := by
  unfold serveZoneRead
  split
  · rfl
  · split <;> rfl

/-- Restarting the calibration count touches the panel alone. -/
theorem servePanelStatus_events (restart : Nat) (s : State) :
    (servePanelStatus restart s).link.events = s.link.events := by
  unfold servePanelStatus
  split <;> rfl

theorem serveTripRead_events (q : TripSelector) (s : State) :
    (serveTripRead q s).link.events = s.link.events := by
  unfold serveTripRead
  split
  · rfl
  · split <;> rfl

/-- Clearing the refusal mark touches the inbox alone. -/
theorem serveInboxRead_events (n : Nat) (s : State) :
    (serveInboxRead n s).link.events = s.link.events := by
  unfold serveInboxRead
  split
  · rfl
  split
  · rfl
  · split <;> rfl

theorem serveSettingRead_events (q : SettingSelector) (s : State) :
    (serveSettingRead q s).link.events = s.link.events := by
  unfold serveSettingRead
  split <;> rfl

/-- A request that meets a listening part leaves the pending-event set if the block that serves it does. -/
theorem exec_events_of_served {c : Instr} {s t : State} (h : Listening s) (hexec : exec c s = .next (request c s))
    (hserve : (serveRequest c s).link.events = s.link.events) (ht : exec c s = .next t) :
    t.link.events = s.link.events := by
  rw [hexec, request_listening c s h] at ht
  obtain rfl := Host.Outcome.next.inj ht
  exact hserve

/-- Settles O54. A fetch is split by whether the set is empty, a reading by the request it is: BOARD READ, UPLINK
STATUS and IDENTIFY change their own blocks, and no reading's service touches the set. -/
theorem fetchEventRemovesTheMostUrgent : Obligations.FetchEventRemovesTheMostUrgent := by
  intro s hs
  refine ⟨fun hempty => ?_, fun k rest hset hordered => ⟨hordered.head_most_urgent hset, ?_, attn_iff _⟩,
    fun n a r q t => ?readings⟩
  · rw [exec_fetchEvent s hs, serveFetchEvent_empty s hempty]; rfl
  · rw [exec_fetchEvent s hs, serveFetchEvent_head s k rest hset]; rfl
  case readings =>
    have kept {c : Instr} := exec_events_of_served (c := c) (t := t) hs
    simp only [List.forall_mem_cons]
    exact ⟨
      kept (c := .linkStatus _) rfl (answer_events ..),
      kept (c := .uplinkStatus _) rfl (answer_events ..),
      kept (c := .zoneStatus _) rfl (answer_events ..),
      kept (c := .zoneRead _) rfl (serveZoneRead_events a s),
      kept (c := .panelStatus _) rfl (servePanelStatus_events n s),
      kept (c := .boardRead _) rfl (answer_events ..),
      kept (c := .meterStatus _) rfl (answer_events ..),
      kept (c := .tripRead _) rfl (serveTripRead_events r s),
      kept (c := .totalsRead _) rfl (answer_events ..),
      kept (c := .inboxRead _) rfl (serveInboxRead_events n s),
      kept (c := .emergencyStatus _) rfl (answer_events ..),
      kept (c := .settingRead _) rfl (serveSettingRead_events q s),
      kept (c := .identify _) rfl (answer_events ..),
      List.forall_mem_nil _⟩

end Sys2Proof.Machine
end

section
/-! PROOFS. What a step can do, said once: the elementary changes of the part, each with the condition under which the
meanings make it, so that an invariant is proved of every step by a look at each change. -/

namespace Sys2Proof.Machine

/-! ### The elementary changes -/

/-- What sync tracking reads of the receiver. -/
def Receiver.tracking (r : Receiver) :=
  (r.sync, r.expected, r.windowOpen, r.slotMap, r.misses, r.stretches, r.lastStretch, r.persistence, r.statusInterval)

/-- What the watch and the voice handshake read of the receiver. -/
def Receiver.air (r : Receiver) := (r.watch, r.voice, r.voiceReq, r.transmission)

/-- The log with a record as its newest: at an empty position, or at the oldest record's, which leaves. -/
def appendedLog (r : TripRecord) (log : List LogEntry) : List LogEntry :=
  if log.length < Config.logSize then log ++ [⟨freePosition log, r, none⟩]
  else
    match log with
    | [] => [⟨0, r, none⟩]
    | e :: rest => rest ++ [⟨e.position, r, none⟩]

/-- An elementary change of the part that leaves what sync tracking holds but for the window and the watch, and by
which no emergency begins in SPARSE watch. -/
inductive Quiet : State → State → Prop
  -- uptime, free values, power, the link
  | clock (t : Nat) (s : State) : Quiet s (advanceTo t s)
  | index {s t : State} (only : t = { s with freeIndex := t.freeIndex }) : Quiet s t
  | loss (s : State) : Quiet s (losePower s)
  | raise (k : EventKind) (s : State) : Quiet s (raise k s)
  | link {s t : State} (only : t = { s with link := t.link }) (h : t.link.events.Sublist s.link.events) : Quiet s t
  -- locator, panel, settings store
  | locator {s t : State} (only : t = { s with locator := t.locator }) : Quiet s t
  | panel {s t : State} (only : t = { s with panel := t.panel }) : Quiet s t
  | settings {s t : State} (only : t = { s with store := { s.store with working := t.store.working } })
      (ok : MetrologyOk s.store.working → MetrologyOk s.store.stored → MetrologyOk t.store.working)
      (free : t.store.working.metrology = s.store.working.metrology ∨ s.meter.state.onTrip = false) : Quiet s t
  | commit {s t : State} (only : t = { s with store := { s.store with commit := t.store.commit } }) : Quiet s t
  | levelDropped (s : State) : Quiet s (dropLevel s)
  | codeFailed (s : State) (h : s.store.lockoutEnd = none) : Quiet s (countFailure s)
  | codeTaken (n : Nat) (s : State) (h : s.store.lockoutEnd = none) (hn : n ≤ 2) :
      Quiet s { s with store := { s.store with level := n, failures := 0 } }
  | lockoutEnded (s : State) : Quiet s { s with store := { s.store with failures := 0, lockoutEnd := none } }
  -- the store writer
  | dirty {s t : State} (only : t = { s with writer := t.writer }) (h : t.writer.writing = s.writer.writing) :
      Quiet s t
  | writeStarted (s : State) : Quiet s (startWrite s)
  | writeCompleted (s : State) : Quiet s (completeWrite s)
  -- the meter
  | meter {s t : State} (only : t = { s with meter := t.meter }) (state : t.meter.state = s.meter.state)
      (trip : t.meter.trip = s.meter.trip) : Quiet s t
  | trip (f : Trip → Trip) (s : State)
      (h : ∀ t, (f t).fare = t.fare ∧ (f t).acc = t.acc ∧ (f t).tariff = t.tariff) : Quiet s (updateTrip f s)
  | tripSecond (p : Nat) (s : State) (h : s.meter.state = .hired) : Quiet s (updateTrip (tripSecond p s) s)
  | switched (b : Nat) (s : State) : Quiet s (updateTrip (switchTo b s) s)
  | meterState (st : MeterState) (i : Nat) (s : State)
      (h : st.onTrip = true → s.meter.state.onTrip = true) :
      Quiet s { s with meter := { s.meter with state := st, secondSince := i } }
  | tripOpened (i : Nat) (s : State) (h : pulseConstant s ≠ 0) :
      Quiet s (openTrip { s with meter := { s.meter with state := .hired, secondSince := i } })
  | tripEnded (s : State) : Quiet s { s with meter := { s.meter with trip := none, resumeOpen := false } }
  -- the accounts
  | accounts {s t : State} (only : t = { s with accounts := t.accounts }) (log : t.accounts.log = s.accounts.log)
      (next : t.accounts.nextSeq = s.accounts.nextSeq) : Quiet s t
  | records (seq : Nat) (f : LogEntry → LogEntry) (s : State)
      (h : ∀ e, (f e).position = e.position ∧ (f e).record.seq = e.record.seq) : Quiet s (updateRecord seq f s)
  | appended (r : TripRecord) (s : State) (h : r.seq = s.accounts.nextSeq ∨ s.accounts.log = []) :
      Quiet s { s with accounts := { s.accounts with
        log := appendedLog r s.accounts.log, nextSeq := nextNumber Config.max16 r.seq } }
  -- the offer board
  | board {s t : State} (only : t = { s with board := t.board }) (entries : t.board.entries = s.board.entries)
      (order : t.board.closeOrder = s.board.closeOrder) : Quiet s t
  | closed (n : Nat) (outcome : OfferOutcome) (s : State) (h : n ∈ s.board.entries.map (·.number)) :
      Quiet s (closeOnly n outcome s)
  | offer (n : Nat) (f : Offer → Offer) (s : State) (number : ∀ x, (f x).number = x.number)
      (claim : (s.board.entries.map (·.number)).Nodup →
        ∀ o ∈ s.board.entries, o.number = n → (f o).state.claimOpen = true → o.state.claimOpen = true) :
      Quiet s (updateOffer n f s)
  | claimed (n : Nat) (f : Offer → Offer) (s : State) (number : ∀ x, (f x).number = x.number)
      (h : claimOpen s = false) : Quiet s (updateOffer n f s)
  | presented (new : Offer) (s : State) (size : s.board.entries.length < Config.boardSize)
      (fresh : findOffer new.number s = none) (claim : new.state.claimOpen = false) :
      Quiet s { s with board := { s.board with entries := s.board.entries ++ [new] } }
  | replaced (n : Nat) (new : Offer) (s : State)
      (place : n ∈ s.board.closeOrder ∨ n ∈ s.board.entries.map (·.number))
      (fresh : findOffer new.number s = none) (claim : new.state.claimOpen = false) :
      Quiet s { s with board := { (removeOffer n s).board with
        entries := (removeOffer n s).board.entries ++ [new] } }
  | boardRead (s : State) : Quiet s { s with board := { s.board with
      entries := s.board.entries.filter (fun o => !(o.state == .closed)), closeOrder := [], overflow := 0 } }
  | boardReset (s : State) : Quiet s { s with board := resetBoard }
  -- the emergency
  | emergency {s t : State} (only : t = { s with emergency := t.emergency })
      (h : t.emergency.state = .idle ∨ s.emergency.state ≠ .idle ∨ s.receiver.watch = .full) : Quiet s t
  -- the uplink queue
  | fewer {s t : State} (only : t = { s with scheduler := t.scheduler })
      (h : t.scheduler.queue.Sublist s.scheduler.queue) : Quiet s t
  | entries (f : Entry → Entry) (s : State)
      (h : ∀ e, (f e).kind = e.kind ∧ (f e).key = e.key ∧ (f e).placed = e.placed) :
      Quiet s { s with scheduler := { s.scheduler with queue := s.scheduler.queue.map f } }
  | placed (kind : EntryKind) (key : Nat) (content : EntryContent) (deadline : Option Nat) (s : State)
      (h : kind ≠ .receipt) : Quiet s (placeEntry kind key content deadline s)
  | receipt (m : Message) (s : State) (h : m.number ∈ s.inbox.messages.map (·.number)) :
      Quiet s (placeReceipt m s)
  -- the inbox
  | inbox {s t : State} (only : t = { s with inbox := t.inbox }) (h : t.inbox.messages = s.inbox.messages) : Quiet s t
  | message (n : Nat) (f : Message → Message) (s : State) (number : ∀ m, (f m).number = m.number)
      (h : (∀ m, m.receipt = .queued → (f m).receipt = .queued) ∨
        (∃ m ∈ s.inbox.messages, m.number = n ∧ m.receipt ≠ .queued) ∨
        ∀ e ∈ s.scheduler.queue, e.kind = .receipt → e.key ≠ n) : Quiet s (updateMessage n f s)
  | stored (m : Message) (s : State) (size : s.inbox.messages.length < Config.inboxSize)
      (fresh : findMessage m.number s = none) :
      Quiet s { s with inbox := { s.inbox with messages := s.inbox.messages ++ [m] } }
  | storedOver (n : Nat) (m : Message) (s : State) (old : ∃ o ∈ s.inbox.messages, o.number = n ∧ o.receipt ≠ .queued)
      (fresh : findMessage m.number s = none) :
      Quiet s { s with inbox := { s.inbox with messages := (removeMessage n s).inbox.messages ++ [m] } }
  | deleted (n : Nat) (s : State) (old : ∃ o ∈ s.inbox.messages, o.number = n ∧ o.receipt ≠ .queued) :
      Quiet s (removeMessage n s)
  | inboxReset (s : State) (h : s.scheduler.queue = []) : Quiet s { s with inbox := resetInbox }
  -- the receiver
  | receiver {s t : State} (only : t = { s with receiver := t.receiver })
      (tracking : t.receiver.tracking = s.receiver.tracking) (air : t.receiver.air = s.receiver.air) : Quiet s t
  | toFull (s : State) : Quiet s (returnToFull s)
  | toSparse (s : State) (h : maySparse s = true) : Quiet s (enterSparse s)
  | transmitted (item : UplinkItem) (s : State) (h : s.receiver.voice ≠ .granted) : Quiet s (transmit item s)
  | transmissionEnded (s : State) : Quiet s (endTransmission s)
  | voice (v : Voice) (s : State) (granted : v = .granted → s.receiver.transmission = none)
      (idle : v = .idle ↔ s.receiver.voice = .idle) : Quiet s (setVoice v s)
  | voiceBlocked (s : State) : Quiet s (blockVoice s)
  | voiceAsserted (s : State) (h : s.receiver.voiceReq = false) :
      Quiet s (whenPowered requestVoice (setVoiceReq true s))
  | voiceReleased (s : State) : Quiet s (whenPowered (setVoice .idle) (setVoiceReq false s))
  | windowOpened (s : State) (h : s.receiver.expected ≠ none) :
      Quiet s { s with receiver := { s.receiver with windowOpen := true, stretches := 0 } }
  | windowStretched (s : State) (h : s.receiver.stretches < Config.maxStretches) :
      Quiet s { s with receiver := { s.receiver with stretches := s.receiver.stretches + 1 } }

/-- One state is reached from another by elementary changes. -/
abbrev Quiets (s t : State) : Prop := Relation.ReflTransGen Quiet s t

/-- A property that every elementary change keeps. -/
abbrev QuietKept (P : State → Prop) : Prop := ∀ s t, Quiet s t → P s → P t

theorem QuietKept.quiets {P : State → Prop} (k : QuietKept P) {s t : State} (h : Quiets s t) (hs : P s) : P t := by
  induction h with
  | refl => exact hs
  | tail _ hq ih => exact k _ _ hq ih

theorem Quiets.ite {s t u : State} {c : Prop} [Decidable c] (ht : Quiets s t) (hu : Quiets s u) :
    Quiets s (if c then t else u) := by
  split
  · exact ht
  · exact hu

/-- A fold is made of elementary changes if each of its turns is. -/
theorem Quiets.foldl {α : Type} {g : State → α → State} (h : ∀ s a, Quiets s (g s a)) (l : List α) (s : State) :
    Quiets s (l.foldl g s) :=
  foldl_keeps (Quiets s) g (fun t a ht => ht.trans (h t a)) l s .refl

theorem whenPowered_quiets (f : State → State) (s : State) (h : Quiets s (f s)) : Quiets s (whenPowered f s) := by
  unfold whenPowered; split
  · exact h
  · exact .refl

end Sys2Proof.Machine
end

section
/-! PROOFS. The operations of the blocks as elementary changes: the queue, the offer board, the accounts, the meter,
the emergency and the inbox. -/

namespace Sys2Proof.Machine

/-! ### The uplink queue and the voice handshake -/

theorem dropEntry_quiets (kind : EntryKind) (key : Nat) (s : State) : Quiets s (dropEntry kind key s) :=
  .single (.fewer rfl List.filter_sublist)

theorem updateEntry_quiets (kind : EntryKind) (key : Nat) (f : Entry → Entry) (s : State)
    (h : ∀ e, (f e).kind = e.kind ∧ (f e).key = e.key ∧ (f e).placed = e.placed) :
    Quiets s (updateEntry kind key f s) :=
  .single (.entries (fun e => if e.is kind key then f e else e) s fun e => by
    split
    · exact h e
    · exact ⟨rfl, rfl, rfl⟩)

/-- A change of the scheduler that leaves the queue. -/
theorem scheduler_quiets {s t : State} (only : t = { s with scheduler := t.scheduler })
    (h : t.scheduler.queue = s.scheduler.queue) : Quiets s t := .single (.fewer only (h ▸ .refl _))

theorem generateStatus_quiets (s : State) : Quiets s (generateStatus s) := by
  unfold generateStatus
  split
  · exact .single (.placed .status 0 .none none s (by decide))
  · split
    · exact scheduler_quiets rfl rfl
    all_goals exact .refl

theorem setVoice_quiets (v : Voice) (s : State) (granted : v = .granted → s.receiver.transmission = none)
    (idle : v = .idle ↔ s.receiver.voice = .idle) : Quiets s (setVoice v s) := .single (.voice v s granted idle)

theorem grantVoice_quiets (s : State) (h : s.receiver.voice ≠ .idle) : Quiets s (grantVoice s) := by
  refine setVoice_quiets _ s ?_ ?_
  · split
    · simp
    · rename_i hnone; simpa using hnone
  · split <;> simp [h]

theorem voiceAtActive_quiets (s : State) : Quiets s (voiceAtActive s) := by
  unfold voiceAtActive
  split
  case h_1 hv => exact setVoice_quiets _ s (by simp) (by simp [hv])
  case h_2 hv => exact setVoice_quiets _ s (by simp) (by simp [hv])
  all_goals exact .refl

theorem voiceAfterActive_quiets (s : State) : Quiets s (voiceAfterActive s) := by
  unfold voiceAfterActive
  split
  · rename_i hv; exact grantVoice_quiets s (by simp [hv])
  all_goals exact .refl

theorem addResult_quiets (ticket : Nat) (kind : EntryKind) (delivered : Bool) (s : State) :
    Quiets s (addResult ticket kind delivered s) :=
  .tail (scheduler_quiets (t := { s with scheduler := (addResult ticket kind delivered s).scheduler }) rfl rfl) (.raise _ _)

/-! ### Dirty marks -/

theorem setMark_quiets (k : MarkKind) (s : State) : Quiets s (setMark k s) :=
  .head (.emergency (t := { s with emergency := { s.emergency with mark := k } }) rfl (by dsimp only; tauto))
    (.single (.dirty rfl rfl))

theorem markCheckpoint_quiets (s : State) : Quiets s (markCheckpoint s) := .single (.dirty rfl rfl)

theorem updateTotals_quiets (f : Totals → Totals) (s : State) : Quiets s (updateTotals f s) :=
  .single (.accounts rfl rfl rfl)

theorem markTotals_quiets (s : State) : Quiets s (markTotals s) := by
  unfold markTotals; split
  · exact .refl
  · exact .single (.dirty rfl rfl)

theorem answer_quiets (tag : Tag) (result : Result) (content : List Field) (s : State) :
    Quiets s (answer tag result content s) := .single (.link rfl (.refl _))

/-- An answer to a request is made of elementary changes if what it answers is. -/
theorem Quiets.answered {s t : State} (h : Quiets s t) (tag : Tag) (result : Result) (content : List Field) :
    Quiets s (answer tag result content t) := h.trans (answer_quiets ..)

/-! ### The offer board -/

theorem mem_numbers_of_findOffer {n : Nat} {s : State} {o : Offer} (h : findOffer n s = some o) :
    n ∈ s.board.entries.map (·.number) :=
  List.mem_map.mpr ⟨o, List.mem_of_find?_eq_some h, number_of_findOffer n s o h⟩

/-- Closings keep the numbers of the board. -/
theorem closeOnly_numbers (n : Nat) (outcome : OfferOutcome) (s : State) :
    (closeOnly n outcome s).board.entries.map (·.number) = s.board.entries.map (·.number) := by
  simp only [closeOnly_board, List.map_map]
  exact List.map_congr_left fun o _ => by simp only [Function.comp]; split <;> rfl

/-- Closings of entries that stand, one after another. -/
theorem foldl_closeOnly_quiets (outcome : OfferOutcome) (l : List Nat) (s : State)
    (h : ∀ n ∈ l, n ∈ s.board.entries.map (·.number)) :
    Quiets s (l.foldl (fun s n => closeOnly n outcome s) s) := by
  induction l generalizing s with
  | nil => exact .refl
  | cons n l ih =>
    refine .head (.closed n outcome s (h n (by simp))) (ih _ fun m hm => ?_)
    rw [closeOnly_numbers]
    exact h m (by simp [hm])

theorem refilter_quiets (s : State) : Quiets s (refilter s) := by
  refine foldl_closeOnly_quiets _ _ s fun n hn => ?_
  obtain ⟨o, ho, rfl⟩ := List.mem_map.mp hn
  exact List.mem_map_of_mem (List.mem_of_mem_filter ho)

theorem closeOffer_quiets (n : Nat) (outcome : OfferOutcome) (s : State) : Quiets s (closeOffer n outcome s) := by
  unfold closeOffer
  split
  · exact .refl
  · rename_i o ho
    have hclose : Quiets s (closeOnly n outcome s) :=
      .single (.closed n outcome s (mem_numbers_of_findOffer ho))
    split
    · exact hclose.trans ((generateStatus_quiets _).trans (refilter_quiets _))
    · exact hclose

theorem claimEnds_quiets (n : Nat) (outcome : OfferOutcome) (s : State) : Quiets s (claimEnds n outcome s) := by
  unfold claimEnds
  split
  · exact .refl
  · split
    · exact closeOffer_quiets n outcome s
    · exact .refl

theorem expireClaim_quiets (n : Nat) (s : State) : Quiets s (expireClaim n s) :=
  (dropEntry_quiets .claim n s).trans (claimEnds_quiets n .expired _)

theorem unfocus_quiets (n : Nat) (s : State) : Quiets s (unfocus n s) := .single (.board rfl rfl rfl)

theorem countOverflow_quiets (s : State) : Quiets s (countOverflow s) := .single (.board rfl rfl rfl)

/-- An offer known under its number, refreshed or moved between the open claim states. -/
theorem updateOffer_quiets (n : Nat) (f : Offer → Offer) (o : Offer) (s : State) (find : findOffer n s = some o)
    (number : ∀ x, (f x).number = x.number) (claim : (f o).state.claimOpen = true → o.state.claimOpen = true) :
    Quiets s (updateOffer n f s) :=
  .single (.offer n f s number fun distinct x hx hn => by
    have hxo : x = o := List.inj_on_of_nodup_map distinct hx (List.mem_of_find?_eq_some find)
      (hn.trans (number_of_findOffer n s o find).symm)
    exact hxo ▸ claim)

theorem presentOffer_quiets (new : Offer) (s : State) (size : s.board.entries.length < Config.boardSize)
    (fresh : findOffer new.number s = none) (claim : new.state.claimOpen = false) :
    Quiets s (presentOffer new s) := .head (.presented new s size fresh claim) (.single (.raise _ _))

/-- An offer takes the place of another entry. -/
theorem presentOffer_removeOffer_quiets (n : Nat) (new : Offer) (s : State)
    (place : n ∈ s.board.closeOrder ∨ n ∈ s.board.entries.map (·.number))
    (fresh : findOffer new.number s = none) (claim : new.state.claimOpen = false) :
    Quiets s (presentOffer new (removeOffer n s)) :=
  .head (.replaced n new s place fresh claim) (.single (.raise .offerNew _))

theorem evictable_mem {cls : OfferClass} {s : State} {o : Offer} (h : evictable cls s = some o) :
    o ∈ s.board.entries := by
  have hfirst : ∀ (p : Offer → Offer → Bool) (l : List Offer) (x : Offer), firstBy p l = some x → x ∈ l := by
    intro p l
    induction l with
    | nil => intro x hx; simp [firstBy] at hx
    | cons y l ih =>
      intro x hx
      unfold firstBy at hx
      split at hx
      · simp_all
      · rename_i b hb
        split at hx <;> simp_all
  exact List.mem_of_mem_filter (hfirst _ _ _ h)

theorem placeOffer_quiets (new : Offer) (s : State) (claim : new.state = .presented) :
    Quiets s (placeOffer new s) := by
  have hnew : new.state.claimOpen = false := by simp [claim, OfferState.claimOpen]
  unfold placeOffer
  split
  · rename_i o ho
    split
    · exact .refl
    · exact .tail (updateOffer_quiets new.number (fun o => { o with
        expiry := max o.expiry new.expiry, text := new.text, estimate := new.estimate }) o s ho (fun _ => rfl)
        (fun h => h)) (.raise _ _)
  · rename_i hfresh
    split
    · rename_i hsize; exact presentOffer_quiets new s hsize hfresh hnew
    · split
      · rename_i n rest horder
        exact presentOffer_removeOffer_quiets n new s (.inl (by simp [horder])) hfresh hnew
      · split
        · rename_i o ho
          exact (presentOffer_removeOffer_quiets o.number new s
            (.inr (List.mem_map_of_mem (evictable_mem ho))) hfresh hnew).tail (.board rfl rfl rfl)
        · exact countOverflow_quiets s

theorem receiveOffer_quiets (target : Target) (cls : OfferClass) (nextJob : Bool) (o : OfferFields) (s : State) :
    Quiets s (receiveOffer target cls nextJob o s) := by
  unfold receiveOffer; dsimp only; split
  · exact placeOffer_quiets _ s rfl
  · exact .refl

theorem takeClaim_quiets (o : Offer) (origin : ClaimOrigin) (s : State) (h : claimOpen s = false) :
    Quiets s (takeClaim o origin s) := by
  have hplaced : Quiets s (placeEntry .claim o.number .none (some o.expiry) (unfocus o.number (updateOffer o.number
      (fun o => { o with state := .claiming, origin := some origin }) s))) :=
    .head (.claimed o.number (fun o => { o with state := .claiming, origin := some origin }) s (fun _ => rfl) h)
      ((unfocus_quiets _ _).tail (.placed _ _ _ _ _ (by decide)))
  unfold takeClaim; dsimp only; split
  · exact hplaced.trans (expireClaim_quiets _ _)
  · exact hplaced

theorem acceptPress_quiets (s : State) : Quiets s (acceptPress s).2 := by
  unfold acceptPress
  split
  · exact .refl
  split
  · exact .refl
  split
  · exact .refl
  rename_i hclaim
  split
  · exact .refl
  split
  · exact .refl
  · exact takeClaim_quiets _ _ _ (by simpa using hclaim)

theorem claimHeard_quiets (n : Nat) (s : State) : Quiets s (claimHeard n s) := by
  unfold claimHeard
  split
  · exact .refl
  rename_i o ho
  split
  · rename_i hstate
    have hawait := updateOffer_quiets n (fun o => { o with state := .awaitingAward }) o s ho (fun _ => rfl)
      (fun _ => by simp [hstate, OfferState.claimOpen])
    dsimp only; split
    · exact hawait.trans (closeOffer_quiets _ _ _)
    · exact hawait
  · exact .refl

theorem autoDecline_quiets (n : Nat) (s : State) : Quiets s (autoDecline n s) :=
  .single (.placed _ _ _ _ s (by decide))

theorem dropClaim_quiets (o : Offer) (s : State) : Quiets s (dropClaim o s) := by
  unfold dropClaim; split
  · exact dropEntry_quiets _ _ _
  · exact .refl

/-- The entry of a claim in CLAIMING or AWAITING_AWARD becomes the assignment. -/
theorem awarded_quiets (n : Nat) (o : Offer) (s : State) (ho : findOffer n s = some o)
    (hclaim : o.state.claimOpen = true) :
    Quiets s (refilter (generateStatus (raise .award
      (updateOffer n (fun o => { o with state := .awarded }) (dropClaim o s))))) := by
  have hfind : findOffer n (dropClaim o s) = some o := (findOffer_congr n (by rw [dropClaim_eq])).trans ho
  exact (dropClaim_quiets o s).trans
    (((updateOffer_quiets n (fun o => { o with state := .awarded }) o _ hfind (fun _ => rfl) (fun _ => hclaim)).tail
      (.raise .award _)).trans ((generateStatus_quiets _).trans (refilter_quiets _)))

theorem receiveAward_quiets (n : Nat) (s : State) : Quiets s (receiveAward n s) := by
  have hdeclined (o : Offer) : Quiets s (autoDecline n (closeOffer n .declined (dropClaim o s))) :=
    (dropClaim_quiets o s).trans ((closeOffer_quiets _ _ _).trans (autoDecline_quiets _ _))
  unfold receiveAward
  split
  · exact autoDecline_quiets n s
  rename_i o ho
  dsimp only
  split
  · split
    · exact hdeclined o
    · exact awarded_quiets n o s ho (by simp [OfferState.claimOpen, *])
  · split
    · exact hdeclined o
    · exact awarded_quiets n o s ho (by simp [OfferState.claimOpen, *])
  · exact .refl
  · exact autoDecline_quiets n s
  · exact autoDecline_quiets n s

theorem receiveLost_quiets (n : Nat) (s : State) : Quiets s (receiveLost n s) := by
  unfold receiveLost
  split
  · exact .refl
  rename_i o _
  have hlost : Quiets s (closeOffer n .lost (dropClaim o s)) := (dropClaim_quiets o s).trans (closeOffer_quiets _ _ _)
  split
  · exact hlost
  · exact hlost
  all_goals exact .refl

theorem receiveWithdraw_quiets (n : Nat) (s : State) : Quiets s (receiveWithdraw n s) := by
  unfold receiveWithdraw
  split
  · exact .refl
  split
  · exact .refl
  · exact (dropClaim_quiets _ s).trans (closeOffer_quiets _ _ _)

theorem hireAssignment_quiets (s : State) : Quiets s (hireAssignment s) := by
  unfold hireAssignment; split
  · exact .refl
  · exact closeOffer_quiets _ _ _

/-- The suppression of one entry keeps the numbers of the board. -/
theorem suppressOne_numbers (o : Offer) (s : State) :
    (suppressOne o s).board.entries.map (·.number) = s.board.entries.map (·.number) := by
  unfold suppressOne
  split
  · exact closeOnly_numbers _ _ _
  · dsimp only; split
    · simp only [updateOffer, dropEntry, List.map_map]
      exact List.map_congr_left fun x _ => by simp only [Function.comp]; split <;> rfl
    · exact closeOnly_numbers _ _ _
  all_goals rfl

/-- The suppression of one entry touches no entry of another number. -/
theorem mem_suppressOne_of_ne {o x : Offer} {s : State} (h : x.number ≠ o.number)
    (hx : x ∈ (suppressOne o s).board.entries) : x ∈ s.board.entries := by
  have updated (f : Offer → Offer) (hf : ∀ y, (f y).number = y.number) (t : State)
      (ht : x ∈ t.board.entries.map fun y => if y.number == o.number then f y else y) : x ∈ t.board.entries := by
    obtain ⟨y, hy, rfl⟩ := List.mem_map.mp ht
    split at h
    · rename_i hn; exact absurd (by rw [hf]; exact beq_iff_eq.mp hn) h
    · rename_i hn; rw [if_neg hn]; exact hy
  have closed (t : State) (ht : x ∈ (closeOnly o.number .suppressed t).board.entries) : x ∈ t.board.entries := by
    rw [closeOnly_board] at ht
    exact updated (fun y => { y with state := .closed, outcome := some .suppressed }) (fun _ => rfl) t ht
  unfold suppressOne at hx
  split at hx
  · exact closed s hx
  · dsimp only at hx; split at hx
    · exact updated (fun y => { y with state := .awaitingAward }) (fun _ => rfl) (dropEntry .claim o.number s) hx
    · exact closed (dropEntry .claim o.number s) hx
  all_goals exact hx

/-- The suppression of an entry that stands on the board. -/
theorem suppressOne_quiets (o : Offer) (s : State) (h : o.number ∈ s.board.entries.map (·.number))
    (found : (s.board.entries.map (·.number)).Nodup → ∀ x ∈ s.board.entries, x.number = o.number → x = o) :
    Quiets s (suppressOne o s) := by
  have closed (t : State) (ht : o.number ∈ t.board.entries.map (·.number)) :
      Quiets t (closeOnly o.number .suppressed t) := .single (.closed _ _ t ht)
  unfold suppressOne
  split
  · exact closed s h
  · rename_i hc
    dsimp only; split
    · refine (dropEntry_quiets ..).tail (.offer _ _ _ (fun _ => rfl) fun distinct x hx hn _ => ?_)
      rw [found distinct x hx hn, hc]; rfl
    · exact (dropEntry_quiets ..).trans (closed _ h)
  all_goals exact .refl

/-- The suppression of several entries of the board. -/
theorem foldl_suppressOne_quiets (l : List Offer) (s : State)
    (h : ∀ o ∈ l, o.number ∈ s.board.entries.map (·.number))
    (distinct : (s.board.entries.map (·.number)).Nodup → (l.map (·.number)).Nodup)
    (found : (s.board.entries.map (·.number)).Nodup → ∀ o ∈ l, ∀ x ∈ s.board.entries, x.number = o.number → x = o) :
    Quiets s (l.foldl (fun s o => suppressOne o s) s) := by
  induction l generalizing s with
  | nil => exact .refl
  | cons o os ih =>
    have hnumbers := suppressOne_numbers o s
    refine (suppressOne_quiets o s (h o (by simp)) fun hd => found hd o (by simp)).trans (ih _ ?_ ?_ ?_)
    · exact fun a ha => hnumbers ▸ h a (by simp [ha])
    · exact fun hd => (List.nodup_cons.mp (distinct (hnumbers ▸ hd))).2
    · intro hd a ha x hx hn
      have hne : a.number ≠ o.number := fun hao => (List.nodup_cons.mp (distinct (hnumbers ▸ hd))).1
        (List.mem_map.mpr ⟨a, ha, hao⟩)
      exact found (hnumbers ▸ hd) a (by simp [ha]) x (mem_suppressOne_of_ne (hn ▸ hne) hx) hn

theorem suppressBoard_quiets (s : State) : Quiets s (suppressBoard s) :=
  foldl_suppressOne_quiets _ s (fun _ ho => List.mem_map_of_mem ho) id
    fun hd _ ho _ hx hn => List.inj_on_of_nodup_map hd hx ho hn

/-! ### The trip log and the totals -/

theorem updateRecord_quiets (seq : Nat) (f : LogEntry → LogEntry) (s : State)
    (h : ∀ e, (f e).position = e.position ∧ (f e).record.seq = e.record.seq) : Quiets s (updateRecord seq f s) :=
  .single (.records seq f s h)

theorem markRecord_quiets (position : Nat) (s : State) : Quiets s (markRecord position s) := .single (.dirty rfl rfl)

theorem markReport_quiets (position : Nat) (s : State) : Quiets s (markReport position s) := .single (.dirty rfl rfl)

/-- What an overwriting does beside the log: the TRIP_REPORT entry leaves, and an unheard record is counted. -/
def countOverwritten (e : LogEntry) (s : State) : State :=
  let s := dropEntry .tripReport e.record.seq s
  if s.accounts.fault then s
  else
    match e.record.report with
    | .unreported | .inQueue =>
        updateTotals (fun t => { t with shift := { t.shift with
          overwritten := satAdd Config.maxTotal t.shift.overwritten 1 } }) s
    | .reported | .notReportable => s

theorem countOverwritten_quiets (e : LogEntry) (s : State) : Quiets s (countOverwritten e s) := by
  unfold countOverwritten; dsimp only; split
  · exact dropEntry_quiets _ _ _
  · split
    · exact (dropEntry_quiets _ _ _).trans (updateTotals_quiets _ _)
    · exact (dropEntry_quiets _ _ _).trans (updateTotals_quiets _ _)
    all_goals exact dropEntry_quiets _ _ _

/-- The position that a new record takes. -/
def positionFor (log : List LogEntry) : Nat :=
  if log.length < Config.logSize then freePosition log
  else
    match log with
    | [] => 0
    | e :: _ => e.position

/-- The counting of an overwritten record neither reads nor writes the log and the next number. -/
theorem countOverwritten_log (e : LogEntry) (l : List LogEntry) (n : Nat) (s : State) :
    countOverwritten e { s with accounts := { s.accounts with log := l, nextSeq := n } } =
      { countOverwritten e s with accounts := { (countOverwritten e s).accounts with log := l, nextSeq := n } } := by
  by_cases hfault : s.accounts.fault = true
  · simp [countOverwritten, dropEntry, hfault]
  · cases hreport : e.record.report <;> simp [countOverwritten, dropEntry, updateTotals, hfault, hreport]

theorem overwriteOldest_eq (e : LogEntry) (s : State) :
    overwriteOldest e s =
      countOverwritten e { s with accounts := { s.accounts with log := s.accounts.log.tail } } := rfl

/-- A record joins the log in one change of log and next number; overwriting and dirty mark follow it. -/
theorem appendRecord_eq (r : TripRecord) (s : State) :
    appendRecord r s =
      let t := { s with accounts := { s.accounts with
        log := appendedLog r s.accounts.log, nextSeq := nextNumber Config.max16 r.seq } }
      markRecord (positionFor s.accounts.log)
        (if s.accounts.log.length < Config.logSize then t
        else
          match s.accounts.log with
          | [] => t
          | e :: _ => countOverwritten e t) := by
  by_cases hlen : s.accounts.log.length < Config.logSize
  · simp only [appendRecord, appendedLog, positionFor, hlen, if_true]
  · cases hlog : s.accounts.log with
    | nil => simp [hlog, Config.logSize] at hlen
    | cons e rest =>
      rw [hlog] at hlen
      have htail (n : Nat) := countOverwritten_log e rest n s
      have hwhole := countOverwritten_log e (rest ++ [⟨e.position, r, none⟩]) (nextNumber Config.max16 r.seq) s
      simp only [appendRecord, appendedLog, positionFor, hlog, hlen, if_false, oldestEntry, List.head?_cons,
        overwriteOldest_eq, List.tail_cons, hwhole]
      rw [htail s.accounts.nextSeq]

theorem appendRecord_quiets (r : TripRecord) (s : State) (h : r.seq = s.accounts.nextSeq ∨ s.accounts.log = []) :
    Quiets s (appendRecord r s) := by
  rw [appendRecord_eq]
  refine .head (.appended r s h) (.trans ?_ (markRecord_quiets _ _))
  split
  · exact .refl
  · split
    · exact .refl
    · exact countOverwritten_quiets _ _

theorem closeIntoAccounts_quiets (r : TripRecord) (s : State) : Quiets s (closeIntoAccounts r s) := by
  generalize ht : appendRecord { r with seq := s.accounts.nextSeq, report := reportAtClose r.flags } s = t
  have happended : Quiets s t := ht ▸ appendRecord_quiets _ s (.inl rfl)
  have hadded : Quiets s (if t.accounts.fault then t else markTotals (updateTotals
      (addTrip { r with seq := s.accounts.nextSeq, report := reportAtClose r.flags }) t)) := by
    split
    · exact happended
    · exact happended.trans ((updateTotals_quiets _ _).trans (markTotals_quiets _))
  simp only [closeIntoAccounts, ht]
  exact hadded.tail (.accounts rfl rfl rfl)

theorem addDistance_quiets (p : Nat) (s : State) : Quiets s (addDistance p s) := by
  unfold addDistance; dsimp only; split
  · exact .refl
  · split
    · exact .refl
    · exact updateTotals_quiets _ _

theorem openShift_quiets (driver : Nat) (s : State) : Quiets s (openShift driver s) :=
  (updateTotals_quiets _ _).trans (markTotals_quiets _)

theorem closeShift_quiets (s : State) : Quiets s (closeShift s) :=
  (updateTotals_quiets _ _).trans (markTotals_quiets _)

theorem placeTripReport_quiets (s : State) : Quiets s (placeTripReport s) := by
  unfold placeTripReport; split
  · exact .refl
  · exact .tail (updateRecord_quiets _ (fun e => { e with record := { e.record with report := .inQueue } }) s
      fun _ => ⟨rfl, rfl⟩) (.placed _ _ _ _ _ (by decide))

theorem tripReported_quiets (seq : Nat) (s : State) : Quiets s (tripReported seq s) := by
  unfold tripReported; split
  · exact .refl
  · exact .trans (updateRecord_quiets _ (fun e => { e with
      record := { e.record with report := .reported }, holdOff := none }) s fun _ => ⟨rfl, rfl⟩) (markReport_quiets _ _)

theorem tripReportFailed_quiets (seq : Nat) (s : State) : Quiets s (tripReportFailed seq s) :=
  updateRecord_quiets _ _ s fun _ => ⟨rfl, rfl⟩

theorem tripReportEmptied_quiets (seq : Nat) (s : State) : Quiets s (tripReportEmptied seq s) :=
  updateRecord_quiets _ _ s fun _ => ⟨rfl, rfl⟩

theorem endTotalsPeriod_quiets (s : State) : Quiets s (endTotalsPeriod s) := by
  unfold endTotalsPeriod; dsimp only; split
  · exact .head (.accounts (t := { s with accounts := { s.accounts with
      periodSince := s.accounts.periodSince + Config.totalsPeriodMs } }) rfl rfl rfl) (markTotals_quiets _)
  · exact .single (.accounts rfl rfl rfl)

theorem reinitTotals_quiets (s : State) : Quiets s (reinitTotals s) :=
  let t := updateTotals (zeroTotals ((newestEntry s).map (·.record.seq))) s
  .trans (updateTotals_quiets _ s) (.head (.accounts (t := { t with accounts := { t.accounts with reinit := true } })
    rfl rfl rfl) (.single (.dirty rfl rfl)))

/-! ### The meter -/

theorem updateTrip_quiets (f : Trip → Trip) (s : State)
    (h : ∀ t, (f t).fare = t.fare ∧ (f t).acc = t.acc ∧ (f t).tariff = t.tariff) : Quiets s (updateTrip f s) :=
  .single (.trip f s h)

theorem setCheckpointCount_quiets (n : Nat) (s : State) : Quiets s (setCheckpointCount n s) :=
  .single (.meter rfl rfl rfl)

theorem markTrip_quiets (s : State) : Quiets s (markTrip s) := by
  unfold markTrip; split
  · exact (markCheckpoint_quiets s).trans (setCheckpointCount_quiets _ _)
  · exact markCheckpoint_quiets s

theorem takeTally_quiets (s : State) : Quiets s (takeTally s) := by
  unfold takeTally; dsimp only
  refine .head (.panel (t := { s with panel := { s.panel with tally := 0 } }) rfl) ?_
  split
  · exact updateTrip_quiets _ _ fun t => ⟨rfl, rfl, rfl⟩
  all_goals exact addDistance_quiets _ _

theorem applyEvaluation_quiets (mark : State → State) (hm : ∀ s, Quiets s (mark s)) (s : State) :
    Quiets s (applyEvaluation mark s) := by
  unfold applyEvaluation
  split
  · exact .refl
  dsimp only; split
  · exact .refl
  · exact .head (.switched _ s) (hm _)

theorem countCheckpoint_quiets (s : State) : Quiets s (countCheckpoint s) := by
  unfold countCheckpoint; split
  · exact (markCheckpoint_quiets s).trans (setCheckpointCount_quiets _ _)
  · exact setCheckpointCount_quiets _ _

theorem endTripSecond_quiets (p : Nat) (s : State) (h : s.meter.state = .hired) : Quiets s (endTripSecond p s) :=
  .head (.tripSecond p s h)
    ((countCheckpoint_quiets _).trans (applyEvaluation_quiets _ markTrip_quiets _))

theorem takeTally_meterState (s : State) : (takeTally s).meter.state = s.meter.state := by
  unfold takeTally; dsimp only; split <;> simp [updateTrip]

theorem endMeterSecond_quiets (s : State) : Quiets s (endMeterSecond s) := by
  unfold endMeterSecond
  have htake : Quiets s (takeTally { s with meter := { s.meter with secondSince := s.meter.secondSince + 1000 } }) :=
    .head (.meter (t := { s with meter := { s.meter with secondSince := s.meter.secondSince + 1000 } }) rfl rfl rfl)
      (takeTally_quiets _)
  split
  · rename_i hired
    exact htake.trans (endTripSecond_quiets _ _ ((takeTally_meterState _).trans hired))
  · exact htake

/-- A change of meter state is made of elementary changes if entering the state and its work are. -/
theorem changeMeter_quiets (new : MeterState) (work : State → State) (s : State)
    (h : ∀ i t, t.meter.state = s.meter.state → pulseConstant t = pulseConstant s →
      Quiets t (work { t with meter := { t.meter with state := new, secondSince := i } })) :
    Quiets s (changeMeter new work s) := by
  have hpulse : pulseConstant (takeTally s) = pulseConstant s := by simp [pulseConstant]
  have hchanged := ((takeTally_quiets s).trans (h (takeTally s).now _ (takeTally_meterState s) hpulse)).tail
    (.raise .meter _)
  have htested := hchanged.trans ((generateStatus_quiets _).trans (refilter_quiets _))
  unfold changeMeter; dsimp only; split
  · exact htested.trans (hireAssignment_quiets _)
  · exact htested

/-- A change between states of which only a trip leads to a trip. -/
theorem changeMeter_quiets_of_work (new : MeterState) (work : State → State) (s : State)
    (hnew : new.onTrip = true → s.meter.state.onTrip = true) (hwork : ∀ t, Quiets t (work t)) :
    Quiets s (changeMeter new work s) :=
  changeMeter_quiets new work s fun i t ht _ => .head (.meterState new i t (by rwa [ht])) (hwork _)

theorem stopTrip_quiets (s : State) : Quiets s (stopTrip s) :=
  .head (.meter (t := { s with meter := { s.meter with resumeOpen := true } }) rfl rfl rfl)
    (.trans (updateTrip_quiets (fun t => { t with stopAt := some s.now }) _ fun _ => ⟨rfl, rfl, rfl⟩)
      (markCheckpoint_quiets _))

theorem resumeTrip_quiets (s : State) : Quiets s (resumeTrip s) :=
  .head (.meter (t := { s with meter := { s.meter with resumeOpen := false } }) rfl rfl rfl)
    (.trans (updateTrip_quiets (fun t => { t with stopAt := none }) _ fun _ => ⟨rfl, rfl, rfl⟩)
      ((applyEvaluation_quiets _ markCheckpoint_quiets _).trans (markCheckpoint_quiets _)))

theorem closeTrip_quiets (s : State) : Quiets s (closeTrip s) := by
  unfold closeTrip; split
  · exact markCheckpoint_quiets s
  · exact .trans (closeIntoAccounts_quiets _ s) (.head (.tripEnded _) (markCheckpoint_quiets _))

theorem chargeExtra_quiets (t : Trip) (s : State) : Quiets s (chargeExtra t s) :=
  .tail (.trans (updateTrip_quiets (fun x => { x with
    extrasCount := x.extrasCount + 1, extrasTotal := x.extrasTotal + (workingTariff t.tariff s).extra }) s
    fun _ => ⟨rfl, rfl, rfl⟩) (markTrip_quiets _)) (.raise _ _)

theorem pulseConstant_of_calibrated (s : State) (h : uncalibrated s = false) : pulseConstant s ≠ 0 := by
  simp only [uncalibrated, Bool.or_eq_false_iff, beq_eq_false_iff_ne] at h
  exact h.1

theorem pressMeter_quiets (k : MeterKey) (s : State) : Quiets s (pressMeter k s).2 := by
  unfold pressMeter
  split
  · split
    · exact .refl
    · rename_i hcal
      split
      · exact .refl
      · exact changeMeter_quiets _ _ s fun i t _ hk =>
          .single (.tripOpened i t (hk ▸ pulseConstant_of_calibrated s (by simpa using hcal)))
  · rename_i hstate
    split
    · exact changeMeter_quiets_of_work _ _ s (fun _ => by rw [hstate]; rfl) resumeTrip_quiets
    · exact .refl
  · rename_i hstate
    exact changeMeter_quiets_of_work _ _ s (fun _ => by rw [hstate]; rfl) stopTrip_quiets
  · exact changeMeter_quiets_of_work _ _ s (by simp [MeterState.onTrip]) closeTrip_quiets
  · split
    · exact .refl
    · split
      · exact .refl
      · exact chargeExtra_quiets _ _
  · split
    · exact .refl
    · split
      · exact .refl
      · exact chargeExtra_quiets _ _
  · exact .refl

theorem flagTrip_quiets (s : State) : Quiets s (flagTrip s) := by
  unfold flagTrip; split
  · exact .trans (updateTrip_quiets (fun t => { t with flags := { t.flags with emergency := true } }) s
      fun _ => ⟨rfl, rfl, rfl⟩) (markTrip_quiets _)
  · exact .refl

/-! ### The emergency -/

/-- A change of the emergency that leaves its state. -/
theorem emergency_quiets {s t : State} (only : t = { s with emergency := t.emergency })
    (h : t.emergency.state = s.emergency.state) : Quiets s t := .single (.emergency only (by rw [h]; tauto))

theorem latchIfLatched_quiets (s : State) : Quiets s (latchIfLatched s) := by
  unfold latchIfLatched; split
  · exact emergency_quiets rfl rfl
  · exact .refl

/-- The return to IDLE before the handshake is told and the end is shown. -/
def emergencyEnded (last : LastEnd) (s : State) : State :=
  { dropEntry .emergency 0 s with
    emergency := { s.emergency with
      state := .idle, acknowledged := false, sources := noSources, reportSince := none
      lastEnd := if s.emergency.state.open then last else s.emergency.lastEnd }
    scheduler := { (dropEntry .emergency 0 s).scheduler with lastBeacon := none } }

theorem endEmergency_eq (last : LastEnd) (s : State) :
    endEmergency last s =
      let t := voiceAfterActive (setMark .none (emergencyEnded last s))
      if s.emergency.state.open then raise .emergency t else t := rfl

theorem emergencyEnded_quiets (last : LastEnd) (s : State) : Quiets s (emergencyEnded last s) :=
  .trans (dropEntry_quiets .emergency 0 s)
    (.trans (scheduler_quiets (t := { dropEntry .emergency 0 s with
      scheduler := { (dropEntry .emergency 0 s).scheduler with lastBeacon := none } }) rfl rfl)
      (.single (.emergency rfl (.inl rfl))))

theorem endEmergency_quiets (last : LastEnd) (s : State) : Quiets s (endEmergency last s) := by
  have hended : Quiets s (voiceAfterActive (setMark .none (emergencyEnded last s))) :=
    (emergencyEnded_quiets last s).trans ((setMark_quiets _ _).trans (voiceAfterActive_quiets _))
  rw [endEmergency_eq]; dsimp only; split
  · exact hended.tail (.raise _ _)
  · exact hended

theorem receiveStandDown_quiets (s : State) : Quiets s (receiveStandDown s) := by
  unfold receiveStandDown; split
  · exact .refl
  all_goals exact endEmergency_quiets _ s

theorem receiveEmergAck_quiets (s : State) : Quiets s (receiveEmergAck s) := by
  unfold receiveEmergAck
  split
  · rename_i hstate
    exact .head (.emergency (t := { s with emergency := { s.emergency with state := .acknowledged } }) rfl
      (.inr (.inl (by simp [hstate])))) ((voiceAfterActive_quiets _).tail (.raise _ _))
  · exact emergency_quiets rfl rfl
  all_goals exact .refl

theorem enterCovert_quiets (s : State) (h : s.emergency.state ≠ .idle) : Quiets s (enterCovert s) :=
  .head (.emergency (t := { s with emergency := { s.emergency with
      state := .covert, acknowledged := s.emergency.state == .acknowledged, lastEnd := .cancel } }) rfl (.inr (.inl h)))
    ((setMark_quiets _ _).trans ((voiceAfterActive_quiets _).tail (.raise _ _)))

theorem reportHeard_quiets (s : State) : Quiets s (reportHeard s) := by
  unfold reportHeard; split
  · exact .refl
  all_goals exact emergency_quiets rfl rfl

theorem placeReport_quiets (s : State) : Quiets s (placeReport s) :=
  .tail (emergency_quiets (t := { s with emergency := { s.emergency with reportSince := none } }) rfl rfl)
    (.placed _ _ _ _ _ (by decide))

/-! ### The inbox -/

theorem updateMessage_numbers (n : Nat) (f : Message → Message) (s : State) (h : ∀ m, (f m).number = m.number) :
    (updateMessage n f s).inbox.messages.map (·.number) = s.inbox.messages.map (·.number) := by
  simp only [updateMessage, List.map_map]
  exact List.map_congr_left fun m _ => by simp only [Function.comp]; split <;> simp [h]

theorem placeReceipt_numbers (m : Message) (s : State) :
    (placeReceipt m s).inbox.messages.map (·.number) = s.inbox.messages.map (·.number) := by
  unfold placeReceipt; split
  · obtain ⟨-, -, -, -, hinbox, -⟩ := placeEntry_frame .receipt m.number (.code m.receiptCode) none
      (updateMessage m.number (fun m => { m with receipt := .queued }) s)
    rw [hinbox]
    exact updateMessage_numbers _ _ _ fun _ => rfl
  all_goals rfl

theorem foldl_placeReceipt_quiets (l : List Message) (s : State)
    (h : ∀ m ∈ l, m.number ∈ s.inbox.messages.map (·.number)) :
    Quiets s (l.foldl (fun s m => placeReceipt m s) s) := by
  induction l generalizing s with
  | nil => exact .refl
  | cons m l ih =>
    refine .head (.receipt m s (h m (by simp))) (ih _ fun x hx => ?_)
    rw [placeReceipt_numbers]
    exact h x (by simp [hx])

theorem mem_of_dueReceipts {m : Message} {s : State} (h : m ∈ dueReceipts s) : m ∈ s.inbox.messages := by
  simp only [dueReceipts, List.mem_append, List.mem_filter] at h
  tauto

theorem placeReceipts_quiets (s : State) : Quiets s (placeReceipts s) :=
  foldl_placeReceipt_quiets _ s fun _ hm => List.mem_map_of_mem (mem_of_dueReceipts hm)

theorem settleReceipt_number (outcome : ReceiptState) (m : Message) : (settleReceipt outcome m).number = m.number := by
  unfold settleReceipt; split <;> rfl

/-- A message's entry that has left the queue is no more a RECEIPT entry of its number. -/
theorem no_receipt_after_drop (n : Nat) (s : State) :
    ∀ e ∈ (dropEntry .receipt n s).scheduler.queue, e.kind = .receipt → e.key ≠ n := by
  intro e he hkind hkey
  simp [Entry.is, hkind, hkey] at he

theorem receiptHeard_quiets (n : Nat) (s : State) :
    Quiets s (receiptHeard n (dropEntry .receipt n s)) :=
  .trans (dropEntry_quiets .receipt n s) (.head (.message n (settleReceipt .sent) _ (settleReceipt_number .sent)
    (.inr (.inr (no_receipt_after_drop n s)))) (placeReceipts_quiets _))

theorem receiptFailed_quiets (n : Nat) (s : State) :
    Quiets s (receiptFailed n (dropEntry .receipt n s)) :=
  .trans (dropEntry_quiets .receipt n s) (.head (.message n (settleReceipt .failed) _ (settleReceipt_number .failed)
    (.inr (.inr (no_receipt_after_drop n s)))) (.head (.raise _ _) (placeReceipts_quiets _)))

theorem findMessage_congr {s t : State} (n : Nat) (h : t.inbox.messages = s.inbox.messages) :
    findMessage n t = findMessage n s := by simp [findMessage, h]

theorem number_of_findMessage {n : Nat} {s : State} {m : Message} (h : findMessage n s = some m) : m.number = n := by
  simpa using List.find?_some h

theorem storeMessage_quiets (m : Message) (s : State) (size : s.inbox.messages.length < Config.inboxSize)
    (fresh : findMessage m.number s = none) : Quiets s (storeMessage m s) :=
  .head (.stored m s size fresh) (.head (.raise .message _) (placeReceipts_quiets _))

theorem not_queued_of_evictable {m : Message} (h : m.evictable = true) : m.receipt ≠ .queued := by
  simp only [Message.evictable, Bool.and_eq_true, Bool.or_eq_true, beq_iff_eq] at h
  obtain ⟨-, hn | hs⟩ := h <;> simp_all

theorem receiveText_quiets (target : Target) (priority : Priority) (x : TextFields) (s : State) :
    Quiets s (receiveText target priority x s) := by
  unfold receiveText
  split
  · have hnumber (m : Message) : (rearm m).number = m.number := by unfold rearm; split <;> rfl
    exact .head (.message _ rearm s hnumber (.inl fun m hm => by simp [rearm, hm])) (placeReceipts_quiets _)
  · rename_i hfresh
    dsimp only; split
    · rename_i hsize; exact storeMessage_quiets _ s hsize hfresh
    · split
      · rename_i old hold
        exact .head (.storedOver old.number (newMessage target priority x s) s
          ⟨old, List.mem_of_find?_eq_some hold, rfl, not_queued_of_evictable (List.find?_some hold)⟩ hfresh)
          (.head (.raise .message _) (placeReceipts_quiets _))
      · exact .head (.inbox (t := { s with inbox := { s.inbox with
          fullCount := satAdd Config.max16 s.inbox.fullCount 1, refused := true } }) rfl rfl) (.single (.raise .message _))

theorem replyTo_quiets (m : Message) (code : Nat) (s : State) (h : m ∈ s.inbox.messages) :
    Quiets s (replyTo m code s).2 := by
  have hchosen : Quiet s (updateMessage m.number (chooseReply code) s) :=
    .message _ _ s (fun _ => rfl) (.inl fun _ h => h)
  have hmem : chooseReply code m ∈ (updateMessage m.number (chooseReply code) s).inbox.messages :=
    List.mem_map.mpr ⟨m, h, by simp⟩
  have hfreed (hr : m.receipt ≠ .queued) : Quiets s (placeReceipts (updateMessage m.number
      (fun m => { m with receiptCode := code, receipt := .due }) (updateMessage m.number (chooseReply code) s))) :=
    .head hchosen (.head (.message m.number (fun m => { m with receiptCode := code, receipt := .due }) _
      (fun _ => rfl) (.inr (.inl ⟨_, hmem, rfl, hr⟩))) (placeReceipts_quiets _))
  unfold replyTo; dsimp only
  split
  · exact .head hchosen (.single (.message _ _ _ (fun _ => rfl) (.inl fun _ h => h)))
  · rename_i hr; exact hfreed (by simp [hr])
  · rename_i hr; exact hfreed (by simp [hr])
  · rename_i hr; exact hfreed (by simp [hr])
  · split
    · exact .head hchosen (.head (.message _ (fun m => { m with receiptCode := code, outstanding := false }) _
        (fun _ => rfl) (.inl fun _ h => h)) (updateEntry_quiets _ _ _ _ fun _ => ⟨rfl, rfl, rfl⟩))
    · exact .head hchosen (.single (.message _ _ _ (fun _ => rfl) (.inl fun _ h => h)))

theorem sendHostMessage_quiets (kind : EntryKind) (content : EntryContent) (s : State) (h : kind ≠ .receipt) :
    Quiets s (sendHostMessage kind content s) :=
  .tail (scheduler_quiets (t := { s with scheduler := { s.scheduler with
    nextTicket := nextNumber 255 s.scheduler.nextTicket } }) rfl rfl) (.placed _ _ _ _ _ h)

end Sys2Proof.Machine
end

section
/-! PROOFS. The scheduler, the receiver, the items, the locator and the panel as elementary changes. -/

namespace Sys2Proof.Machine

/-! ### Transmission (R34) -/

theorem transmit_quiets (item : UplinkItem) (s : State) (h : s.receiver.voice ≠ .granted) :
    Quiets s (transmit item s) := .single (.transmitted item s h)

section
variable (e : Entry) (slot : Nat) (s : State) (h : s.receiver.voice ≠ .granted)
include h

theorem sendEntry_quiets : Quiets s (sendEntry e slot s) := by
  have hsent : Quiets s (updateEntry e.kind e.key
      (fun x => { x with state := .sent, sentAs := some (sentNow slot s), grantWait := none })
      (transmit (itemOf e s) s)) :=
    (transmit_quiets _ s h).trans (updateEntry_quiets _ _ _ _ fun _ => ⟨rfl, rfl, rfl⟩)
  unfold sendEntry; dsimp only; split
  · exact hsent.trans (scheduler_quiets rfl rfl)
  · exact hsent

theorem sendSlotReq_quiets : Quiets s (sendSlotReq e slot s) :=
  .trans (transmit_quiets .slotReq s h) (.trans (updateEntry_quiets e.kind e.key
    (fun x => { x with state := .requesting, sentAs := some (sentNow slot s) }) _ fun _ => ⟨rfl, rfl, rfl⟩)
    (scheduler_quiets rfl rfl))

theorem sendFill_quiets : Quiets s (sendFill slot s) :=
  .trans (transmit_quiets (statusItem s) s h) (scheduler_quiets rfl rfl)

theorem useGrant_quiets : Quiets s (useGrant slot s) := by
  unfold useGrant
  split
  · exact (sendEntry_quiets _ slot s h).tail (.entries (fun e =>
      if e.state = .awaitGrant then { e with grantWait := some 1 } else e) _ fun e => by split <;> exact ⟨rfl, rfl, rfl⟩)
  split
  · exact sendEntry_quiets _ slot s h
  split
  · exact sendEntry_quiets _ slot s h
  split
  · exact sendFill_quiets slot s h
  · exact .refl

end

theorem useContention_quiets (s : State) : Quiets s (useContention s) := scheduler_quiets rfl rfl

theorem useEmergContention_quiets (slot : Nat) (s : State) (h : s.receiver.voice ≠ .granted) :
    Quiets s (useEmergContention slot s) := by
  unfold useEmergContention
  split
  · exact .refl
  split
  · exact (sendEntry_quiets _ slot s h).trans (useContention_quiets _)
  · exact .refl

theorem contendSlot_quiets (slot draw : Nat) (s : State) (h : s.receiver.voice ≠ .granted) :
    Quiets s (contendSlot slot draw s) := by
  unfold contendSlot
  split
  · exact .refl
  split
  · exact .refl
  split
  · exact (sendEntry_quiets _ slot s h).trans (useContention_quiets _)
  split
  · refine .trans ?_ (useContention_quiets _)
    split
    · exact sendSlotReq_quiets _ slot s h
    · exact sendEntry_quiets _ slot s h
  · exact .refl

theorem useSlot_quiets (slot draw : Nat) (use : SlotUse) (s : State) : Quiets s (useSlot slot draw use s) := by
  unfold useSlot
  split
  · rename_i hmay
    have hvoice : s.receiver.voice ≠ .granted := by
      simp only [mayTransmit, voiceGrant, Bool.and_eq_true, Bool.not_eq_true', beq_eq_false_iff_ne] at hmay
      exact hmay.1.1.2
    split
    · exact .refl
    · exact contendSlot_quiets slot draw s hvoice
    · exact useEmergContention_quiets slot s hvoice
    · split
      · exact useGrant_quiets slot s hvoice
      · exact .refl
  · exact .refl

theorem beginSlot_quiets (slot draw : Nat) (s : State) : Quiets s (beginSlot slot draw s) := by
  have hbegun : Quiet s { s with receiver := { s.receiver with nextSlot := slot + 1 } } := .receiver rfl rfl rfl
  unfold beginSlot; dsimp only; split
  · exact .single hbegun
  · exact .head hbegun (useSlot_quiets _ _ _ _)

theorem sendBeacon_quiets (s : State) (h : s.receiver.voice ≠ .granted) : Quiets s (sendBeacon s) := by
  have hdated : Quiets s { s with scheduler := { s.scheduler with lastBeacon := some s.now } } :=
    scheduler_quiets rfl rfl
  unfold sendBeacon; dsimp only; split
  · exact hdated.trans (transmit_quiets _ _ h)
  · exact hdated

/-! ### Reports (R35 to R39) -/

theorem statusHeard_quiets (sent : Option SentAs) (s : State) : Quiets s (statusHeard sent s) :=
  .trans (scheduler_quiets (t := { s with scheduler := { s.scheduler with statusSince := s.now } }) rfl rfl)
    (.single (.receiver rfl rfl rfl))

theorem placeRegeneration_quiets (s : State) : Quiets s (placeRegeneration s) := by
  unfold placeRegeneration; split
  · exact .tail (scheduler_quiets (t := { s with scheduler := { s.scheduler with regenerate := false } }) rfl rfl)
      (.placed _ _ _ _ _ (by decide))
  · exact .refl

/-- An acknowledgement, the entry leaving the queue first. -/
theorem acknowledged_quiets (e : Entry) (s : State) : Quiets s (acknowledged e (dropEntry e.kind e.key s)) := by
  have hdrop := dropEntry_quiets e.kind e.key s
  unfold acknowledged
  split
  · exact hdrop.trans (claimHeard_quiets _ _)
  · rename_i hkind; rw [hkind]; exact receiptHeard_quiets _ s
  · exact hdrop.trans (tripReported_quiets _ _)
  · exact hdrop.trans (reportHeard_quiets _)
  · exact hdrop.trans (addResult_quiets _ _ _ _)
  · exact hdrop.trans (addResult_quiets _ _ _ _)
  · exact hdrop.trans ((statusHeard_quiets _ _).trans (placeRegeneration_quiets _))
  · exact hdrop

theorem entryHeard_quiets (e : Entry) (s : State) : Quiets s (entryHeard e s) := by
  unfold entryHeard; split
  · exact updateEntry_quiets _ _ _ _ fun _ => ⟨rfl, rfl, rfl⟩
  · exact acknowledged_quiets e s
  all_goals exact .refl

/-- A failure, the entry leaving the queue first. -/
theorem failed_quiets (e : Entry) (s : State) : Quiets s (failed e (dropEntry e.kind e.key s)) := by
  have hdrop := dropEntry_quiets e.kind e.key s
  unfold failed
  split
  · exact hdrop.trans (claimEnds_quiets _ _ _)
  · rename_i hkind; rw [hkind]; exact receiptFailed_quiets _ s
  · exact hdrop.trans (tripReportFailed_quiets _ _)
  · exact hdrop.trans (addResult_quiets _ _ _ _)
  · exact hdrop.trans (addResult_quiets _ _ _ _)
  · exact hdrop.trans (scheduler_quiets rfl rfl)
  all_goals exact hdrop

theorem attemptLost_quiets (e : Entry) (s : State) : Quiets s (attemptLost e s) := by
  have hback (n : Nat) : Quiets s (updateEntry e.kind e.key (backToWaiting n) s) :=
    updateEntry_quiets _ _ _ _ fun _ => ⟨rfl, rfl, rfl⟩
  have hcleared (n : Nat) : Quiets s (clearSlotReq e.kind e.key (updateEntry e.kind e.key (backToWaiting n) s)) :=
    (hback n).trans (scheduler_quiets rfl rfl)
  unfold attemptLost; dsimp only
  split
  · exact hback _
  split
  · exact failed_quiets e s
  split
  · exact (hcleared _).trans (expireClaim_quiets _ _)
  split
  · exact (hcleared _).trans (scheduler_quiets rfl rfl)
  · exact hcleared _

theorem reportEntry_quiets (isHeard : SentAs → Bool) (s : State) (e : Entry) : Quiets s (reportEntry isHeard s e) := by
  unfold reportEntry; split
  all_goals first
    | exact .refl
    | (split
       · exact entryHeard_quiets e s
       · exact attemptLost_quiets e s)

theorem waitOn_quiets (s : State) (e : Entry) : Quiets s (waitOn s e) := by
  unfold waitOn; split
  · split
    · exact attemptLost_quiets e s
    · exact updateEntry_quiets _ _ _ _ fun _ => ⟨rfl, rfl, rfl⟩
  · exact .refl

theorem reportFill_quiets (isHeard : SentAs → Bool) (s : State) : Quiets s (reportFill isHeard s) := by
  have hcleared : Quiets s { s with scheduler := { s.scheduler with fill := none } } := scheduler_quiets rfl rfl
  unfold reportFill; split
  · exact .refl
  dsimp only; split
  · exact hcleared.trans (statusHeard_quiets _ _)
  · exact hcleared

theorem report_quiets (isHeard : SentAs → Bool) (s : State) : Quiets s (report isHeard s) :=
  (Quiets.foldl (reportEntry_quiets isHeard) _ s).trans
    ((reportFill_quiets isHeard _).trans (Quiets.foldl waitOn_quiets _ _))

theorem giveUpGrants_quiets (s : State) : Quiets s (giveUpGrants s) :=
  Quiets.foldl (fun t e => by
    split
    · exact attemptLost_quiets e t
    · exact .refl) _ s

/-! ### Items (R4 to R6, R17) -/

theorem returnHeld_quiets (s : State) : Quiets s (returnHeld s) := by
  unfold returnHeld; split
  · exact .refl
  · exact .head (.toFull s) (.single (.receiver rfl rfl rfl))

/-- The arrival of an item keeps what its owner keeps beside the elementary changes. -/
theorem QuietKept.takeItem {P : State → Prop} (k : QuietKept P) (head : ItemHead) (fieldsOk : Bool)
    (allowed : Target → Bool) (offer : Bool) (hand : Target → State → State)
    (h : ∀ g t, P t → P (hand g t)) (s : State) (hs : P s) : P (takeItem head fieldsOk allowed offer hand s) := by
  have hcounted : P (countItem s) := k _ _ (.receiver rfl rfl rfl) hs
  rcases takeItem_cases head fieldsOk allowed offer hand s with e | e | ⟨g, -, e⟩ <;> rw [e]
  · exact hs
  · exact hcounted
  · split
    · exact k.quiets (returnHeld_quiets _) (h g _ hcounted)
    · exact h g _ hcounted

/-! ### Remote reset (R21) -/

theorem emptyEntry_quiets (s : State) (e : Entry) : Quiets s (emptyEntry s e) := by
  unfold emptyEntry; split
  · exact tripReportEmptied_quiets _ s
  · exact addResult_quiets _ _ _ s
  all_goals exact .refl

theorem emptyQueue_quiets (s : State) : Quiets s (emptyQueue s) :=
  (Quiets.foldl emptyEntry_quiets _ s).tail (.fewer rfl (List.nil_sublist _))

theorem loseZone_quiets (s : State) : Quiets s (loseZone s) := by
  have hlost : Quiets s { s with locator := { s.locator with
      fix := none, zone := 0, record := none, condition := .lost, candidate := none } } := .single (.locator rfl)
  unfold loseZone; dsimp only; split
  · exact hlost.tail (.raise _ _)
  · exact hlost

theorem restartPark_quiets (s : State) : Quiets s (restartPark s) := by
  unfold restartPark; split <;> exact .single (.receiver rfl rfl rfl)

theorem pulseHost_quiets (s : State) : Quiets s (pulseHost s) := by
  unfold pulseHost; split
  · exact .single (.link rfl (.refl _))
  · exact .refl

/-- The board, the inbox and the access level as a remote reset leaves them. -/
def clearedJobs (s : State) : State :=
  { s with board := resetBoard, inbox := resetInbox, store := { s.store with level := 0 } }

theorem clearedJobs_quiets (s : State) (h : s.scheduler.queue = []) : Quiets s (clearedJobs s) :=
  .head (.boardReset s) (.head (.inboxReset { s with board := resetBoard } h) (.single (.levelDropped _)))

theorem remoteReset_idle (s : State) (h : s.emergency.state = .idle) :
    remoteReset s = pulseHost (blockVoice (restartPark (returnToFull (loseZone
      (clearedJobs (emptyQueue (loseSync s))))))) := by
  simp only [remoteReset, h]
  rfl

/-- Once sync is lost, a remote reset is made of elementary changes. -/
theorem remoteReset_quiets (s : State) (h : s.emergency.state = .idle) : Quiets (loseSync s) (remoteReset s) := by
  rw [remoteReset_idle s h]
  exact (emptyQueue_quiets _).trans ((clearedJobs_quiets _ rfl).trans ((loseZone_quiets _).trans
    (.head (.toFull _) ((restartPark_quiets _).trans (.head (.voiceBlocked _) (pulseHost_quiets _))))))

theorem remoteReset_ignored (s : State) (h : s.emergency.state ≠ .idle) : remoteReset s = s := by
  unfold remoteReset; split
  · contradiction
  all_goals rfl

/-! ### The locator -/

theorem tellBoard_quiets (before : List Nat) (s : State) : Quiets s (tellBoard before s) := by
  unfold tellBoard; split
  · exact .refl
  · exact refilter_quiets s

theorem changeZone_quiets (record : Option ZoneRecord) (s : State) : Quiets s (changeZone record s) :=
  .head (.locator (t := { s with locator := { s.locator with
      zone := resultZone record, record := record, candidate := none } }) rfl)
    (.head (.raise .zone _) ((generateStatus_quiets _).trans (tellBoard_quiets _ _)))

theorem refreshRecord_quiets (record : Option ZoneRecord) (s : State) : Quiets s (refreshRecord record s) := by
  have hset : Quiet s { s with locator := { s.locator with record := record, candidate := none } } := .locator rfl
  unfold refreshRecord; dsimp only; split
  · exact .single hset
  · exact .head hset (.head (.raise .zone _) (tellBoard_quiets _ _))

theorem applyLookup_quiets (record : Option ZoneRecord) (s : State) : Quiets s (applyLookup record s) := by
  rcases applyLookup_cases record s with e | e | e <;> rw [e]
  · exact refreshRecord_quiets record s
  · exact changeZone_quiets record s
  · exact .single (.locator rfl)

theorem storeFix_quiets (f : Fix) (s : State) : Quiets s (storeFix f s) := by
  have hset : Quiet s { s with locator := { s.locator with
      fix := some f, condition := .fresh
      candidate := if s.locator.condition = .fresh then s.locator.candidate else none } } := .locator rfl
  exact .ite (.single hset) (.head hset (.single (.raise .zone _)))

theorem makeStale_quiets (s : State) : Quiets s (makeStale s) :=
  .head (.locator (t := { s with locator := { s.locator with condition := .stale, candidate := none } }) rfl)
    (.single (.raise .zone _))

theorem makeLost_quiets (s : State) : Quiets s (makeLost s) := by
  have hlost : Quiet s { s with locator := { s.locator with condition := .lost } } := .locator rfl
  unfold makeLost; dsimp only; split
  · exact .head hlost (.head (.locator (t := { s with locator := { s.locator with
      condition := .lost, record := none, candidate := none } }) rfl) (.single (.raise .zone _)))
  · exact .head hlost (changeZone_quiets _ _)

/-! ### The panel -/

theorem updateKey_quiets (k : Key) (f : KeyLine → KeyLine) (s : State) : Quiets s (updateKey k f s) :=
  .single (.panel rfl)

theorem changeRaw_quiets (i : Input) (level : Bool) (s : State) : Quiets s (changeRaw i level s) := by
  unfold changeRaw; split
  · exact updateKey_quiets _ _ s
  · split
    · exact .refl
    · exact .single (.panel rfl)

theorem startPark_quiets (s : State) : Quiets s (startPark s) := .single (.receiver rfl rfl rfl)

theorem endPark_quiets (s : State) : Quiets s (endPark s) :=
  .head (.receiver (t := { s with receiver := { s.receiver with
    parkSince := none, parkMarked := false, parkedStatus := false, sparseHeld := false } }) rfl rfl rfl)
    (.single (.toFull _))

theorem settleInput_quiets (i : Input) (s : State) : Quiets s (settleInput i s) := by
  unfold settleInput; split
  · exact updateKey_quiets _ _ s
  · split
    · exact .single (.panel rfl)
    · exact .head (.panel (t := { s with panel := { s.panel with ignition := .off } }) rfl) (startPark_quiets _)

/-- A press recorded with its answer is made of elementary changes if the answer is. -/
theorem recordKey_quiets (k : Key) (x : Option Reason × State) (s : State) (h : Quiets s x.2) :
    Quiets s (recordKey k x) :=
  .tail (.tail h (.panel (t := { x.2 with panel := { x.2.panel with
    lastKey := some ⟨k, x.1, uptime x.2⟩ } }) rfl)) (.raise .key _)

theorem routePress_quiets (k : Key) (s : State) : Quiets s (routePress k s) := by
  unfold routePress; split
  iterate 4 exact recordKey_quiets _ _ s (pressMeter_quiets _ s)
  · exact recordKey_quiets _ _ s (acceptPress_quiets s)
  · exact .single (.panel rfl)

theorem pressKey_quiets (k : Key) (s : State) : Quiets s (pressKey k s) :=
  (updateKey_quiets k _ s).trans (routePress_quiets k _)

theorem releaseKey_quiets (k : Key) (s : State) : Quiets s (releaseKey k s) := by
  have hup := updateKey_quiets k (fun x => { x with state := .up, holdSince := none }) s
  unfold releaseKey; dsimp only; split
  · exact hup.tail (.panel rfl)
  · exact hup

theorem stickKey_quiets (k : Key) (s : State) : Quiets s (stickKey k s) := by
  have hstuck := updateKey_quiets k (fun x => { x with state := .stuck }) s
  unfold stickKey; dsimp only; split
  · exact hstuck
  · exact hstuck.tail (.raise _ _)

theorem changeIgnition_quiets (s : State) : Quiets s (changeIgnition s) := by
  have hset : Quiet s { s with panel := { s.panel with ignition := toIgnition s.panel.ignitionRaw } } := .panel rfl
  unfold changeIgnition; dsimp only; split
  · exact .head hset (endPark_quiets _)
  · exact .head hset (startPark_quiets _)

theorem markParked_quiets (s : State) : Quiets s (markParked s) :=
  .trans (.head (.receiver (t := { s with receiver := { s.receiver with parkMarked := true } }) rfl rfl rfl)
    (scheduler_quiets (t := { s with
      receiver := { s.receiver with parkMarked := true }
      scheduler := { s.scheduler with parkMark := some s.now } }) rfl rfl)) (generateStatus_quiets _)

end Sys2Proof.Machine
end

section
/-! PROOFS. The settings store, the link and the requests as elementary changes, and what every command can do: a property
that each elementary change keeps is kept by every command, if an arming, a header, a miss and the loss of sync keep it. -/

namespace Sys2Proof.Machine

/-! ### Working settings (R179) -/

/-- The ranges of the metrology read the metrology alone. -/
theorem MetrologyOk.congr {w v : Settings} (h : MetrologyOk w) (e : v.metrology = w.metrology) : MetrologyOk v where
  pulses := e ▸ h.pulses
  flagFall := e ▸ h.flagFall
  distanceStep := e ▸ h.distanceStep
  timeStep := e ▸ h.timeStep

/-- Working settings changed beside the metrology. -/
theorem updateWorking_quiets (f : Settings → Settings) (s : State)
    (h : (f s.store.working).metrology = s.store.working.metrology) : Quiets s (updateWorking f s) :=
  .single (.settings rfl (fun ok _ => ok.congr h) (.inl h))

theorem installWorking_quiets (w : Settings) (s : State)
    (ok : MetrologyOk s.store.working → MetrologyOk s.store.stored → MetrologyOk w)
    (free : w.metrology = s.store.working.metrology ∨ s.meter.state.onTrip = false) :
    Quiets s (installWorking w s) := by
  rw [installWorking_eq]
  exact .head (.settings (t := { s with store := { s.store with working := w } }) rfl ok free)
    (emergency_quiets rfl rfl)

/-- A setting outside the metrology class leaves the metrology. -/
theorem Setting.write_metrology (x : Setting) (v : SettingValue) (w w' : Settings) (h : x.write v w = some w')
    (hx : x.isMetrology = false) : w'.metrology = w.metrology := by
  cases x <;> cases v <;> simp_all [Setting.write, Setting.isMetrology] <;> grind

/-- A setting written keeps the metrology in its ranges. -/
theorem Setting.write_metrologyOk (x : Setting) (v : SettingValue) (w w' : Settings) (h : x.write v w = some w')
    (ok : MetrologyOk w) : MetrologyOk w' := by
  by_cases hx : x.isMetrology = true
  · obtain ⟨hp, hf, hd, ht⟩ := ok
    cases x <;> simp only [Setting.isMetrology, Bool.false_eq_true] at hx
    all_goals cases v <;> simp only [Setting.write, reduceCtorEq] at h
    · simp only [isPulseConstant, within, Option.ite_none_right_eq_some, Bool.or_eq_true, beq_iff_eq, Bool.and_eq_true,
        decide_eq_true_eq, Option.some.injEq] at h
      obtain ⟨hn, rfl⟩ := h
      exact ⟨hn, hf, hd, ht⟩
    · obtain ⟨b, -, rfl⟩ := Option.map_eq_some_iff.mp h
      exact ⟨hp, hf, hd, ht⟩
    · simp only [Option.ite_none_right_eq_some, Option.some.injEq] at h
      obtain ⟨-, rfl⟩ := h
      exact ⟨hp, hf, hd, ht⟩
  · exact ok.congr (x.write_metrology v w w' h (by simpa using hx))

theorem serveSettingWrite_quiets (a : SettingArgs) (s : State) : Quiets s (serveSettingWrite a s) := by
  unfold serveSettingWrite
  split
  · exact answer_quiets ..
  rename_i x _
  split
  · exact answer_quiets ..
  rename_i w hw
  split
  · exact answer_quiets ..
  split
  · exact answer_quiets ..
  rename_i htrip
  refine (installWorking_quiets w s (fun ok _ => x.write_metrologyOk _ _ _ hw ok) ?_).answered ..
  by_cases hx : x.isMetrology = true
  · exact .inr (by simpa [hx] using htrip)
  · exact .inl (x.write_metrology _ _ _ hw (by simpa using hx))

theorem Tariffs.get_put (l : Tariffs) (n m : Nat) (x : Tariff) :
    (l.put n x).get m = x ∨ (l.put n x).get m = l.get m := by
  unfold Tariffs.put Tariffs.get
  split <;> split <;> simp

/-- A tariff within the ranges of R106 keeps the metrology in its ranges. -/
theorem MetrologyOk.putTariff {w : Settings} (h : MetrologyOk w) (a : TariffArgs) (n : Nat) (x : Tariff)
    (hx : toTariff a = some x) :
    MetrologyOk { w with metrology := { w.metrology with tariffs := w.metrology.tariffs.put n x } } := by
  have hrange : x.flagFall ≤ 99999 ∧ (10 ≤ x.distanceStep ∧ x.distanceStep ≤ 2000) ∧
      5 ≤ x.timeStep ∧ x.timeStep ≤ 600 := by
    unfold toTariff at hx
    split at hx
    · simp only [Option.ite_none_right_eq_some, within, Bool.and_eq_true, decide_eq_true_eq, Option.some.injEq] at hx
      obtain ⟨h, rfl⟩ := hx
      dsimp only
      omega
    · simp at hx
  have hget := w.metrology.tariffs.get_put n (x := x)
  refine ⟨h.pulses, fun m => ?_, fun m => ?_, fun m => ?_⟩ <;> dsimp only <;> rcases hget m with e | e <;> rw [e]
  · exact hrange.1
  · exact h.flagFall m
  · exact hrange.2.1
  · exact h.distanceStep m
  · exact hrange.2.2
  · exact h.timeStep m

theorem serveTariffWrite_quiets (a : TariffArgs) (s : State) : Quiets s (serveTariffWrite a s) := by
  unfold serveTariffWrite
  split
  · exact answer_quiets ..
  split
  · exact answer_quiets ..
  rename_i x hx
  split
  · exact answer_quiets ..
  split
  · exact answer_quiets ..
  rename_i htrip
  refine Quiets.answered (.single ?_) ..
  exact .settings rfl (fun ok _ => ok.putTariff a a.number x hx) (.inr (by simpa using htrip))

theorem MetrologyOk.putRow {w : Settings} (h : MetrologyOk w) (day : DayType) (row : List Nat) :
    MetrologyOk { w with metrology := w.metrology.putRow day row } := by
  cases day <;> exact ⟨h.pulses, h.flagFall, h.distanceStep, h.timeStep⟩

theorem serveBandsWrite_quiets (a : BandsArgs) (s : State) : Quiets s (serveBandsWrite a s) := by
  unfold serveBandsWrite
  split
  · exact answer_quiets ..
  dsimp only
  split
  · exact answer_quiets ..
  split
  · exact answer_quiets ..
  split
  · exact answer_quiets ..
  rename_i htrip
  split
  · exact answer_quiets ..
  refine Quiets.answered (.single ?_) ..
  exact .settings rfl (fun ok _ => ok.putRow _ _) (.inr (by simpa using htrip))

theorem serveCannedWrite_quiets (a : CannedArgs) (s : State) : Quiets s (serveCannedWrite a s) := by
  unfold serveCannedWrite
  split
  · exact answer_quiets ..
  split
  · exact answer_quiets ..
  · exact (updateWorking_quiets (fun w => { w with canned := w.canned.set (a.number - 1) a.text }) s rfl).answered ..

theorem serveCommit_quiets (s : State) : Quiets s (serveCommit s) := by
  unfold serveCommit
  split
  · exact answer_quiets ..
  · apply Quiets.answered
    exact .head (.commit (t := { s with store := { s.store with commit := .pending } }) rfl)
      (.single (.dirty rfl rfl))

theorem serveRevert_quiets (s : State) : Quiets s (serveRevert s) := by
  unfold serveRevert
  split
  · exact answer_quiets ..
  split
  · exact answer_quiets ..
  rename_i htrip
  refine (installWorking_quiets _ s (fun _ ok => ok) ?_).answered ..
  by_cases hsame : s.store.working.metrology = s.store.stored.metrology
  · exact .inl hsame.symm
  · exact .inr (by simpa [uncommitted, hsame] using htrip)

theorem serveCodeEnter_quiets (code : Digits) (s : State) (hcode : ∀ n, codeLevel code s.store.working = some n → n ≤ 2) :
    Quiets s (serveCodeEnter code s) := by
  unfold serveCodeEnter
  split
  · exact answer_quiets ..
  split
  · exact answer_quiets ..
  rename_i hfree
  have hnone : s.store.lockoutEnd = none := by simpa using hfree
  split
  · apply Quiets.answered
    exact .single (.codeFailed s hnone)
  · rename_i n hn; exact Quiets.answered (.single (.codeTaken n s hnone (hcode n hn))) ..

theorem codeLevel_le (code : Digits) (w : Settings) (n : Nat) (h : codeLevel code w = some n) : n ≤ 2 := by
  unfold codeLevel at h
  split at h
  · simp only [Option.ite_none_right_eq_some, Option.some.injEq] at h; omega
  · simp only [Option.ite_none_right_eq_some, Option.some.injEq] at h; omega

/-! ### The requests of the other blocks -/

theorem servePosition_quiets (a : PositionArgs) (s : State) : Quiets s (servePosition a s) := by
  unfold servePosition
  split
  · exact answer_quiets ..
  split
  · exact answer_quiets ..
  · exact answer_quiets ..
  · apply Quiets.answered
    exact (storeFix_quiets _ s).trans (applyLookup_quiets _ _)

theorem loadRect_quiets (s : State) (r : Rect) : Quiets s (loadRect s r) :=
  (updateWorking_quiets (fun w => { w with zones := w.zones.set s.locator.loadPointer (some r) }) s rfl).tail
    (.locator rfl)

theorem serveZoneLoad_quiets (l : List RectArgs) (s : State) : Quiets s (serveZoneLoad l s) := by
  unfold serveZoneLoad
  split
  · exact answer_quiets ..
  split
  · exact answer_quiets ..
  split
  · exact answer_quiets ..
  split
  · exact answer_quiets ..
  · exact (Quiets.foldl loadRect_quiets _ s).answered ..

theorem serveZonePoint_quiets (n : Nat) (s : State) : Quiets s (serveZonePoint n s) := by
  unfold serveZonePoint
  split
  · exact answer_quiets ..
  split
  · exact answer_quiets ..
  · apply Quiets.answered
    exact .single (.locator rfl)

theorem serveZoneClear_quiets (s : State) : Quiets s (serveZoneClear s) := by
  unfold serveZoneClear
  split
  · exact answer_quiets ..
  · apply Quiets.answered
    exact .tail (updateWorking_quiets (fun w => { w with zones := List.replicate 64 none }) s rfl)
      (.locator rfl)

theorem serveZoneRead_quiets (a : ZoneReadArgs) (s : State) : Quiets s (serveZoneRead a s) := by
  unfold serveZoneRead
  split
  · exact answer_quiets ..
  split <;> exact answer_quiets ..

theorem servePanelStatus_quiets (n : Nat) (s : State) : Quiets s (servePanelStatus n s) := by
  unfold servePanelStatus
  split
  · exact answer_quiets ..
  · exact answer_quiets ..
  · apply Quiets.answered
    exact .single (.panel rfl)

theorem serveUplinkStatus_quiets (s : State) : Quiets s (serveUplinkStatus s) := by
  apply Quiets.answered
  exact scheduler_quiets rfl rfl

theorem serveBoardRead_quiets (s : State) : Quiets s (serveBoardRead s) := by
  apply Quiets.answered
  exact .single (.boardRead s)

theorem serveOfferFocus_quiets (n : Nat) (s : State) : Quiets s (serveOfferFocus n s) := by
  unfold serveOfferFocus
  split
  · exact answer_quiets ..
  split
  · apply Quiets.answered
    exact .single (.board rfl rfl rfl)
  split
  · exact answer_quiets ..
  split
  · apply Quiets.answered
    exact .single (.board rfl rfl rfl)
  · exact answer_quiets ..

theorem serveOfferTake_quiets (n : Nat) (s : State) : Quiets s (serveOfferTake n s) := by
  unfold serveOfferTake
  split
  · exact answer_quiets ..
  split
  · exact answer_quiets ..
  split
  · exact answer_quiets ..
  rename_i hclaim
  split
  · exact answer_quiets ..
  split
  · exact answer_quiets ..
  split
  · exact (takeClaim_quiets _ _ s (by simpa using hclaim)).answered ..
  · exact answer_quiets ..

theorem serveOfferDismiss_quiets (n : Nat) (s : State) : Quiets s (serveOfferDismiss n s) := by
  unfold serveOfferDismiss
  split
  · exact answer_quiets ..
  split
  · exact answer_quiets ..
  split
  · exact (closeOffer_quiets _ _ s).answered ..
  · exact answer_quiets ..

theorem serveAssignmentAbandon_quiets (s : State) : Quiets s (serveAssignmentAbandon s) := by
  unfold serveAssignmentAbandon
  split
  · exact answer_quiets ..
  · apply Quiets.answered
    exact (closeOffer_quiets _ _ s).trans (autoDecline_quiets _ _)

theorem serveMeterKey_quiets (n : Nat) (s : State) : Quiets s (serveMeterKey n s) := by
  unfold serveMeterKey
  split
  · exact answer_quiets ..
  rename_i k _
  have hpress := pressMeter_quiets k s
  split
  · exact answer_quiets ..
  split <;> rename_i hp <;> rw [hp] at hpress <;> exact hpress.answered ..

theorem serveShiftOpen_quiets (driver : Nat) (s : State) : Quiets s (serveShiftOpen driver s) := by
  unfold serveShiftOpen
  split
  · exact answer_quiets ..
  split
  · exact answer_quiets ..
  · exact (changeMeter_quiets_of_work .free _ s (by simp [MeterState.onTrip]) (openShift_quiets driver)).answered ..

theorem serveShiftClose_quiets (s : State) : Quiets s (serveShiftClose s) := by
  unfold serveShiftClose
  split
  · exact answer_quiets ..
  split
  · exact answer_quiets ..
  · exact (changeMeter_quiets_of_work .off _ s (by simp [MeterState.onTrip]) closeShift_quiets).answered ..

theorem serveTimeSet_quiets (a : TimeArgs) (s : State) : Quiets s (serveTimeSet a s) := by
  unfold serveTimeSet
  split
  · exact answer_quiets ..
  split
  · exact answer_quiets ..
  split
  · exact answer_quiets ..
  · apply Quiets.answered
    exact .single (.receiver rfl rfl rfl)

theorem serveTripRead_quiets (q : TripSelector) (s : State) : Quiets s (serveTripRead q s) := by
  unfold serveTripRead
  split
  · exact answer_quiets ..
  split <;> exact answer_quiets ..

theorem serveTotalsReinit_quiets (s : State) : Quiets s (serveTotalsReinit s) := by
  unfold serveTotalsReinit
  split
  · exact answer_quiets ..
  split
  · exact answer_quiets ..
  split
  · exact answer_quiets ..
  · exact (reinitTotals_quiets s).answered ..

theorem serveInboxRead_quiets (n : Nat) (s : State) : Quiets s (serveInboxRead n s) := by
  unfold serveInboxRead
  split
  · exact answer_quiets ..
  split
  · apply Quiets.answered
    exact .single (.inbox rfl rfl)
  split <;> exact answer_quiets ..

theorem serveMessageMark_quiets (n : Nat) (s : State) : Quiets s (serveMessageMark n s) := by
  have hnumber (m : Message) : (markRead m).number = m.number := by unfold markRead; split <;> rfl
  have hreceipt (m : Message) : (markRead m).receipt = m.receipt := by unfold markRead; split <;> rfl
  unfold serveMessageMark
  split
  · exact answer_quiets ..
  split
  · exact answer_quiets ..
  · apply Quiets.answered
    exact .single (.message n markRead s hnumber (.inl fun m h => by rw [hreceipt, h]))

theorem serveMessageReply_quiets (a : ReplyArgs) (s : State) : Quiets s (serveMessageReply a s) := by
  unfold serveMessageReply
  split
  · exact answer_quiets ..
  split
  · exact answer_quiets ..
  rename_i m hm
  split
  · exact answer_quiets ..
  · exact (replyTo_quiets m a.code s (List.mem_of_find?_eq_some hm)).answered ..

theorem serveMessageDelete_quiets (n : Nat) (s : State) : Quiets s (serveMessageDelete n s) := by
  unfold serveMessageDelete
  split
  · exact answer_quiets ..
  split
  · exact answer_quiets ..
  rename_i m hm
  split
  · exact answer_quiets ..
  rename_i hq
  apply Quiets.answered
  exact .single (.deleted n s
    ⟨m, List.mem_of_find?_eq_some hm, number_of_findMessage hm, hq⟩)

theorem serveSendCanned_quiets (n : Nat) (s : State) : Quiets s (serveSendCanned n s) := by
  unfold serveSendCanned
  split
  · exact answer_quiets ..
  split
  · exact answer_quiets ..
  split
  · exact answer_quiets ..
  split
  · exact answer_quiets ..
  · exact (sendHostMessage_quiets .canned _ s (by decide)).answered ..

theorem serveSendText_quiets (x : Text) (s : State) : Quiets s (serveSendText x s) := by
  unfold serveSendText
  split
  · exact answer_quiets ..
  split
  · exact answer_quiets ..
  split
  · exact answer_quiets ..
  · exact (sendHostMessage_quiets .freetext _ s (by decide)).answered ..

theorem serveEmergencyCancel_quiets (code : Digits) (s : State) : Quiets s (serveEmergencyCancel code s) := by
  unfold serveEmergencyCancel
  split
  · exact answer_quiets ..
  split
  · exact answer_quiets ..
  rename_i hopen
  have hidle : s.emergency.state ≠ .idle := fun h => by simp [h, EmState.open] at hopen
  split
  · exact (enterCovert_quiets s hidle).answered ..
  split
  · exact (endEmergency_quiets _ s).answered ..
  · exact answer_quiets ..

theorem serveAlertClear_quiets (s : State) : Quiets s (serveAlertClear s) := by
  unfold serveAlertClear
  split
  · exact answer_quiets ..
  split
  · exact answer_quiets ..
  · apply Quiets.answered
    exact emergency_quiets rfl rfl

theorem serveSettingRead_quiets (q : SettingSelector) (s : State) : Quiets s (serveSettingRead q s) := by
  unfold serveSettingRead; split <;> exact answer_quiets ..

theorem serveFetchEvent_quiets (s : State) : Quiets s (serveFetchEvent s) := by
  unfold serveFetchEvent
  split
  · exact answer_quiets ..
  · rename_i k rest h
    apply Quiets.answered
    exact .single (.link rfl (by simp [h]))

theorem serveRestart_quiets (s : State) : Quiets s (serveRestart s) := by
  apply Quiets.answered
  exact .head (.levelDropped s) (.head (.link (t := { dropLevel s with link := { s.link with events := [] } })
    rfl (List.nil_sublist _)) (.single (.link rfl (.refl _))))

theorem serveIdentify_quiets (s : State) : Quiets s (serveIdentify s) := by
  apply Quiets.answered
  exact .single (.link rfl (.refl _))

/-! ### The link -/

theorem updateRx_quiets (f : FrameReceiver → FrameReceiver) (s : State) : Quiets s (updateRx f s) :=
  .single (.link rfl (.refl _))

theorem beginEarlyFrame_quiets (s : State) : Quiets s (beginEarlyFrame s) :=
  .head (.link (t := { s with link := { s.link with earlyCount := satAdd Config.max16 s.link.earlyCount 1 } }) rfl
    (.refl _)) (.single (.raise _ _))

theorem hunt_quiets (s : State) : Quiets s (hunt s) := updateRx_quiets _ s

theorem endReply_quiets (s : State) : Quiets s (endReply s) := by
  have hsent : Quiet s { s with link := { s.link with owed := none } } := .link rfl (.refl _)
  unfold endReply; dsimp only; split
  · exact .head hsent (hunt_quiets _)
  · exact .single hsent

end Sys2Proof.Machine
end

section
/-! PROOFS. What every command can do: the elementary changes, an arming of the emergency, a header taken, a header
missed and the loss of sync. -/

namespace Sys2Proof.Machine

/-- A property that whatever a command other than a power-on does keeps. -/
structure StepKept (P : State → Prop) : Prop where
  quiet : QuietKept P
  arms : ∀ a s, P s → P (enterActive a s)
  header : ∀ h fleet g s, judgeHeader h fleet = some g → P s → P (takeHeader g s)
  miss : ∀ s, P s → P (missHeader s)
  lost : ∀ s, P s → P (loseSync s)

namespace StepKept

variable {P : State → Prop} (k : StepKept P) {s : State} (hs : P s)
include k hs

theorem arm (a : ArmSource) : P (arm a s) := by
  unfold Machine.arm; split
  · exact k.arms a s hs
  all_goals exact k.quiet.quiets (emergency_quiets rfl rfl) hs

theorem armPanic : P (armPanic s) := k.arm (k.quiet _ _ (.panel rfl) hs) .panel

theorem endHold (key : Key) : P (endHold key s) := by
  unfold Machine.endHold; split
  · exact k.quiet.quiets (releaseKey_quiets _ _) (k.armPanic hs)
  · exact k.quiet.quiets (releaseKey_quiets _ _) hs

theorem remoteReset : P (remoteReset s) := by
  by_cases h : s.emergency.state = .idle
  · exact k.quiet.quiets (remoteReset_quiets s h) (k.lost s hs)
  · rwa [remoteReset_ignored s h]

/-- A request handed on keeps what its service keeps. -/
theorem handOn {α : Type} (tag : Tag) (p : Payload α) (serve : α → State → State) (h : ∀ a, Quiets s (serve a s)) :
    P (handOn tag p serve s) := by
  cases p with
  | wrongSize _ => exact k.quiet.quiets (answer_quiets ..) hs
  | fields a => exact k.quiet.quiets (h a) hs

theorem serveRequest (c : Instr) : P (serveRequest c s) := by
  have answered (tag : Tag) (r : Result) (l : List Field) := answer_quiets tag r l s
  cases c with
  | linkStatus p => exact k.handOn hs _ p _ fun _ => answered ..
  | uplinkStatus p => exact k.handOn hs _ p _ fun _ => serveUplinkStatus_quiets s
  | position p => exact k.handOn hs _ p _ fun a => servePosition_quiets a s
  | zoneLoad p => exact k.handOn hs _ p _ fun a => serveZoneLoad_quiets a s
  | zonePoint p => exact k.handOn hs _ p _ fun a => serveZonePoint_quiets a s
  | zoneClear p => exact k.handOn hs _ p _ fun _ => serveZoneClear_quiets s
  | zoneRead p => exact k.handOn hs _ p _ fun a => serveZoneRead_quiets a s
  | zoneStatus p => exact k.handOn hs _ p _ fun _ => answered ..
  | panelStatus p => exact k.handOn hs _ p _ fun a => servePanelStatus_quiets a s
  | boardRead p => exact k.handOn hs _ p _ fun _ => serveBoardRead_quiets s
  | offerTake p => exact k.handOn hs _ p _ fun a => serveOfferTake_quiets a s
  | offerDismiss p => exact k.handOn hs _ p _ fun a => serveOfferDismiss_quiets a s
  | offerFocus p => exact k.handOn hs _ p _ fun a => serveOfferFocus_quiets a s
  | assignmentAbandon p => exact k.handOn hs _ p _ fun _ => serveAssignmentAbandon_quiets s
  | meterStatus p => exact k.handOn hs _ p _ fun _ => answered ..
  | meterKey p => exact k.handOn hs _ p _ fun a => serveMeterKey_quiets a s
  | shiftOpen p => exact k.handOn hs _ p _ fun a => serveShiftOpen_quiets a s
  | shiftClose p => exact k.handOn hs _ p _ fun _ => serveShiftClose_quiets s
  | timeSet p => exact k.handOn hs _ p _ fun a => serveTimeSet_quiets a s
  | tripRead p => exact k.handOn hs _ p _ fun a => serveTripRead_quiets a s
  | totalsRead p => exact k.handOn hs _ p _ fun _ => answered ..
  | totalsReinit p => exact k.handOn hs _ p _ fun _ => serveTotalsReinit_quiets s
  | inboxRead p => exact k.handOn hs _ p _ fun a => serveInboxRead_quiets a s
  | messageMark p => exact k.handOn hs _ p _ fun a => serveMessageMark_quiets a s
  | messageReply p => exact k.handOn hs _ p _ fun a => serveMessageReply_quiets a s
  | messageDelete p => exact k.handOn hs _ p _ fun a => serveMessageDelete_quiets a s
  | sendCanned p => exact k.handOn hs _ p _ fun a => serveSendCanned_quiets a s
  | sendText p => exact k.handOn hs _ p _ fun a => serveSendText_quiets a s
  | emergencyRaise p =>
    cases p with
    | wrongSize _ => exact k.quiet.quiets (answered ..) hs
    | fields _ => exact k.quiet.quiets (answer_quiets ..) (k.arm hs .host)
  | emergencyCancel p => exact k.handOn hs _ p _ fun a => serveEmergencyCancel_quiets a s
  | emergencyStatus p => exact k.handOn hs _ p _ fun _ => answered ..
  | alertClear p => exact k.handOn hs _ p _ fun _ => serveAlertClear_quiets s
  | codeEnter p => exact k.handOn hs _ p _ fun a => serveCodeEnter_quiets a s (codeLevel_le a _)
  | levelDrop p =>
    exact k.handOn hs _ p (fun _ s => answer .ldrp .ok [] (dropLevel s)) fun _ =>
      Quiets.answered (.single (.levelDropped s)) ..
  | settingWrite p => exact k.handOn hs _ p _ fun a => serveSettingWrite_quiets a s
  | settingRead p => exact k.handOn hs _ p _ fun a => serveSettingRead_quiets a s
  | tariffWrite p => exact k.handOn hs _ p _ fun a => serveTariffWrite_quiets a s
  | bandsWrite p => exact k.handOn hs _ p _ fun a => serveBandsWrite_quiets a s
  | cannedWrite p => exact k.handOn hs _ p _ fun a => serveCannedWrite_quiets a s
  | commit p => exact k.handOn hs _ p _ fun _ => serveCommit_quiets s
  | revert p => exact k.handOn hs _ p _ fun _ => serveRevert_quiets s
  | fetchEvent p => exact k.handOn hs _ p _ fun _ => serveFetchEvent_quiets s
  | restart p => exact k.handOn hs _ p _ fun _ => serveRestart_quiets s
  | identify p => exact k.handOn hs _ p _ fun _ => serveIdentify_quiets s
  | unknownRequest t0 t1 t2 t3 => exact k.quiet.quiets (answered ..) hs
  | _ => exact hs

omit hs in
theorem bytes : KeptByBytes P where
  receiver f t h := k.quiet.quiets (updateRx_quiets f t) h
  early _ h := k.quiet.quiets (beginEarlyFrame_quiets _) h
  bad _ h := k.quiet.quiets (answer_quiets ..) h
  served c _ h := k.serveRequest h c

/-- What a clocked step keeps. -/
theorem atInstant (due : Option Nat) (effect : State → State)
    (h : ∀ t, due = some t → P (advanceTo t s) → P (effect (advanceTo t s))) : P (atInstant due effect s) := by
  cases due with
  | none => exact hs
  | some t => exact h t rfl (k.quiet _ _ (.clock t s) hs)

/-- What a clocked step of elementary changes keeps. -/
theorem atInstant_of_quiets (due : Option Nat) (effect : State → State) (h : ∀ t, Quiets t (effect t)) :
    P (Machine.atInstant due effect s) := k.atInstant hs due effect fun _ _ ht => k.quiet.quiets (h _) ht

/-- What an item that is handed on in elementary changes keeps. -/
theorem takeItem (head : ItemHead) (fieldsOk : Bool) (allowed : Target → Bool) (offer : Bool)
    (hand : Target → State → State) (h : ∀ g t, Quiets t (hand g t)) :
    P (Machine.takeItem head fieldsOk allowed offer hand s) :=
  k.quiet.takeItem head fieldsOk allowed offer hand (fun g _ ht => k.quiet.quiets (h g _) ht) s hs

omit hs in
theorem cycleHeader (h : HeaderBlock) (s : State) (hs : P s) : P (whenPowered (arriveHeader h) s) := by
  unfold whenPowered arriveHeader
  split
  · split
    · exact hs
    · rename_i g hg
      unfold hearHeader
      split
      · exact k.header h _ g s hg hs
      · exact k.quiet _ _ (.receiver rfl rfl rfl) hs
  · exact hs

/-- What the sending of a beacon keeps. -/
theorem beacon : P (Machine.atInstant (beaconDue s) sendBeacon s) := by
  refine k.atInstant hs _ _ fun t ht hq => k.quiet.quiets (sendBeacon_quiets _ ?_) hq
  simp only [beaconDue, dueWhen, voiceGrant, Option.ite_none_right_eq_some, Bool.and_eq_true, Bool.not_eq_true',
    beq_eq_false_iff_ne] at ht
  exact ht.1.2

theorem windowOpens : P (Machine.atInstant (windowOpenDue s)
    (fun s => { s with receiver := { s.receiver with windowOpen := true, stretches := 0 } }) s) := by
  refine k.atInstant hs _ _ fun t ht hq => k.quiet _ _ (.windowOpened _ ?_) hq
  simp only [windowOpenDue, Option.ite_none_right_eq_some, Option.map_eq_some_iff] at ht
  obtain ⟨-, p, hp, -⟩ := ht
  exact Option.ne_none_iff_exists'.mpr ⟨p, hp⟩

theorem windowStretches : P (Machine.atInstant (windowStretchDue s)
    (fun s => { s with receiver := { s.receiver with stretches := s.receiver.stretches + 1 } }) s) := by
  refine k.atInstant hs _ _ fun t ht hq => k.quiet _ _ (.windowStretched _ ?_) hq
  simp only [windowStretchDue, Option.ite_none_right_eq_some] at ht
  exact ht.1.2.2

theorem entersSparse : P (Machine.atInstant (enterSparseDue s) enterSparse s) := by
  refine k.atInstant hs _ _ fun t ht hq => k.quiet _ _ (.toSparse _ ?_) hq
  simp only [enterSparseDue, dueWhen, Option.ite_none_right_eq_some, Bool.and_eq_true] at ht
  exact ht.1.2

/-- Every command but a power-on keeps what the elementary changes, an arming, a header, a miss and a loss of sync
keep. -/
theorem exec (c : Instr) (t : State) (hc : c ≠ .powerOn) (h : exec c s = .next t) : P t := by
  have quiet {u : State} (hu : Quiets s u) : P u := k.quiet.quiets hu hs
  have requested (c : Instr) : P (request c s) := k.bytes.request c s hs
  cases c with
  | powerOn => exact absurd rfl hc
  | powerLoss =>
    obtain rfl := Host.Outcome.next.inj h
    exact quiet (whenPowered_quiets _ s (.single (.loss s)))
  | cycleHeader hd => obtain rfl := Host.Outcome.next.inj h; exact k.cycleHeader hd s hs
  | windowOpen => obtain rfl := Host.Outcome.next.inj h; exact k.windowOpens hs
  | windowStretch => obtain rfl := Host.Outcome.next.inj h; exact k.windowStretches hs
  | missedHeader => obtain rfl := Host.Outcome.next.inj h; exact k.atInstant hs _ _ fun _ _ => k.miss _
  | offer head o =>
    obtain rfl := Host.Outcome.next.inj h
    exact k.takeItem hs _ _ _ _ _ fun g t => receiveOffer_quiets _ _ _ _ t
  | withdraw head n =>
    obtain rfl := Host.Outcome.next.inj h
    exact k.takeItem hs _ _ _ _ _ fun _ t => receiveWithdraw_quiets n t
  | award head n =>
    obtain rfl := Host.Outcome.next.inj h
    exact k.takeItem hs _ _ _ _ _ fun _ t => receiveAward_quiets n t
  | lost head n =>
    obtain rfl := Host.Outcome.next.inj h
    exact k.takeItem hs _ _ _ _ _ fun _ t => receiveLost_quiets n t
  | text head x =>
    obtain rfl := Host.Outcome.next.inj h
    exact k.takeItem hs _ _ _ _ _ fun _ t => receiveText_quiets _ _ _ t
  | page head => obtain rfl := Host.Outcome.next.inj h; exact k.takeItem hs _ _ _ _ _ fun _ _ => .refl
  | emergAck head =>
    obtain rfl := Host.Outcome.next.inj h
    exact k.takeItem hs _ _ _ _ _ fun _ t => receiveEmergAck_quiets t
  | standDown head =>
    obtain rfl := Host.Outcome.next.inj h
    exact k.takeItem hs _ _ _ _ _ fun _ t => receiveStandDown_quiets t
  | remoteReset head =>
    obtain rfl := Host.Outcome.next.inj h
    exact k.quiet.takeItem _ _ _ _ _ (fun _ _ ht => k.remoteReset ht) s hs
  | hostResetPulseEnd =>
    obtain rfl := Host.Outcome.next.inj h
    exact k.atInstant_of_quiets hs _ _ fun t => .single (.link rfl (.refl _))
  | slotStart slot draw =>
    obtain rfl := Host.Outcome.next.inj h
    exact k.atInstant_of_quiets hs _ _ fun t => beginSlot_quiets _ _ t
  | transmissionEnd =>
    obtain rfl := Host.Outcome.next.inj h
    exact quiet (.ite (.single (.transmissionEnded s)) .refl)
  | claimDeadline n =>
    obtain rfl := Host.Outcome.next.inj h; exact k.atInstant_of_quiets hs _ _ fun t => expireClaim_quiets n t
  | statusTimerExpiry =>
    obtain rfl := Host.Outcome.next.inj h
    exact k.atInstant_of_quiets hs _ _ fun t => .trans (scheduler_quiets
      (t := { t with scheduler := { t.scheduler with statusSince := t.now } }) rfl rfl) (generateStatus_quiets _)
  | emergencyBeacon => obtain rfl := Host.Outcome.next.inj h; exact k.beacon hs
  | parkTimer60s =>
    obtain rfl := Host.Outcome.next.inj h; exact k.atInstant_of_quiets hs _ _ fun t => markParked_quiets t
  | enterSparse => obtain rfl := Host.Outcome.next.inj h; exact k.entersSparse hs
  | timeOfDaySecond =>
    obtain rfl := Host.Outcome.next.inj h
    exact k.atInstant_of_quiets hs _ _ fun t => .single (.receiver rfl rfl rfl)
  | voiceReqAsserted =>
    obtain rfl := Host.Outcome.next.inj h
    split
    · exact hs
    · rename_i hreq; exact k.quiet _ _ (.voiceAsserted s (by simpa using hreq)) hs
  | voiceReqReleased =>
    obtain rfl := Host.Outcome.next.inj h
    exact quiet (.ite (.single (.voiceReleased s)) .refl)
  | fixStale => obtain rfl := Host.Outcome.next.inj h; exact k.atInstant_of_quiets hs _ _ fun t => makeStale_quiets t
  | fixLost => obtain rfl := Host.Outcome.next.inj h; exact k.atInstant_of_quiets hs _ _ fun t => makeLost_quiets t
  | inputRawChange i level => obtain rfl := Host.Outcome.next.inj h; exact quiet (changeRaw_quiets i level s)
  | firstRecognisedLevel i =>
    obtain rfl := Host.Outcome.next.inj h; exact k.atInstant_of_quiets hs _ _ fun t => settleInput_quiets i t
  | keyPress key =>
    obtain rfl := Host.Outcome.next.inj h; exact k.atInstant_of_quiets hs _ _ fun t => pressKey_quiets key t
  | keyRelease key =>
    obtain rfl := Host.Outcome.next.inj h; exact k.atInstant hs _ _ fun _ _ ht => k.endHold ht key
  | panicArming => obtain rfl := Host.Outcome.next.inj h; exact k.atInstant hs _ _ fun _ _ ht => k.armPanic ht
  | keyStuck key =>
    obtain rfl := Host.Outcome.next.inj h; exact k.atInstant_of_quiets hs _ _ fun t => stickKey_quiets key t
  | ignitionChange =>
    obtain rfl := Host.Outcome.next.inj h; exact k.atInstant_of_quiets hs _ _ fun t => changeIgnition_quiets t
  | odometerPulse =>
    obtain rfl := Host.Outcome.next.inj h; exact quiet (whenPowered_quiets _ s (.single (.panel rfl)))
  | offerExpiry n =>
    obtain rfl := Host.Outcome.next.inj h; exact k.atInstant_of_quiets hs _ _ fun t => closeOffer_quiets n _ t
  | noAnswer n =>
    obtain rfl := Host.Outcome.next.inj h; exact k.atInstant_of_quiets hs _ _ fun t => closeOffer_quiets n _ t
  | resumeWindowClose =>
    obtain rfl := Host.Outcome.next.inj h
    exact k.atInstant_of_quiets hs _ _ fun t => .single (.meter rfl rfl rfl)
  | meterSecond =>
    obtain rfl := Host.Outcome.next.inj h; exact k.atInstant_of_quiets hs _ _ fun t => endMeterSecond_quiets t
  | tripReportPlacement =>
    obtain rfl := Host.Outcome.next.inj h; exact k.atInstant_of_quiets hs _ _ fun t => placeTripReport_quiets t
  | reportHoldOffEnd n =>
    obtain rfl := Host.Outcome.next.inj h
    exact k.atInstant_of_quiets hs _ _ fun t => updateRecord_quiets n _ t fun _ => ⟨rfl, rfl⟩
  | totalsPeriodEnd =>
    obtain rfl := Host.Outcome.next.inj h; exact k.atInstant_of_quiets hs _ _ fun t => endTotalsPeriod_quiets t
  | storeWriteStart =>
    obtain rfl := Host.Outcome.next.inj h; exact k.atInstant_of_quiets hs _ _ fun t => .single (.writeStarted t)
  | storeWriteComplete =>
    obtain rfl := Host.Outcome.next.inj h; exact quiet (whenPowered_quiets _ s (.single (.writeCompleted s)))
  | receiptPlacement =>
    obtain rfl := Host.Outcome.next.inj h; exact k.atInstant_of_quiets hs _ _ fun t => placeReceipts_quiets t
  | reportTimerExpiry =>
    obtain rfl := Host.Outcome.next.inj h; exact k.atInstant_of_quiets hs _ _ fun t => placeReport_quiets t
  | lockoutEnd =>
    obtain rfl := Host.Outcome.next.inj h; exact k.atInstant_of_quiets hs _ _ fun t => .single (.lockoutEnded t)
  | unknownRequest t0 t1 t2 t3 =>
    obtain rfl := Host.Outcome.next.inj h
    split
    · exact hs
    · exact k.bytes.unknown (fun u hu => k.quiet _ _ (.index rfl) hu) t0 t1 t2 t3 s hs
  | badFrame l => obtain rfl := Host.Outcome.next.inj h; exact k.bytes.receiveBytes l s hs
  | earlyFrame l =>
    obtain rfl := Host.Outcome.next.inj h
    split
    · exact k.bytes.receiveBytes l s hs
    · exact hs
  | frameAbandon => obtain rfl := Host.Outcome.next.inj h; exact k.atInstant_of_quiets hs _ _ fun t => hunt_quiets t
  | replyComplete => obtain rfl := Host.Outcome.next.inj h; exact k.atInstant_of_quiets hs _ _ fun t => endReply_quiets t
  | _ => obtain rfl := Host.Outcome.next.inj h; exact requested _

end StepKept

end Sys2Proof.Machine
end

section
/-! PROOFS. What suffices for a property to be kept by every step: by an arming, a header taken, a header missed, a
loss of sync and a power-on. -/

namespace Sys2Proof.Machine

/-! ### An arming -/

/-- The entry into ACTIVE but for its first act, the emergency's own state. -/
def activeEntered (s : State) : State :=
  setMark .active (flagTrip (raise .emergency (latchIfLatched
    (placeEntry .emergency 0 .none none (returnToFull (voiceAtActive (suppressBoard s)))))))

/-- The emergency of an entry into ACTIVE. -/
def armed (a : ArmSource) (s : State) : Emergency :=
  { s.emergency with
    state := .active, acknowledged := false, sources := addSource a noSources
    onset := some s.now, reportSince := none }

theorem enterActive_eq (a : ArmSource) (s : State) :
    enterActive a s = activeEntered { s with emergency := armed a s } := rfl

theorem activeEntered_quiets (s : State) : Quiets s (activeEntered s) :=
  .trans (suppressBoard_quiets s) <| .trans (voiceAtActive_quiets _) <| .head (.toFull _) <|
    .head (.placed .emergency 0 .none none _ (by decide)) <| .trans (latchIfLatched_quiets _) <|
    .head (.raise .emergency _) <| .trans (flagTrip_quiets _) (setMark_quiets _ _)

/-- What a change of the emergency keeps, an arming keeps. -/
theorem QuietKept.enterActive {P : State → Prop} (k : QuietKept P)
    (emergency : ∀ e s, P s → P { s with emergency := e }) (a : ArmSource) (s : State) (hs : P s) :
    P (enterActive a s) := k.quiets (activeEntered_quiets _) (emergency _ s hs)

/-! ### Headers and sync -/

/-- The receiver of a good header taken, before sync becomes LOCKED. -/
def headed (g : GoodHeader) (s : State) : Receiver :=
  { anchored g s.now (predictedSpan g.cycle s) (installedMap g s) s.receiver with
    cycleListened := headerListened g s, listenAddress := s.store.working.address }

/-- The state of a good header taken, before sync becomes LOCKED. -/
def headerTaken (g : GoodHeader) (s : State) : State :=
  { s with
    receiver := headed g s
    scheduler := { s.scheduler with
      contentionUsed := false
      lastBeacon := if s.receiver.sync = .search then none else s.scheduler.lastBeacon } }

theorem takeHeader_eq (g : GoodHeader) (s : State) :
    takeHeader g s = headerReport g.cycle g.heard (setSync .locked (headerTaken g s)) := rfl

/-- The state of a loss of sync, before sync goes to SEARCH. -/
def syncLost (s : State) : State :=
  { s with receiver := { s.receiver with
      searchSince := if s.receiver.sync = .search then s.receiver.searchSince else s.now
      expected := none, slotMap := none, windowOpen := false, stretches := 0, itemsOpen := false } }

theorem loseSync_eq (s : State) : loseSync s = setSync .search (syncLost s) := rfl

/-- The receiver of a header expected at an instant and missed, with the report of the miss. -/
def missTold (p : Nat) (s : State) : State :=
  let t := missReport { s with receiver := missed p s.receiver }
  { t with scheduler := { t.scheduler with contentionUsed := false } }

theorem missHeader_expected (s : State) (p : Nat) (h : s.receiver.expected = some p) :
    missHeader s = settleMiss (missTold p s) := by simp only [missHeader, h]; rfl

theorem missHeader_unexpected (s : State) (h : s.receiver.expected = none) : missHeader s = s := by
  simp only [missHeader, h]

theorem missReport_quiets (s : State) : Quiets s (missReport s) := report_quiets _ s

theorem contentionFreed_quiets (s : State) :
    Quiets s { s with scheduler := { s.scheduler with contentionUsed := false } } := scheduler_quiets rfl rfl

/-- A property that a change of the receiver keeps which leaves watch, voice and transmission. -/
abbrev TrackingBlind (P : State → Prop) : Prop :=
  ∀ r s, r.air = s.receiver.air → P s → P { s with receiver := r }

namespace QuietKept

variable {P : State → Prop} (k : QuietKept P) (blind : TrackingBlind P)
include k blind

theorem setSync (y : Sync) (s : State) (hs : P s) : P (setSync y s) := by
  have changed := blind { s.receiver with sync := y } s rfl hs
  unfold Machine.setSync; dsimp only; split
  · exact changed
  · exact k _ _ (.raise .link _) changed

theorem takeHeader (g : GoodHeader) (s : State) (hs : P s) : P (takeHeader g s) :=
  have taken : P (headerTaken g s) :=
    k.quiets (scheduler_quiets (s := { s with receiver := headed g s }) rfl rfl) (blind _ s rfl hs)
  k.quiets (report_quiets _ _) (k.setSync blind .locked _ taken)

theorem loseSync (s : State) (hs : P s) : P (loseSync s) := k.setSync blind .search (syncLost s) (blind _ s rfl hs)

theorem settleMiss (s : State) (hs : P s) : P (settleMiss s) := by
  have expecting : P (expectNext s) := blind _ s rfl hs
  unfold Machine.settleMiss; split
  · exact k.setSync blind .coast _ expecting
  · split
    · exact k.quiets (giveUpGrants_quiets _) (k.setSync blind .search _ (blind _ s rfl hs))
    · exact expecting

theorem missHeader (s : State) (hs : P s) : P (missHeader s) := by
  cases h : s.receiver.expected with
  | none => rwa [missHeader_unexpected s h]
  | some p =>
    rw [missHeader_expected s p h]
    exact k.settleMiss blind _ (k.quiets (contentionFreed_quiets _) (k.quiets (missReport_quiets _) (blind _ s rfl hs)))

omit blind in
/-- What the elementary changes, a change of the emergency and one of sync tracking keep, every command keeps. -/
theorem stepKept (blind : TrackingBlind P) (emergency : ∀ e s, P s → P { s with emergency := e }) : StepKept P where
  quiet := k
  arms := k.enterActive emergency
  header _ _ g s _ := k.takeHeader blind g s
  miss := k.missHeader blind
  lost := k.loseSync blind

end QuietKept

/-! ### A power-on -/

/-- The nonvolatile memory as a power-on finds it: a write in progress is settled where the reset pin and not a loss
ends it. -/
def settled (s : State) : State := if s.powered then settleWrite s else s

/-- The part after the loading of the settings and the totals. -/
def loadedStore (s : State) : State := loadTotals (loadSettings (blank s))

/-- The part after the loading of a power-on. -/
def loaded (s : State) : State := loadCheckpoint (loadLog (loadedStore s))

/-- The part after the work of a power-on but for a voice request found asserted. -/
def recovered (s : State) : State := startMeter (loadMark (recoverTrip (repairTotals (repairLog (loaded s)))))

theorem exec_powerOn (s : State) : exec .powerOn s = .next (findVoice (recovered (settled s))) := rfl

theorem repairLog_quiets (s : State) : Quiets s (repairLog s) := by
  unfold repairLog; split
  · exact .refl
  · split
    · rename_i h; exact appendRecord_quiets _ s h.2.symm
    · exact .refl

theorem repairTotals_quiets (s : State) : Quiets s (repairTotals s) := by
  unfold repairTotals; split
  · split
    · exact .refl
    · exact .trans (Quiets.foldl (fun _ _ => updateTotals_quiets _ _) _ s) (markTotals_quiets _)
  · exact .refl

theorem recoverTrip_quiets (s : State) : Quiets s (recoverTrip s) := by
  unfold recoverTrip; split
  · exact .trans (closeIntoAccounts_quiets _ s) (markCheckpoint_quiets _)
  · exact .refl

theorem resumeEmergency_quiets (state : EmState) (mark : MarkKind) (s : State) (h : s.receiver.watch = .full) :
    Quiets s (resumeEmergency state mark s) :=
  .head (.emergency (t := { s with emergency := { s.emergency with
    state := state, sources := ⟨false, false, true⟩, onset := some s.now, mark := mark } }) rfl (.inr (.inr h)))
    (.single (.placed .emergency 0 .none none _ (by decide)))

theorem loadMark_quiets (s : State) (h : s.receiver.watch = .full) : Quiets s (loadMark s) := by
  have active : Quiets s (resumeActive s) :=
    .trans (resumeEmergency_quiets .active .active s h) ((latchIfLatched_quiets _).tail (.raise .emergency _))
  unfold loadMark; split
  · exact .refl
  · exact active
  · exact resumeEmergency_quiets .covert .covert s h
  · exact (active.trans (setMark_quiets .active _)).tail (.raise .fault _)

theorem startMeter_quiets (s : State) : Quiets s (startMeter s) := by
  refine .single (.meterState _ s.meter.secondSince s fun h => absurd h ?_)
  split <;> simp [MeterState.onTrip]

theorem loadedStore_receiver (s : State) : (loadedStore s).receiver = { resetReceiver with voiceReq := s.receiver.voiceReq } := by
  unfold loadedStore loadTotals loadSettings
  split <;> split <;> rfl

theorem loaded_receiver (s : State) : (loaded s).receiver = { resetReceiver with voiceReq := s.receiver.voiceReq } := by
  simp [loaded, loadedStore_receiver]

theorem recovered_quiets (s : State) : Quiets (loaded s) (recovered s) :=
  .trans (repairLog_quiets _) <| .trans (repairTotals_quiets _) <| .trans (recoverTrip_quiets _) <|
    .trans (loadMark_quiets _ (by simp [loaded_receiver]; rfl)) (startMeter_quiets _)

theorem findVoice_quiets (s : State) (powered : s.powered = true) : Quiets (setVoiceReq false s) (findVoice s) := by
  unfold findVoice; split
  · rename_i h
    have asserted := Quiet.voiceAsserted (setVoiceReq false s) rfl
    have same : setVoiceReq true (setVoiceReq false s) = s := by
      unfold setVoiceReq; rw [← h]
    rw [same, whenPowered, if_pos powered] at asserted
    exact .single asserted
  · rename_i h
    have same : setVoiceReq false s = s := by
      unfold setVoiceReq; rw [← Bool.eq_false_iff.mpr h]
    rw [same]

theorem loaded_powered (s : State) : (loaded s).powered = true := by
  simp [loaded, loadedStore]; rfl

theorem recovered_powered (s : State) : (recovered s).powered = true := by
  simp [recovered, loaded_powered]

/-- A power-on keeps what its loading makes true, where the voice pin has no part in it. -/
theorem QuietKept.powerOn {P : State → Prop} (k : QuietKept P) (pin : ∀ b s, P s → P (setVoiceReq b s)) {s t : State}
    (loading : P (loaded (settled s))) (h : exec .powerOn s = .next t) : P t := by
  obtain rfl := Host.Outcome.next.inj h
  exact k.quiets (findVoice_quiets _ (recovered_powered _)) (pin _ _ (k.quiets (recovered_quiets _) loading))

/-! ### A step -/

/-- What every command keeps, a power-on among them, every step keeps. -/
theorem StepKept.step {P : State → Prop} (k : StepKept P) (queue : ∀ l s, P s → P { s with pending := l })
    (powerOn : ∀ s t, Machine.exec .powerOn s = .next t → P s → P t) {s t : State} (h : Machine.step s = .next t) (hs : P s) :
    P t := by
  unfold Machine.step at h
  split at h
  · obtain rfl := Host.Outcome.next.inj h
    unfold idle; split
    · split
      · rw [show { s with now := s.now + 1 } = advanceTo (s.now + 1) s by simp [advanceTo]]
        exact k.quiet _ _ (.clock _ s) hs
      · exact queue _ _ (k.quiet s _ (.index (t := { s with freeIndex := s.freeIndex + 1 }) rfl) hs)
    · exact hs
  · rename_i c rest _
    by_cases on : c = .powerOn
    · subst on; exact powerOn _ _ h (queue _ _ hs)
    · exact k.exec (queue _ _ hs) c t on h

end Sys2Proof.Machine
end

section
/-! PROOFS. The standing rules: the event order, the access levels, the voice handshake and SPARSE watch. -/

namespace Sys2Proof.Machine

/-! ### What a loss and the voice pin leave -/

@[simp] theorem losePower_events (s : State) : (losePower s).link.events = s.link.events := by
  unfold losePower; split <;> rfl

@[simp] theorem voiceAsserted_frame (s : State) :
    SameCore s (whenPowered requestVoice (setVoiceReq true s)) ∧
    SameInputs s (whenPowered requestVoice (setVoiceReq true s)) ∧
    SameBooks s (whenPowered requestVoice (setVoiceReq true s)) ∧
    SameTalk s (whenPowered requestVoice (setVoiceReq true s)) ∧
    (whenPowered requestVoice (setVoiceReq true s)).scheduler = s.scheduler ∧
    (whenPowered requestVoice (setVoiceReq true s)).link = s.link := by
  unfold whenPowered; split <;> simp [SameCore, SameInputs, SameBooks, SameTalk]

@[simp] theorem losePower_watch (s : State) : (losePower s).receiver.watch = s.receiver.watch := by
  unfold losePower; split <;> rfl

@[simp] theorem endTransmission_watch (s : State) : (endTransmission s).receiver.watch = s.receiver.watch := by
  unfold endTransmission; dsimp only; split <;> rfl

@[simp] theorem voiceAsserted_watch (s : State) :
    (whenPowered requestVoice (setVoiceReq true s)).receiver.watch = s.receiver.watch := by
  unfold whenPowered requestVoice grantVoice; (repeat' split) <;> rfl

@[simp] theorem voiceReleased_watch (s : State) :
    (whenPowered (setVoice .idle) (setVoiceReq false s)).receiver.watch = s.receiver.watch := by
  unfold whenPowered; split <;> rfl

@[simp] theorem voiceReleased_frame (s : State) :
    SameCore s (whenPowered (setVoice .idle) (setVoiceReq false s)) ∧
    SameInputs s (whenPowered (setVoice .idle) (setVoiceReq false s)) ∧
    SameBooks s (whenPowered (setVoice .idle) (setVoiceReq false s)) ∧
    SameTalk s (whenPowered (setVoice .idle) (setVoiceReq false s)) ∧
    (whenPowered (setVoice .idle) (setVoiceReq false s)).scheduler = s.scheduler ∧
    (whenPowered (setVoice .idle) (setVoiceReq false s)).link = s.link := by
  unfold whenPowered; split <;> simp [SameCore, SameInputs, SameBooks, SameTalk]

/-! ### A placement, for a property that does not read the queue -/

/-- A property that the queue has no part in, nor the hold on the SPARSE test. -/
abbrev QueueBlind (P : State → Prop) : Prop :=
  ∀ q s, P s → P { s with receiver := { s.receiver with sparseHeld := false }
                          scheduler := { s.scheduler with queue := q } }

theorem placeEntry_kept {P : State → Prop} (blind : QueueBlind P) (full : ∀ s, P s → P (returnToFull s))
    (kind : EntryKind) (key : Nat) (content : EntryContent) (deadline : Option Nat) {s : State} (h : P s) :
    P (placeEntry kind key content deadline s) := by
  unfold placeEntry; split
  · exact full _ (blind _ s h)
  all_goals exact h

theorem placeReceipt_kept {P : State → Prop} (blind : QueueBlind P) (full : ∀ s, P s → P (returnToFull s))
    (inbox : ∀ i s, P s → P { s with inbox := i }) (m : Message) {s : State} (h : P s) : P (placeReceipt m s) := by
  unfold placeReceipt; split
  · exact placeEntry_kept blind full _ _ _ _ (inbox _ s h)
  all_goals exact h

/-! ### The event order -/

theorem EventsOrdered.raise {s : State} (h : EventsOrdered s) (k : EventKind) : EventsOrdered (raise k s) :=
  insertEvent_ordered k _ h

theorem EventsOrdered.returnToFull {s : State} (h : EventsOrdered s) : EventsOrdered (returnToFull s) := by
  unfold Machine.returnToFull; split
  · exact h
  · exact insertEvent_ordered .link _ h

theorem EventsOrdered.completeWrite {s : State} (h : EventsOrdered s) : EventsOrdered (completeWrite s) := by
  unfold Machine.completeWrite; split
  · exact h
  · unfold noteCompletion; split
    · unfold totalsWritten; dsimp only; split
      · exact insertEvent_ordered .store _ h
      · exact h
    · exact insertEvent_ordered .store _ h
    all_goals exact h

theorem eventsOrdered_quietKept : QuietKept EventsOrdered := by
  intro s t hq h
  have kept (he : t.link.events = s.link.events) : EventsOrdered t := by rwa [EventsOrdered, he]
  cases hq with
  | raise k => exact h.raise k
  | link _ fewer => exact h.sublist fewer
  | closed n outcome => exact h.raise .offerClosed
  | placed kind key content deadline => exact placeEntry_kept (fun _ _ h => h) (fun _ h => h.returnToFull) kind key content deadline h
  | receipt m => exact placeReceipt_kept (fun _ _ h => h) (fun _ h => h.returnToFull) (fun _ _ h => h) m h
  | writeCompleted => exact h.completeWrite
  | toFull => exact h.returnToFull
  | toSparse => exact insertEvent_ordered .link _ h
  | index only | locator only | panel only | settings only | commit only | dirty only | meter only | accounts only
  | board only | emergency only | fewer only | inbox only | receiver only =>
    exact kept (congrArg (·.link.events) only)
  | _ => exact kept (by simp)

/-! ### The access levels -/

@[simp] theorem startWrite_levels (s : State) :
    (startWrite s).store.level = s.store.level ∧ (startWrite s).store.failures = s.store.failures ∧
    (startWrite s).store.lockoutEnd = s.store.lockoutEnd := by
  unfold startWrite noteStart
  split
  · exact ⟨rfl, rfl, rfl⟩
  · split <;> exact ⟨rfl, rfl, rfl⟩

@[simp] theorem completeWrite_levels (s : State) :
    (completeWrite s).store.level = s.store.level ∧ (completeWrite s).store.failures = s.store.failures ∧
    (completeWrite s).store.lockoutEnd = s.store.lockoutEnd := by
  unfold completeWrite noteCompletion
  split
  · exact ⟨rfl, rfl, rfl⟩
  · split
    · simp
    all_goals exact ⟨rfl, rfl, rfl⟩

theorem LevelSound.countFailure {s : State} (h : LevelSound s) (none : s.store.lockoutEnd = none) :
    LevelSound (countFailure s) := by
  obtain ⟨hlevel, hopen, -⟩ := h
  have small := hopen none
  refine ⟨hlevel, fun running => ?_, fun locked => ?_⟩ <;>
    simp only [Machine.countFailure, none, ite_eq_right_iff, reduceCtorEq, ne_eq, imp_false, not_le, not_lt] at *
  all_goals omega

theorem levelSound_quietKept : QuietKept LevelSound := by
  intro s t hq h
  have kept (level : t.store.level = s.store.level) (failures : t.store.failures = s.store.failures)
      (ending : t.store.lockoutEnd = s.store.lockoutEnd) : LevelSound t := by
    rwa [LevelSound, level, failures, ending]
  cases hq with
  | levelDropped => exact ⟨Nat.zero_le 2, h.2⟩
  | codeFailed _ none => exact h.countFailure none
  | codeTaken n _ none small => exact ⟨small, fun _ => Nat.zero_le 2, fun locked => absurd none locked⟩
  | lockoutEnded => exact ⟨h.1, fun _ => Nat.zero_le 2, fun locked => absurd rfl locked⟩
  | index only | locator only | panel only | settings only | link only | commit only | dirty only | meter only
  | accounts only | board only | emergency only | fewer only | inbox only | receiver only =>
    exact kept (congrArg (·.store.level) only) (congrArg (·.store.failures) only) (congrArg (·.store.lockoutEnd) only)
  | _ => exact kept (by simp) (by simp) (by simp)

/-! ### The voice handshake -/

theorem VoiceSound.congr {s t : State} (h : VoiceSound s) (powered : t.powered = s.powered)
    (voice : t.receiver.voice = s.receiver.voice) (req : t.receiver.voiceReq = s.receiver.voiceReq)
    (transmission : t.receiver.transmission = s.receiver.transmission) : VoiceSound t := by
  rwa [VoiceSound, voice, req, transmission, powered]

theorem VoiceSound.of_air {s t : State} (h : VoiceSound s) (powered : t.powered = s.powered)
    (air : t.receiver.air = s.receiver.air) : VoiceSound t := by
  simp only [Receiver.air, Prod.mk.injEq] at air
  obtain ⟨-, voice, req, transmission⟩ := air
  exact h.congr powered voice req transmission

theorem reaim_voice (span : Nat) (r : Receiver) :
    (reaim span r).voice = r.voice ∧ (reaim span r).voiceReq = r.voiceReq ∧
    (reaim span r).transmission = r.transmission := by
  unfold reaim; split <;> exact ⟨rfl, rfl, rfl⟩

theorem VoiceSound.returnToFull {s : State} (h : VoiceSound s) : VoiceSound (returnToFull s) := by
  rw [returnToFull_eq]; exact h

theorem VoiceSound.enterSparse {s : State} (h : VoiceSound s) : VoiceSound (enterSparse s) := by
  obtain ⟨voice, req, transmission⟩ := reaim_voice _ _
  exact h.congr rfl voice req transmission

theorem voiceSound_losePower (s : State) : VoiceSound (losePower s) := by
  unfold Machine.losePower; split <;> exact ⟨fun _ => rfl, nofun⟩

theorem VoiceSound.endTransmission {s : State} (h : VoiceSound s) : VoiceSound (endTransmission s) := by
  obtain ⟨-, hidle⟩ := h
  unfold Machine.endTransmission; dsimp only; split
  · rename_i pending
    exact ⟨fun _ => rfl, fun powered => by simpa [setVoice, pending] using hidle powered⟩
  · exact ⟨fun _ => rfl, hidle⟩

theorem VoiceSound.setVoice {s : State} (h : VoiceSound s) {v : Voice}
    (granted : v = .granted → s.receiver.transmission = none) (idle : v = .idle ↔ s.receiver.voice = .idle) :
    VoiceSound (setVoice v s) := ⟨granted, fun powered => idle.trans (h.2 powered)⟩

theorem voiceSound_blockVoice (s : State) : VoiceSound (blockVoice s) := by
  unfold Machine.blockVoice Machine.setVoice
  cases hreq : s.receiver.voiceReq <;> simp [VoiceSound, hreq]

/-- A request asserted in IDLE is taken. -/
theorem voiceSound_requestVoice {s : State} (idle : s.receiver.voice = .idle) (req : s.receiver.voiceReq = true) :
    VoiceSound (requestVoice s) := by
  simp only [requestVoice, idle, grantVoice]
  split
  · simp [VoiceSound, Machine.setVoice, req]
  · cases htr : s.receiver.transmission <;> simp [VoiceSound, Machine.setVoice, req, htr]

theorem VoiceSound.voiceAsserted {s : State} (h : VoiceSound s) (silent : s.receiver.voiceReq = false) :
    VoiceSound (whenPowered requestVoice (setVoiceReq true s)) := by
  unfold whenPowered; split
  · rename_i powered
    exact voiceSound_requestVoice ((h.2 powered).mpr silent) rfl
  · rename_i off; exact ⟨h.1, fun powered => absurd powered off⟩

theorem VoiceSound.voiceReleased {s : State} (h : VoiceSound s) :
    VoiceSound (whenPowered (Machine.setVoice .idle) (setVoiceReq false s)) := by
  unfold whenPowered; split
  · exact ⟨nofun, fun _ => iff_of_true rfl rfl⟩
  · rename_i off; exact ⟨h.1, fun powered => absurd powered off⟩

theorem voiceSound_quietKept : QuietKept VoiceSound := by
  intro s t hq h
  cases hq with
  | loss => exact voiceSound_losePower s
  | receiver only _ air => exact h.of_air (congrArg (·.powered) only) air
  | toFull => exact h.returnToFull
  | toSparse => exact h.enterSparse
  | transmitted item _ silent => exact ⟨fun granted => absurd granted silent, h.2⟩
  | transmissionEnded => exact h.endTransmission
  | voice v _ granted idle => exact h.setVoice granted idle
  | voiceBlocked => exact voiceSound_blockVoice s
  | voiceAsserted _ silent => exact h.voiceAsserted silent
  | voiceReleased => exact h.voiceReleased
  | placed kind key content deadline =>
    exact placeEntry_kept (fun _ _ h => h) (fun _ h => h.returnToFull) kind key content deadline h
  | receipt m => exact placeReceipt_kept (fun _ _ h => h) (fun _ h => h.returnToFull) (fun _ _ h => h) m h
  | windowOpened => exact h
  | windowStretched => exact h
  | index only | locator only | panel only | settings only | link only | commit only | dirty only | meter only
  | accounts only | board only | emergency only | fewer only | inbox only =>
    exact h.of_air (congrArg (·.powered) only) (congrArg (·.receiver.air) only)
  | _ => exact h.of_air (by simp) (by simp)

/-! ### SPARSE watch -/

theorem SparseSound.congr {s t : State} (h : SparseSound s) (watch : t.receiver.watch = s.receiver.watch)
    (queue : t.scheduler.queue = s.scheduler.queue) (emergency : t.emergency.state = s.emergency.state) :
    SparseSound t := by rwa [SparseSound, watch, queue, emergency]

theorem sparseSound_of_full {s : State} (h : s.receiver.watch = .full) : SparseSound s :=
  fun sparse => absurd (h.symm.trans sparse) (by decide)

theorem SparseSound.placeEntry {s : State} (h : SparseSound s) (kind : EntryKind) (key : Nat)
    (content : EntryContent) (deadline : Option Nat) : SparseSound (placeEntry kind key content deadline s) := by
  rcases placeEntry_cases kind key content deadline s with ⟨-, -, full⟩ | ⟨-, same⟩
  · exact sparseSound_of_full full
  · rwa [same]

theorem SparseSound.placeReceipt {s : State} (h : SparseSound s) (m : Message) : SparseSound (placeReceipt m s) := by
  unfold Machine.placeReceipt; split
  · have updated : SparseSound (updateMessage m.number (fun m => { m with receipt := .queued }) s) := h
    exact updated.placeEntry _ _ _ _
  all_goals exact h

theorem sparseSound_quietKept : QuietKept SparseSound := by
  intro s t hq h
  cases hq with
  | toFull => exact sparseSound_of_full (returnToFull_watch s)
  | toSparse _ may =>
    simp only [maySparse, sparseConditions, Bool.and_eq_true, beq_iff_eq, List.isEmpty_iff] at may
    obtain ⟨⟨-, ⟨-, idle⟩, empty⟩, -⟩ := may
    exact fun _ => ⟨empty, idle⟩
  | placed kind key content deadline => exact h.placeEntry kind key content deadline
  | receipt m => exact h.placeReceipt m
  | emergency only still =>
    intro sparse
    obtain ⟨empty, idle⟩ := h ((congrArg (·.receiver.watch) only).symm.trans sparse)
    refine ⟨(congrArg (·.scheduler.queue) only).trans empty, ?_⟩
    obtain idle' | active | full := still
    · exact idle'
    · exact absurd idle active
    · exact absurd (full.symm.trans ((congrArg (·.receiver.watch) only).symm.trans sparse)) (by decide)
  | fewer only fewer =>
    intro sparse
    obtain ⟨empty, idle⟩ := h ((congrArg (·.receiver.watch) only).symm.trans sparse)
    exact ⟨List.sublist_nil.mp (empty ▸ fewer), (congrArg (·.emergency.state) only).trans idle⟩
  | entries f => exact fun sparse => ⟨by simp [(h sparse).1], (h sparse).2⟩
  | receiver only _ air =>
    exact h.congr (congrArg (·.1) air) (congrArg (·.scheduler.queue) only) (congrArg (·.emergency.state) only)
  | transmitted | voice | voiceBlocked | windowOpened | windowStretched => exact h
  | index only | locator only | panel only | settings only | link only | commit only | dirty only | meter only
  | accounts only | board only | inbox only =>
    exact h.congr (congrArg (·.receiver.watch) only) (congrArg (·.scheduler.queue) only)
      (congrArg (·.emergency.state) only)
  | _ => exact h.congr (by simp) (by simp) (by simp)

/-! ### The four rules at a power-on -/

theorem eventsOrdered_loaded (s : State) : EventsOrdered (loaded s) := by
  have settings : EventsOrdered (loadSettings (blank s)) := by
    unfold loadSettings; split
    · exact .nil
    · exact List.pairwise_singleton ..
  have totals : EventsOrdered (loadedStore s) := by
    unfold loadedStore loadTotals; split
    · exact settings
    · exact settings.raise .fault
  have log : EventsOrdered (loadLog (loadedStore s)) := by
    unfold loadLog; dsimp only; split
    · exact totals.raise .fault
    · exact totals
  unfold loaded loadCheckpoint; split
  · exact log.raise .fault
  · exact log

theorem levelSound_loaded (s : State) : LevelSound (loaded s) := by
  have store : (loaded s).store = (loadSettings (blank s)).store := by simp [loaded, loadedStore]
  rw [LevelSound, store]
  unfold loadSettings
  split <;> exact ⟨Nat.zero_le 2, fun _ => Nat.zero_le 2, fun locked => absurd rfl locked⟩

theorem sparseSound_loaded (s : State) : SparseSound (loaded s) :=
  sparseSound_of_full (by rw [loaded_receiver]; rfl)

theorem placeEntry_voice (kind : EntryKind) (key : Nat) (content : EntryContent) (deadline : Option Nat) (s : State) :
    (placeEntry kind key content deadline s).receiver.voice = s.receiver.voice ∧
    (placeEntry kind key content deadline s).receiver.voiceReq = s.receiver.voiceReq ∧
    (placeEntry kind key content deadline s).receiver.transmission = s.receiver.transmission := by
  unfold placeEntry; split
  · rw [returnToFull_eq]; exact ⟨rfl, rfl, rfl⟩
  all_goals exact ⟨rfl, rfl, rfl⟩

theorem loadMark_voice (s : State) :
    (loadMark s).receiver.voice = s.receiver.voice ∧ (loadMark s).receiver.transmission = s.receiver.transmission := by
  unfold loadMark; split <;> simp [resumeActive, resumeEmergency, placeEntry_voice]

/-- After the work of a power-on the voice handshake is in IDLE and nothing is transmitted. -/
theorem recovered_voice (s : State) :
    (recovered s).receiver.voice = .idle ∧ (recovered s).receiver.transmission = none := by
  simp [recovered, loadMark_voice, loaded_receiver]; decide

theorem voiceSound_powerOn {s t : State} (h : exec .powerOn s = .next t) : VoiceSound t := by
  obtain rfl := Host.Outcome.next.inj h
  obtain ⟨idle, silent⟩ := recovered_voice (settled s)
  show VoiceSound (findVoice (recovered (settled s)))
  unfold findVoice; split
  · rename_i req; exact voiceSound_requestVoice idle req
  · rename_i req; exact ⟨fun _ => silent, fun _ => iff_of_true idle (Bool.eq_false_iff.mpr req)⟩

/-! ### The four rules at every step -/

theorem eventsOrdered_stepKept : StepKept EventsOrdered :=
  eventsOrdered_quietKept.stepKept (fun _ _ _ h => h) fun _ _ h => h

theorem levelSound_stepKept : StepKept LevelSound :=
  levelSound_quietKept.stepKept (fun _ _ _ h => h) fun _ _ h => h

theorem voiceSound_stepKept : StepKept VoiceSound :=
  voiceSound_quietKept.stepKept (fun _ _ air h => h.of_air rfl air) fun _ _ h => h

/-- An arming returns the watch to FULL, and nothing after that enters SPARSE watch. -/
theorem sparseSound_enterActive (a : ArmSource) (s : State) : SparseSound (enterActive a s) := by
  have full : SparseSound (returnToFull (voiceAtActive (suppressBoard { s with emergency := armed a s }))) :=
    sparseSound_of_full (returnToFull_watch _)
  exact sparseSound_quietKept.quiets (.head (.placed .emergency 0 .none none _ (by decide)) <|
    .trans (latchIfLatched_quiets _) <| .head (.raise .emergency _) <|
    .trans (flagTrip_quiets _) (setMark_quiets _ _)) full

theorem sparseSound_trackingBlind : TrackingBlind SparseSound :=
  fun _ _ air h => h.congr (congrArg (·.1) air) rfl rfl

theorem sparseSound_stepKept : StepKept SparseSound where
  quiet := sparseSound_quietKept
  arms a s _ := sparseSound_enterActive a s
  header _ _ g s _ := sparseSound_quietKept.takeHeader sparseSound_trackingBlind g s
  miss := sparseSound_quietKept.missHeader sparseSound_trackingBlind
  lost := sparseSound_quietKept.loseSync sparseSound_trackingBlind

/-- Settles O57. -/
theorem everyStepKeepsTheStandingRules : Obligations.EveryStepKeepsTheStandingRules := by
  intro s t h
  refine ⟨?_, ?_, ?_, ?_⟩
  · exact eventsOrdered_stepKept.step (fun _ _ h => h)
      (fun s _ h _ => eventsOrdered_quietKept.powerOn (fun _ _ h => h) (eventsOrdered_loaded (settled s)) h) h
  · exact levelSound_stepKept.step (fun _ _ h => h)
      (fun s _ h _ => levelSound_quietKept.powerOn (fun _ _ h => h) (levelSound_loaded (settled s)) h) h
  · exact voiceSound_stepKept.step (fun _ _ h => h) (fun _ _ h _ => voiceSound_powerOn h) h
  · exact sparseSound_stepKept.step (fun _ _ h => h)
      (fun s _ h _ => sparseSound_quietKept.powerOn (fun _ _ h => h) (sparseSound_loaded (settled s)) h) h

end Sys2Proof.Machine
end

section
/-! PROOFS. Sync tracking and the uplink queue: what an elementary change leaves of each, and what a header, a miss and
a loss of sync make of tracking. -/

namespace Sys2Proof.Machine

/-! ### What an elementary change leaves of sync tracking -/

/-- Sync tracking is left as it was, but for the window, and for where a header is expected, not whether one is. -/
structure TrackingLeft (r u : Receiver) : Prop where
  sync : u.sync = r.sync
  slotMap : u.slotMap = r.slotMap
  misses : u.misses = r.misses
  lastStretch : u.lastStretch = r.lastStretch
  persistence : u.persistence = r.persistence
  interval : u.statusInterval = r.statusInterval
  expected : u.expected = none ↔ r.expected = none
  window : (r.windowOpen = true → r.expected ≠ none) → u.windowOpen = true → u.expected ≠ none
  stretches : r.stretches ≤ 5 → u.stretches ≤ 5

namespace TrackingLeft

theorem refl (r : Receiver) : TrackingLeft r r := ⟨rfl, rfl, rfl, rfl, rfl, rfl, .rfl, id, id⟩

theorem trans {r u v : Receiver} (a : TrackingLeft r u) (b : TrackingLeft u v) : TrackingLeft r v where
  sync := b.sync.trans a.sync
  slotMap := b.slotMap.trans a.slotMap
  misses := b.misses.trans a.misses
  lastStretch := b.lastStretch.trans a.lastStretch
  persistence := b.persistence.trans a.persistence
  interval := b.interval.trans a.interval
  expected := b.expected.trans a.expected
  window := b.window ∘ a.window
  stretches := b.stretches ∘ a.stretches

theorem of_tracking {r u : Receiver} (h : u.tracking = r.tracking) : TrackingLeft r u := by
  simp only [Receiver.tracking, Prod.mk.injEq] at h
  obtain ⟨sync, expected, window, slotMap, misses, stretches, lastStretch, persistence, interval⟩ := h
  refine ⟨sync, slotMap, misses, lastStretch, persistence, interval, by rw [expected], ?_, by rw [stretches]; exact id⟩
  rw [window, expected]; exact id

theorem reaim (span : Nat) {r u : Receiver} (h : u.tracking = r.tracking) : TrackingLeft r (reaim span u) := by
  refine (of_tracking h).trans ?_
  unfold Machine.reaim; split
  · exact refl u
  · rename_i aimed
    simp only [Bool.or_eq_true, Option.isNone_iff_eq_none, not_or] at aimed
    exact ⟨rfl, rfl, rfl, rfl, rfl, rfl, by simp [aimed.2], fun _ _ => by simp, id⟩

theorem returnToFull (s : State) : TrackingLeft s.receiver (returnToFull s).receiver := by
  unfold Machine.returnToFull; split
  · exact refl _
  · exact reaim _ rfl

end TrackingLeft

theorem endTransmission_tracking (s : State) : (endTransmission s).receiver.tracking = s.receiver.tracking := by
  unfold endTransmission; dsimp only; split <;> rfl

theorem losePower_tracking (s : State) : (losePower s).receiver.tracking = s.receiver.tracking := by
  unfold losePower; split <;> rfl

theorem voiceAsserted_tracking (s : State) :
    (whenPowered requestVoice (setVoiceReq true s)).receiver.tracking = s.receiver.tracking := by
  unfold whenPowered requestVoice grantVoice; (repeat' split) <;> rfl

theorem voiceReleased_tracking (s : State) :
    (whenPowered (setVoice .idle) (setVoiceReq false s)).receiver.tracking = s.receiver.tracking := by
  unfold whenPowered; split <;> rfl

theorem Quiet.trackingLeft {s t : State} (h : Quiet s t) : TrackingLeft s.receiver t.receiver := by
  have left (u : State) (hu : TrackingLeft s.receiver u.receiver) : TrackingLeft s.receiver (returnToFull u).receiver :=
    hu.trans (.returnToFull u)
  cases h with
  | loss => exact .of_tracking (losePower_tracking s)
  | receiver _ tracking => exact .of_tracking tracking
  | toFull => exact .returnToFull s
  | toSparse => exact .reaim _ rfl
  | transmissionEnded => exact .of_tracking (endTransmission_tracking s)
  | voiceAsserted => exact .of_tracking (voiceAsserted_tracking s)
  | voiceReleased => exact .of_tracking (voiceReleased_tracking s)
  | placed kind key content deadline =>
    exact placeEntry_kept (P := fun u => TrackingLeft s.receiver u.receiver)
      (fun _ _ hu => hu.trans (.of_tracking rfl)) left kind key content deadline (.refl _)
  | receipt m =>
    exact placeReceipt_kept (P := fun u => TrackingLeft s.receiver u.receiver)
      (fun _ _ hu => hu.trans (.of_tracking rfl)) left (fun _ _ hu => hu) m (.refl _)
  | windowOpened _ aimed => exact ⟨rfl, rfl, rfl, rfl, rfl, rfl, .rfl, fun _ _ => aimed, fun _ => Nat.zero_le 5⟩
  | windowStretched _ few => exact ⟨rfl, rfl, rfl, rfl, rfl, rfl, .rfl, id, fun _ => few⟩
  | transmitted | voice | voiceBlocked => exact .of_tracking rfl
  | index only | locator only | panel only | settings only | link only | commit only | dirty only | meter only
  | accounts only | board only | emergency only | fewer only | inbox only =>
    exact .of_tracking (congrArg (·.receiver.tracking) only)
  | _ => exact .of_tracking (by simp)

theorem Quiets.trackingLeft {s t : State} (h : Quiets s t) : TrackingLeft s.receiver t.receiver := by
  induction h with
  | refl => exact .refl _
  | tail _ hq ih => exact ih.trans hq.trackingLeft

/-! ### Sync tracking -/

theorem SyncSound.of_left {s t : State} (h : SyncSound s) (left : TrackingLeft s.receiver t.receiver) : SyncSound t where
  expected := by rw [left.expected, left.sync]; exact h.expected
  window := left.window h.window
  slots := by rw [left.slotMap, left.sync]; exact h.slots
  lockedMisses := by rw [left.sync, left.misses]; exact h.lockedMisses
  coastMisses := by rw [left.sync, left.misses]; exact h.coastMisses
  searchMisses := by rw [left.misses]; exact h.searchMisses
  stretches := ⟨left.stretches h.stretches.1, by rw [left.lastStretch]; exact h.stretches.2⟩
  persistence := by rw [left.persistence]; exact h.persistence
  interval := by rw [left.interval]; exact h.interval

theorem syncSound_quietKept : QuietKept SyncSound := fun _ _ hq h => h.of_left hq.trackingLeft

theorem setSync_receiver (y : Sync) (s : State) : (setSync y s).receiver = { s.receiver with sync := y } := by
  unfold setSync; dsimp only; split <;> rfl

/-- A good header has ten slots and its values in their corrected ranges. -/
theorem good_of_judgeHeader {h : HeaderBlock} {fleet : Nat} {g : GoodHeader} (good : judgeHeader h fleet = some g) :
    g.slots.length = 10 ∧ (1 ≤ g.persistence ∧ g.persistence ≤ 16) ∧
      30 ≤ g.statusInterval ∧ g.statusInterval ≤ 600 := by
  unfold judgeHeader at good
  split at good
  · split at good
    · rename_i ok
      obtain ⟨-, -, -, -, slots, -⟩ := ok
      obtain rfl := Option.some.inj good
      refine ⟨slots, ?_, ?_⟩
      · dsimp only; unfold correctedPersistence; split <;> omega
      · dsimp only; unfold correctedInterval; split <;> omega
    · simp at good
  · simp at good

theorem syncSound_takeHeader {h : HeaderBlock} {fleet : Nat} {g : GoodHeader} (good : judgeHeader h fleet = some g)
    {s : State} (hs : SyncSound s) : SyncSound (takeHeader g s) := by
  obtain ⟨slots, persistence, interval⟩ := good_of_judgeHeader good
  rw [takeHeader_eq]
  refine syncSound_quietKept.quiets (report_quiets _ _) ?_
  have map : ∀ l, installedMap g s = some l → l.length = 10 := by
    intro l hl
    unfold installedMap at hl
    split at hl
    · exact Option.some.inj hl ▸ slots
    · split at hl
      · exact Option.some.inj hl ▸ slots
      · simp at hl
  constructor <;> simp only [setSync_receiver, headerTaken, headed, anchored]
  case slots => exact fun l hl => ⟨trivial, map l hl⟩
  case stretches => exact ⟨Nat.zero_le 5, by split; exacts [Nat.zero_le 5, hs.stretches.1]⟩
  case persistence => exact persistence
  case interval => exact interval
  all_goals simp

theorem syncSound_loseSync {s : State} (hs : SyncSound s) : SyncSound (loseSync s) := by
  rw [loseSync_eq]
  constructor <;> simp only [setSync_receiver, syncLost]
  case searchMisses => exact hs.searchMisses
  case stretches => exact ⟨Nat.zero_le 5, hs.stretches.2⟩
  case persistence => exact hs.persistence
  case interval => exact hs.interval
  all_goals simp

/-- What a missed header leaves of tracking before sync settles: no slot map, one miss more than sync allows. -/
structure Missing (s : State) : Prop where
  sync : s.receiver.sync ≠ .search
  slots : s.receiver.slotMap = none
  locked : s.receiver.sync = .locked → s.receiver.misses = 1
  coast : s.receiver.sync = .coast → 2 ≤ s.receiver.misses ∧ s.receiver.misses ≤ 4
  stretches : s.receiver.stretches ≤ 5 ∧ s.receiver.lastStretch ≤ 5
  persistence : 1 ≤ s.receiver.persistence ∧ s.receiver.persistence ≤ 16
  interval : 30 ≤ s.receiver.statusInterval ∧ s.receiver.statusInterval ≤ 600

theorem Missing.of_left {s t : State} (h : Missing s) (left : TrackingLeft s.receiver t.receiver) : Missing t where
  sync := by rw [left.sync]; exact h.sync
  slots := by rw [left.slotMap]; exact h.slots
  locked := by rw [left.sync, left.misses]; exact h.locked
  coast := by rw [left.sync, left.misses]; exact h.coast
  stretches := ⟨left.stretches h.stretches.1, by rw [left.lastStretch]; exact h.stretches.2⟩
  persistence := by rw [left.persistence]; exact h.persistence
  interval := by rw [left.interval]; exact h.interval

theorem missing_missTold {s : State} (hs : SyncSound s) (p : Nat) (aimed : s.receiver.expected = some p) :
    Missing (missTold p s) := by
  have missed : Missing { s with receiver := missed p s.receiver } := by
    have sync : s.receiver.sync ≠ .search := fun search => by simp [hs.expected.mpr search] at aimed
    refine ⟨sync, rfl, fun locked => ?_, fun coast => ?_, ⟨Nat.zero_le 5, hs.stretches.2⟩, hs.persistence, hs.interval⟩
    · simp [Machine.missed, hs.lockedMisses locked]
    · have := hs.coastMisses coast
      simp only [Machine.missed]; omega
  exact missed.of_left (Quiets.trackingLeft ((missReport_quiets _).trans (contentionFreed_quiets _)))

theorem Missing.settleMiss {s : State} (h : Missing s) : SyncSound (settleMiss s) := by
  unfold Machine.settleMiss
  split
  · rename_i locked
    have once := h.locked locked
    constructor <;> simp only [setSync_receiver, expectNext, h.slots, once]
    case stretches => exact h.stretches
    case persistence => exact h.persistence
    case interval => exact h.interval
    all_goals simp
  rename_i unlocked
  have coast : s.receiver.sync = .coast := by
    cases hc : s.receiver.sync
    · exact absurd hc h.sync
    · exact absurd hc unlocked
    · rfl
  have misses := h.coast coast
  split
  · unfold enterSearch
    refine syncSound_quietKept.quiets (giveUpGrants_quiets _) ?_
    constructor <;> simp only [setSync_receiver]
    case searchMisses => exact misses.2
    case stretches => exact ⟨Nat.zero_le 5, h.stretches.2⟩
    case persistence => exact h.persistence
    case interval => exact h.interval
    all_goals simp
  · rename_i few
    have few : s.receiver.misses < 4 := Nat.not_le.mp few
    constructor <;> simp only [expectNext, h.slots, coast]
    case coastMisses => exact fun _ => ⟨by omega, by omega⟩
    case searchMisses => exact misses.2
    case stretches => exact h.stretches
    case persistence => exact h.persistence
    case interval => exact h.interval
    all_goals simp

theorem syncSound_missHeader {s : State} (hs : SyncSound s) : SyncSound (missHeader s) := by
  cases aimed : s.receiver.expected with
  | none => rwa [missHeader_unexpected s aimed]
  | some p => rw [missHeader_expected s p aimed]; exact (missing_missTold hs p aimed).settleMiss

theorem syncSound_stepKept : StepKept SyncSound where
  quiet := syncSound_quietKept
  arms := syncSound_quietKept.enterActive fun _ _ h => h.of_left (.refl _)
  header _ _ _ _ good h := syncSound_takeHeader good h
  miss _ := syncSound_missHeader
  lost _ := syncSound_loseSync

theorem syncSound_reset : SyncSound State.reset where
  slots := nofun
  expected := by decide
  window := by decide
  lockedMisses := by decide
  coastMisses := by decide
  searchMisses := by decide
  stretches := by decide
  persistence := by decide
  interval := by decide

theorem syncSound_loaded (s : State) : SyncSound (loaded s) :=
  syncSound_reset.of_left (by rw [loaded_receiver]; exact .of_tracking rfl)

/-! ### The uplink queue -/

/-- The rank order of the queue. -/
def Ranked (a b : Entry) : Prop := a.kind.cls.code < b.kind.cls.code ∨ a.kind.cls = b.kind.cls ∧ a.placed ≤ b.placed

theorem cls_eq_of_code {a b : EntryClass} (h : a.code = b.code) : a = b := by
  cases a <;> cases b <;> simp [EntryClass.code] at h <;> rfl

theorem insertEntry_perm (new : Entry) (l : List Entry) : (insertEntry new l).Perm (new :: l) := by
  induction l with
  | nil => exact .refl _
  | cons e es ih =>
    unfold insertEntry; split
    · exact .refl _
    · exact (ih.cons e).trans (.swap ..)

/-- A newcomer placed no earlier than any entry joins the queue at its rank. -/
theorem insertEntry_ranked {new : Entry} {l : List Entry} (ranked : l.Pairwise Ranked)
    (last : ∀ e ∈ l, e.placed ≤ new.placed) : (insertEntry new l).Pairwise Ranked := by
  induction l with
  | nil => simp [insertEntry]
  | cons e es ih =>
    obtain ⟨before, rest⟩ := List.pairwise_cons.mp ranked
    have earlier : e.placed ≤ new.placed := last e (by simp)
    unfold insertEntry; split
    · rename_i outranks
      have lower : new.kind.cls.code < e.kind.cls.code := by
        simp only [Entry.outranks, Bool.or_eq_true, decide_eq_true_eq, Bool.and_eq_true, beq_iff_eq] at outranks
        omega
      refine List.pairwise_cons.mpr ⟨fun x hx => .inl ?_, ranked⟩
      obtain rfl | hx := List.mem_cons.mp hx
      · exact lower
      · obtain lower' | ⟨same, -⟩ := before x hx
        · omega
        · rwa [← same]
    · rename_i outranked
      refine List.pairwise_cons.mpr ⟨fun x hx => ?_, ih rest fun x hx => last x (by simp [hx])⟩
      obtain rfl | hx := (mem_insertEntry x new es).mp hx
      · simp only [Entry.outranks, Bool.or_eq_true, decide_eq_true_eq, Bool.and_eq_true, beq_iff_eq, not_or] at outranked
        obtain lower | same := Nat.lt_or_eq_of_le (Nat.not_lt.mp outranked.1)
        · exact .inl lower
        · exact .inr ⟨cls_eq_of_code same, earlier⟩
      · exact before x hx

theorem QueueSound.congr {s t : State} (h : QueueSound s) (queue : t.scheduler.queue = s.scheduler.queue)
    (now : t.now = s.now) : QueueSound t where
  distinct := by rw [queue]; exact h.distinct
  caps := by rw [queue]; exact h.caps
  placed := by rw [queue, now]; exact h.placed
  ranked := by rw [queue]; exact h.ranked

theorem QueueSound.sublist {s t : State} (h : QueueSound s) (fewer : t.scheduler.queue.Sublist s.scheduler.queue)
    (now : t.now = s.now) : QueueSound t where
  distinct := h.distinct.sublist (fewer.map _)
  caps kind := (fewer.countP_le).trans (h.caps kind)
  placed e he := now ▸ h.placed e (fewer.subset he)
  ranked := h.ranked.sublist fewer

/-- A change of the entries that leaves kind, key and instant of placement. -/
theorem QueueSound.map {s : State} (h : QueueSound s) {f : Entry → Entry}
    (left : ∀ e, (f e).kind = e.kind ∧ (f e).key = e.key ∧ (f e).placed = e.placed) :
    QueueSound { s with scheduler := { s.scheduler with queue := s.scheduler.queue.map f } } where
  distinct := by
    have same : (fun e => ((f e).kind, (f e).key)) = fun e => (e.kind, e.key) := by
      funext e; rw [(left e).1, (left e).2.1]
    simpa [List.map_map, Function.comp_def, same] using h.distinct
  caps kind := by
    have same : (fun e => kind.sharesCap (f e).kind) = fun e => kind.sharesCap e.kind := by
      funext e; rw [(left e).1]
    simpa [List.countP_map, Function.comp_def, same] using h.caps kind
  placed e he := by
    obtain ⟨x, hx, rfl⟩ := List.mem_map.mp he
    rw [(left x).2.2]; exact h.placed x hx
  ranked := List.pairwise_map.mpr (h.ranked.imp fun {a b} r => by
    rw [(left a).1, (left b).1, (left a).2.2, (left b).2.2]; exact r)

theorem sharesCap_cases {a b : EntryKind} (h : a.sharesCap b = true) :
    a = b ∨ (a = .canned ∧ b = .freetext) ∨ (a = .freetext ∧ b = .canned) := by
  unfold EntryKind.sharesCap at h
  split at h
  · exact .inr (.inl ⟨rfl, rfl⟩)
  · exact .inr (.inr ⟨rfl, rfl⟩)
  · exact .inl (beq_iff_eq.mp h)

theorem cap_eq_of_sharesCap {a b : EntryKind} (h : a.sharesCap b = true) :
    a.cap = b.cap ∧ a.sharesCap = b.sharesCap := by
  obtain rfl | ⟨rfl, rfl⟩ | ⟨rfl, rfl⟩ := sharesCap_cases h
  · exact ⟨rfl, rfl⟩
  all_goals exact ⟨rfl, funext fun c => by cases c <;> rfl⟩

theorem QueueSound.placeEntry {s : State} (h : QueueSound s) (kind : EntryKind) (key : Nat)
    (content : EntryContent) (deadline : Option Nat) : QueueSound (placeEntry kind key content deadline s) := by
  obtain ⟨placed, scheduler, -⟩ | ⟨-, same⟩ := placeEntry_cases kind key content deadline s
  swap
  · rwa [same]
  obtain ⟨distinct, caps, hplaced, ranked⟩ := h
  have now : (Machine.placeEntry kind key content deadline s).now = s.now := by simp
  have queue := congrArg (·.queue) scheduler
  dsimp only at queue
  set new := newEntry kind key content deadline s
  unfold placementOf at placed
  split at placed
  · simp at placed
  split at placed
  · simp at placed
  rename_i fresh room
  constructor
  · rw [queue, ((insertEntry_perm new _).map _).nodup_iff, List.map_cons, List.nodup_cons]
    refine ⟨fun standing => fresh ?_, distinct⟩
    obtain ⟨e, he, hk⟩ := List.mem_map.mp standing
    exact List.any_eq_true.mpr ⟨e, he, by simpa [Entry.is, new, newEntry] using hk⟩
  · intro k
    rw [queue, countP_insertEntry]
    split
    · rename_i shares
      obtain ⟨cap, same⟩ := cap_eq_of_sharesCap (a := k) (b := kind) shares
      rw [cap, same]
      exact Nat.not_le.mp room
    · exact caps k
  · intro e he
    rw [queue] at he
    rw [now]
    obtain rfl | he := (mem_insertEntry e new _).mp he
    · exact Nat.le_refl _
    · exact hplaced e he
  · rw [queue]; exact insertEntry_ranked ranked hplaced

theorem QueueSound.placeReceipt {s : State} (h : QueueSound s) (m : Message) : QueueSound (placeReceipt m s) := by
  unfold Machine.placeReceipt; split
  · exact QueueSound.placeEntry (s := updateMessage m.number (fun m => { m with receipt := .queued }) s)
      (h.congr rfl rfl) _ _ _ _
  all_goals exact h

theorem queueSound_quietKept : QuietKept QueueSound := by
  intro s t hq h
  cases hq with
  | clock u =>
    exact ⟨h.distinct, h.caps, fun e he => (h.placed e he).trans (Nat.le_max_left ..), h.ranked⟩
  | fewer only fewer => exact h.sublist fewer (congrArg (·.now) only)
  | entries f _ left => exact h.map left
  | placed kind key content deadline => exact h.placeEntry kind key content deadline
  | receipt m => exact h.placeReceipt m
  | windowOpened | windowStretched | transmitted | voice | voiceBlocked => exact h.congr rfl rfl
  | index only | locator only | panel only | settings only | link only | commit only | dirty only | meter only
  | accounts only | board only | emergency only | inbox only | receiver only =>
    exact h.congr (congrArg (·.scheduler.queue) only) (congrArg (·.now) only)
  | _ => exact h.congr (by simp) (by simp)

theorem queueSound_stepKept : StepKept QueueSound :=
  queueSound_quietKept.stepKept (fun _ _ _ h => h.congr rfl rfl) fun _ _ h => h.congr rfl rfl

theorem loaded_queue (s : State) : (loaded s).scheduler.queue = [] := by
  simp [loaded, loadedStore]; rfl

theorem queueSound_loaded (s : State) : QueueSound (loaded s) := by
  constructor <;> rw [loaded_queue] <;> simp

/-- Settles O58. -/
theorem everyStepKeepsSyncAndQueue : Obligations.EveryStepKeepsSyncAndQueue := by
  intro s t h
  constructor
  · exact syncSound_stepKept.step (fun _ _ h => h.of_left (.refl _))
      (fun s _ h _ => syncSound_quietKept.powerOn (fun _ _ h => h.of_left (.of_tracking rfl))
        (syncSound_loaded (settled s)) h) h
  · exact queueSound_stepKept.step (fun _ _ h => h.congr rfl rfl)
      (fun s _ h _ => queueSound_quietKept.powerOn (fun _ _ h => h.congr rfl rfl) (queueSound_loaded (settled s)) h) h

end Sys2Proof.Machine
end

section
/-! PROOFS. The offer board and the inbox: what each elementary change of them keeps. -/

namespace Sys2Proof.Machine

/-! ### The offer board -/

/-- A change of the entries of one number that leaves the numbers. -/
theorem updateOffer_numbers (n : Nat) (f : Offer → Offer) (number : ∀ o, (f o).number = o.number) (s : State) :
    (updateOffer n f s).board.entries.map (·.number) = s.board.entries.map (·.number) := by
  simp only [updateOffer, List.map_map]
  refine List.map_congr_left fun o _ => ?_
  simp only [Function.comp]
  split
  · exact number o
  · rfl

theorem findOffer_eq_none {n : Nat} {s : State} (h : findOffer n s = none) : n ∉ s.board.entries.map (·.number) := by
  intro standing
  obtain ⟨o, ho, hn⟩ := List.mem_map.mp standing
  exact absurd (beq_iff_eq.mpr hn) (List.find?_eq_none.mp h o ho)

theorem claimOpen_eq_false {s : State} (h : claimOpen s = false) :
    ∀ o ∈ s.board.entries, o.state.claimOpen = false := by
  simpa [claimOpen, List.any_eq_false] using h

namespace BoardSound

variable {s : State} (h : BoardSound s)
include h

theorem closeOnly {n : Nat} (outcome : OfferOutcome) (standing : n ∈ s.board.entries.map (·.number)) :
    BoardSound (closeOnly n outcome s) where
  size := by simpa using h.size
  distinct := (closeOnly_numbers n outcome s) ▸ h.distinct
  oneClaim := by
    refine le_trans ?_ h.oneClaim
    rw [closeOnly_board, List.countP_map]
    refine List.countP_mono_left fun o _ open_ => ?_
    simp only [Function.comp_apply] at open_
    split at open_
    · simp [OfferState.claimOpen] at open_
    · exact open_
  closed m hm := by
    rw [closeOnly_numbers]
    simp only [closeOnly_board, List.mem_append, List.mem_singleton] at hm
    obtain old | rfl := hm
    · exact h.closed m old
    · exact standing

theorem updateOffer {n : Nat} {f : Offer → Offer} (number : ∀ o, (f o).number = o.number)
    (claim : ∀ o ∈ s.board.entries, o.number = n → (f o).state.claimOpen = true → o.state.claimOpen = true) :
    BoardSound (updateOffer n f s) where
  size := by simpa [Machine.updateOffer] using h.size
  distinct := (updateOffer_numbers n f number s) ▸ h.distinct
  oneClaim := by
    refine le_trans ?_ h.oneClaim
    rw [Machine.updateOffer, List.countP_map]
    refine List.countP_mono_left fun o ho open_ => ?_
    simp only [Function.comp_apply] at open_
    split at open_
    · rename_i hn; exact claim o ho (beq_iff_eq.mp hn) open_
    · exact open_
  closed m hm := by rw [updateOffer_numbers n f number]; exact h.closed m hm

/-- With no claim open, an entry may open one. -/
theorem claimed {n : Nat} {f : Offer → Offer} (number : ∀ o, (f o).number = o.number) (none : claimOpen s = false) :
    BoardSound (Machine.updateOffer n f s) where
  size := by simpa [Machine.updateOffer] using h.size
  distinct := (updateOffer_numbers n f number s) ▸ h.distinct
  oneClaim := by
    have one : s.board.entries.countP (·.number == n) ≤ 1 := by
      have := List.nodup_iff_count_le_one.mp h.distinct n
      rwa [List.count, List.countP_map] at this
    refine le_trans ?_ one
    rw [Machine.updateOffer, List.countP_map]
    refine List.countP_mono_left fun o ho open_ => ?_
    simp only [Function.comp_apply] at open_
    split at open_
    · assumption
    · simp [claimOpen_eq_false none o ho] at open_
  closed m hm := by rw [updateOffer_numbers n f number]; exact h.closed m hm

theorem removeOffer (n : Nat) : BoardSound (removeOffer n s) where
  size := (List.length_filter_le ..).trans h.size
  distinct := h.distinct.sublist (List.filter_sublist.map _)
  oneClaim := List.filter_sublist.countP_le.trans h.oneClaim
  closed m hm := by
    obtain ⟨hm, hne⟩ := List.mem_filter.mp hm
    obtain ⟨o, ho, rfl⟩ := List.mem_map.mp (h.closed m hm)
    exact List.mem_map_of_mem (List.mem_filter.mpr ⟨ho, hne⟩)

theorem removeOffer_size {n : Nat} (standing : n ∈ s.board.entries.map (·.number)) :
    (Machine.removeOffer n s).board.entries.length < Config.boardSize := by
  obtain ⟨o, ho, hn⟩ := List.mem_map.mp standing
  refine lt_of_lt_of_le ?_ h.size
  exact List.length_filter_lt_length_iff_exists.mpr ⟨o, ho, by simp [hn]⟩

theorem presented {new : Offer} (size : s.board.entries.length < Config.boardSize)
    (fresh : new.number ∉ s.board.entries.map (·.number)) (claim : new.state.claimOpen = false) :
    BoardSound { s with board := { s.board with entries := s.board.entries ++ [new] } } where
  size := by simpa using size
  distinct := by
    simp only [List.map_append, List.map_cons, List.map_nil]
    exact List.nodup_append.mpr ⟨h.distinct, List.nodup_singleton _, fun a ha b hb => by
      rintro rfl; exact fresh (List.mem_singleton.mp hb ▸ ha)⟩
  oneClaim := by simpa [List.countP_append, claim] using h.oneClaim
  closed m hm := by simp only [List.map_append, List.mem_append]; exact .inl (h.closed m hm)

theorem boardRead : BoardSound { s with board := { s.board with
    entries := s.board.entries.filter (fun o => !(o.state == .closed)), closeOrder := [], overflow := 0 } } where
  size := (List.length_filter_le ..).trans h.size
  distinct := h.distinct.sublist (List.filter_sublist.map _)
  oneClaim := List.filter_sublist.countP_le.trans h.oneClaim
  closed := nofun

end BoardSound

theorem boardSound_empty {s : State} (h : s.board = resetBoard) : BoardSound s := by
  constructor <;> rw [h] <;> simp [resetBoard]

theorem boardSound_quietKept : QuietKept BoardSound := by
  intro s t hq h
  cases hq with
  | board only entries order =>
    exact ⟨entries ▸ h.size, entries ▸ h.distinct, entries ▸ h.oneClaim, entries ▸ order ▸ h.closed⟩
  | closed n outcome _ standing => exact h.closeOnly outcome standing
  | offer n f _ number claim => exact h.updateOffer number (claim h.distinct)
  | claimed n f _ number none => exact h.claimed number none
  | presented new _ size fresh claim => exact h.presented size (findOffer_eq_none fresh) claim
  | replaced n new _ place fresh claim =>
    have standing : n ∈ s.board.entries.map (·.number) := place.elim (h.closed n) id
    refine ((h.removeOffer n).presented (h.removeOffer_size standing) ?_ claim).congr rfl
    exact fun old => findOffer_eq_none fresh ((List.filter_sublist.map _).subset old)
  | boardRead => exact h.boardRead
  | boardReset => exact boardSound_empty rfl
  | index only | locator only | panel only | settings only | link only | commit only | dirty only | meter only
  | accounts only | fewer only | emergency only | inbox only | receiver only => exact h.congr (congrArg (·.board) only)
  | _ => exact h.congr (by simp)

theorem boardSound_stepKept : StepKept BoardSound :=
  boardSound_quietKept.stepKept (fun _ _ _ h => h.congr rfl) fun _ _ h => h.congr rfl

/-! ### The inbox -/

theorem findMessage_eq_none {n : Nat} {s : State} (h : findMessage n s = none) :
    n ∉ s.inbox.messages.map (·.number) := by
  intro standing
  obtain ⟨m, hm, hn⟩ := List.mem_map.mp standing
  exact absurd (beq_iff_eq.mpr hn) (List.find?_eq_none.mp h m hm)

namespace InboxSound

theorem congr {s t : State} (h : InboxSound s) (messages : t.inbox.messages = s.inbox.messages)
    (queue : t.scheduler.queue = s.scheduler.queue) : InboxSound t where
  size := by rw [messages]; exact h.size
  distinct := by rw [messages]; exact h.distinct
  receipts := by rw [messages, queue]; exact h.receipts

/-- A change of the queue that brings no RECEIPT entry of another number. -/
theorem of_queue {s t : State} (h : InboxSound s) (messages : t.inbox.messages = s.inbox.messages)
    (receipts : ∀ e ∈ t.scheduler.queue, e.kind = .receipt →
      ∃ x ∈ s.scheduler.queue, x.kind = .receipt ∧ x.key = e.key) : InboxSound t where
  size := by rw [messages]; exact h.size
  distinct := by rw [messages]; exact h.distinct
  receipts e he receipt := by
    obtain ⟨x, hx, hk, key⟩ := receipts e he receipt
    rw [messages, ← key]; exact h.receipts x hx hk

variable {s : State} (h : InboxSound s)
include h

theorem placeEntry {kind : EntryKind} (other : kind ≠ .receipt) (key : Nat) (content : EntryContent)
    (deadline : Option Nat) : InboxSound (placeEntry kind key content deadline s) := by
  obtain ⟨-, scheduler, -⟩ | ⟨-, same⟩ := placeEntry_cases kind key content deadline s
  · refine h.of_queue (by simp) fun e he receipt => ?_
    rw [scheduler] at he
    obtain rfl | he := (mem_insertEntry e _ _).mp he
    · exact absurd receipt other
    · exact ⟨e, he, receipt, rfl⟩
  · rwa [same]

theorem updateMessage {n : Nat} {f : Message → Message} (number : ∀ m, (f m).number = m.number)
    (queued : ∀ e ∈ s.scheduler.queue, e.kind = .receipt → e.key = n →
      ∀ m ∈ s.inbox.messages, m.number = n → m.receipt = .queued → (f m).receipt = .queued) :
    InboxSound (updateMessage n f s) where
  size := by simpa [Machine.updateMessage] using h.size
  distinct := (updateMessage_numbers n f s number) ▸ h.distinct
  receipts e he receipt := by
    obtain ⟨m, hm, hn, hq⟩ := h.receipts e he receipt
    refine ⟨if m.number == n then f m else m, List.mem_map_of_mem hm, ?_, ?_⟩
    · split
      · exact (number m).trans hn
      · exact hn
    · split
      · rename_i named
        have named : m.number = n := beq_iff_eq.mp named
        exact queued e he receipt (hn ▸ named) m hm named hq
      · exact hq

theorem placeReceipt {m : Message} (standing : m.number ∈ s.inbox.messages.map (·.number)) :
    InboxSound (placeReceipt m s) := by
  unfold Machine.placeReceipt; split
  · set u := Machine.updateMessage m.number (fun m => { m with receipt := .queued }) s with hu
    have updated : InboxSound u := h.updateMessage (fun _ => rfl) fun _ _ _ _ _ _ _ _ => rfl
    obtain ⟨-, scheduler, -⟩ | ⟨-, same⟩ := placeEntry_cases .receipt m.number (.code m.receiptCode) none u
    · have messages : (Machine.placeEntry .receipt m.number (.code m.receiptCode) none u).inbox.messages =
          u.inbox.messages := by simp
      refine ⟨by rw [messages]; exact updated.size, by rw [messages]; exact updated.distinct, fun e he receipt => ?_⟩
      rw [messages]
      rw [scheduler] at he
      obtain rfl | he := (mem_insertEntry e _ _).mp he
      · obtain ⟨x, hx, hn⟩ := List.mem_map.mp standing
        refine ⟨_, List.mem_map_of_mem hx, ?_, ?_⟩
        · simp only [hn, beq_self_eq_true, if_true]; rfl
        · simp only [hn, beq_self_eq_true, if_true]
      · exact updated.receipts e he receipt
    · rwa [same]
  all_goals exact h

theorem stored {m : Message} (size : s.inbox.messages.length < Config.inboxSize)
    (fresh : m.number ∉ s.inbox.messages.map (·.number)) :
    InboxSound { s with inbox := { s.inbox with messages := s.inbox.messages ++ [m] } } where
  size := by simpa using size
  distinct := by
    simp only [List.map_append, List.map_cons, List.map_nil]
    exact List.nodup_append.mpr ⟨h.distinct, List.nodup_singleton _, fun a ha b hb => by
      rintro rfl; exact fresh (List.mem_singleton.mp hb ▸ ha)⟩
  receipts e he receipt := by
    obtain ⟨x, hx, hn⟩ := h.receipts e he receipt
    exact ⟨x, List.mem_append_left _ hx, hn⟩

/-- The QUEUED record of a number is that of no record of the number that is not QUEUED. -/
theorem not_queued {n : Nat} (old : ∃ o ∈ s.inbox.messages, o.number = n ∧ o.receipt ≠ .queued) {m : Message}
    (hm : m ∈ s.inbox.messages) (queued : m.receipt = .queued) : m.number ≠ n := by
  obtain ⟨o, ho, rfl, other⟩ := old
  rintro same
  exact other (List.inj_on_of_nodup_map h.distinct hm ho same ▸ queued)

theorem removeMessage {n : Nat} (old : ∃ o ∈ s.inbox.messages, o.number = n ∧ o.receipt ≠ .queued) :
    InboxSound (removeMessage n s) where
  size := (List.length_filter_le ..).trans h.size
  distinct := h.distinct.sublist (List.filter_sublist.map _)
  receipts e he receipt := by
    obtain ⟨m, hm, hn, hq⟩ := h.receipts e he receipt
    exact ⟨m, List.mem_filter.mpr ⟨hm, by simpa using h.not_queued old hm hq⟩, hn, hq⟩

theorem removeMessage_size {n : Nat} (old : ∃ o ∈ s.inbox.messages, o.number = n ∧ o.receipt ≠ .queued) :
    (Machine.removeMessage n s).inbox.messages.length < Config.inboxSize := by
  obtain ⟨o, ho, hn, -⟩ := old
  refine lt_of_lt_of_le ?_ h.size
  exact List.length_filter_lt_length_iff_exists.mpr ⟨o, ho, by simp [hn]⟩

end InboxSound

theorem inboxSound_empty {s : State} (inbox : s.inbox = resetInbox) (queue : s.scheduler.queue = []) :
    InboxSound s where
  size := by rw [inbox]; decide
  distinct := by rw [inbox]; decide
  receipts e he := by rw [queue] at he; exact absurd he List.not_mem_nil

theorem inboxSound_quietKept : QuietKept InboxSound := by
  intro s t hq h
  cases hq with
  | fewer only fewer =>
    exact h.of_queue (congrArg (·.inbox.messages) only) fun e he receipt => ⟨e, fewer.subset he, receipt, rfl⟩
  | entries f _ left =>
    refine h.of_queue rfl fun e he receipt => ?_
    obtain ⟨x, hx, rfl⟩ := List.mem_map.mp he
    exact ⟨x, hx, (left x).1 ▸ receipt, (left x).2.1.symm⟩
  | placed kind key content deadline _ other => exact h.placeEntry other key content deadline
  | receipt m _ standing => exact h.placeReceipt standing
  | inbox only messages => exact h.congr messages (congrArg (·.scheduler.queue) only)
  | message n f _ number left =>
    refine h.updateMessage number fun e he receipt key m hm hn queued => ?_
    obtain all | old | absent := left
    · exact all m queued
    · exact absurd hn (h.not_queued old hm queued)
    · exact absurd key (absent e he receipt)
  | stored m _ size fresh => exact h.stored size (findMessage_eq_none fresh)
  | storedOver n m _ old fresh =>
    refine ((h.removeMessage old).stored (h.removeMessage_size old) ?_).congr rfl rfl
    exact fun standing => findMessage_eq_none fresh ((List.filter_sublist.map _).subset standing)
  | deleted n _ old => exact h.removeMessage old
  | inboxReset _ empty => exact inboxSound_empty rfl empty
  | index only | locator only | panel only | settings only | link only | commit only | dirty only | meter only
  | accounts only | board only | emergency only | receiver only =>
    exact h.congr (congrArg (·.inbox.messages) only) (congrArg (·.scheduler.queue) only)
  | windowOpened | windowStretched | transmitted | voice | voiceBlocked => exact h.congr rfl rfl
  | _ => exact h.congr (by simp) (by simp)

theorem inboxSound_stepKept : StepKept InboxSound :=
  inboxSound_quietKept.stepKept (fun _ _ _ h => h.congr rfl rfl) fun _ _ h => h.congr rfl rfl

theorem loaded_talk (s : State) : (loaded s).board = resetBoard ∧ (loaded s).inbox = resetInbox := by
  simp [loaded, loadedStore]; exact ⟨rfl, rfl⟩

/-- Settles O59. -/
theorem everyStepKeepsBoardAndInbox : Obligations.EveryStepKeepsBoardAndInbox := by
  intro s t h
  constructor
  · exact boardSound_stepKept.step (fun _ _ h => h.congr rfl)
      (fun s _ h _ => boardSound_quietKept.powerOn (fun _ _ h => h.congr rfl)
        (boardSound_empty (loaded_talk (settled s)).1) h) h
  · exact inboxSound_stepKept.step (fun _ _ h => h.congr rfl rfl)
      (fun s _ h _ => inboxSound_quietKept.powerOn (fun _ _ h => h.congr rfl rfl)
        (inboxSound_empty (loaded_talk (settled s)).2 (loaded_queue (settled s))) h) h

end Sys2Proof.Machine
end

section
/-! PROOFS. The fare, the metrology and the trip log: the arithmetic of the increments and of a switch of tariff, and what
each elementary change keeps. -/

namespace Sys2Proof.Machine

/-! ### The arithmetic of the fare (R107, R111, R116) -/

/-- With K and the steps in their ranges every step size is positive. -/
theorem stepUnits_pos {s : State} (ok : MetrologyOk s.store.working) (calibrated : pulseConstant s ≠ 0) (n : Nat) :
    0 < stepUnits n s := by
  have pulses : 500 ≤ s.store.working.metrology.pulseConstant := (ok.pulses.resolve_left calibrated).1
  have distance := (ok.distanceStep n).1
  have time := (ok.timeStep n).1
  refine Nat.mul_pos (Nat.div_pos ?_ (by decide)) (by omega)
  calc 1000 ≤ 10 * 500 := by decide
    _ ≤ _ := (Nat.mul_le_mul distance pulses).trans (Nat.le_add_right ..)

theorem increments_acc (n S amount : Nat) (t : Trip) : (increments n S amount t).acc = t.acc - n * S := by
  induction n generalizing t with
  | zero => simp [increments]
  | succ n ih => rw [increments, ih, increment, Nat.cast_succ]; ring

theorem increments_tariff (n S amount : Nat) (t : Trip) : (increments n S amount t).tariff = t.tariff := by
  induction n generalizing t with
  | zero => rfl
  | succ n ih => rw [increments, ih]; rfl

theorem increment_fare_le (S amount : Nat) (t : Trip) : (increment S amount t).fare ≤ Config.maxFare := by
  simp only [increment, decide_eq_true_eq]
  split <;> omega

theorem increments_fare_le {n S amount : Nat} {t : Trip} (h : t.fare ≤ Config.maxFare) :
    (increments n S amount t).fare ≤ Config.maxFare := by
  induction n generalizing t with
  | zero => exact h
  | succ n ih => exact ih (increment_fare_le S amount t)

/-- What an accumulator has left when the steps that it carries are taken is below one step. -/
theorem acc_after_carried {S : Nat} (positive : 0 < S) (acc : Int) : acc - carried acc S * S < (S : Int) := by
  have hS : (0 : Int) < S := by exact_mod_cast positive
  unfold carried
  obtain nonneg | neg := le_or_gt 0 acc
  · rw [Int.toNat_of_nonneg (Int.ediv_nonneg nonneg hS.le)]
    have split := Int.emod_add_mul_ediv acc S
    have small := Int.emod_lt_of_pos acc hS
    linarith [mul_comm (S : Int) (acc / S)]
  · have : (acc / (S : Int)).toNat = 0 := Int.toNat_of_nonpos (Int.ediv_neg_of_neg_of_pos neg hS).le
    rw [this]; push_cast; linarith

theorem addProgress_acc {S : Nat} (positive : 0 < S) (g amount : Nat) (t : Trip) :
    (addProgress g S amount t).acc < (S : Int) := by
  rw [addProgress, increments_acc]; exact acc_after_carried positive _

/-- An accumulator below one step of tariff a is, rescaled to tariff b, below one step of b. -/
theorem tdiv_rescale_lt {A : Int} {a b : Nat} (ha : 0 < a) (hb : 0 < b) (h : A < a) :
    Int.tdiv (A * b) a < (b : Int) := by
  have ha' : (0 : Int) < a := by exact_mod_cast ha
  have hb' : (0 : Int) < b := by exact_mod_cast hb
  obtain nonneg | neg := le_or_gt 0 A
  · rw [Int.tdiv_eq_ediv_of_nonneg (mul_nonneg nonneg hb'.le)]
    exact Int.ediv_lt_of_lt_mul ha' (by rw [mul_comm (b : Int)]; exact mul_lt_mul_of_pos_right h hb')
  · have flipped : Int.tdiv (-(A * b)) a = -Int.tdiv (A * b) a := Int.neg_tdiv ..
    have := Int.tdiv_nonneg (a := -(A * b)) (b := a) (by nlinarith) ha'.le
    omega

/-! ### The settings in the nonvolatile memory -/

/-- A settings copy that stands after a torn write stood before it. -/
theorem settings_of_torn {item : WriteItem} {n : Nonvolatile} {c : SettingsCopy} :
    ((torn item n).settingsA = some c → n.settingsA = some c) ∧
    ((torn item n).settingsB = some c → n.settingsB = some c) := by
  unfold torn; split <;> exact ⟨by simp [updatePosition], by simp [updatePosition]⟩

/-- A settings copy that stands after a write stood before it or was written. -/
theorem settings_of_written {item : WriteItem} {n : Nonvolatile} {c : SettingsCopy} :
    ((written item n).settingsA = some c → n.settingsA = some c ∨ ∃ copy, item = .settings copy c) ∧
    ((written item n).settingsB = some c → n.settingsB = some c ∨ ∃ copy, item = .settings copy c) := by
  unfold written
  split
  case h_7 c' =>
    exact ⟨fun h => .inr ⟨.a, by rw [Option.some.inj h]⟩, .inl⟩
  case h_8 c' =>
    exact ⟨.inl, fun h => .inr ⟨.b, by rw [Option.some.inj h]⟩⟩
  all_goals exact ⟨.inl, .inl⟩

theorem writingOk_none : WritingOk none := fun _ _ _ h => absurd h (by simp)

/-! ### The fare -/

namespace FareSound

theorem congr {s t : State} (h : FareSound s) (trip : t.meter.trip = s.meter.trip)
    (state : t.meter.state = s.meter.state) (working : t.store.working = s.store.working)
    (stored : t.store.stored = s.store.stored) (memory : t.nonvolatile = s.nonvolatile)
    (writing : t.writer.writing = s.writer.writing) : FareSound t where
  fare := by rw [trip]; exact h.fare
  calibrated := by rw [state, working]; exact h.calibrated
  accumulator := by simp only [stepUnits]; rw [trip, state, working]; exact h.accumulator
  working := by rw [working]; exact h.working
  stored := by rw [stored]; exact h.stored
  copyA := by rw [memory]; exact h.copyA
  copyB := by rw [memory]; exact h.copyB
  writing := by rw [writing]; exact h.writing

/-- A change of the meter alone. -/
theorem of_meter {s : State} (h : FareSound s) (m : Meter) (fare : ∀ t, m.trip = some t → t.fare ≤ Config.maxFare)
    (calibrated : m.state.onTrip = true → s.store.working.metrology.pulseConstant ≠ 0)
    (accumulator : ∀ t, m.state.onTrip = true → m.trip = some t → t.acc < (stepUnits t.tariff s : Int)) :
    FareSound { s with meter := m } :=
  ⟨fare, calibrated, accumulator, h.working, h.stored, h.copyA, h.copyB, h.writing⟩

/-- A change of the trip in progress that keeps its fare and its accumulator sound. -/
theorem updateTrip {s : State} (h : FareSound s) {f : Trip → Trip}
    (fare : ∀ t, t.fare ≤ Config.maxFare → (f t).fare ≤ Config.maxFare)
    (acc : ∀ t, s.meter.state.onTrip = true → t.acc < (stepUnits t.tariff s : Int) →
      (f t).acc < (stepUnits (f t).tariff s : Int)) : FareSound (updateTrip f s) := by
  refine h.of_meter _ ?_ h.calibrated ?_
  · intro t ht
    obtain ⟨u, hu, rfl⟩ := Option.map_eq_some_iff.mp ht
    exact fare u (h.fare u hu)
  · intro t on ht
    obtain ⟨u, hu, rfl⟩ := Option.map_eq_some_iff.mp ht
    exact acc u on (h.accumulator u on hu)

variable {s : State} (h : FareSound s)
include h

theorem tripSecond (p : Nat) (hired : s.meter.state = .hired) : FareSound (Machine.updateTrip (tripSecond p s) s) := by
  have on : s.meter.state.onTrip = true := by rw [hired]; rfl
  refine h.updateTrip (fun t fare => increments_fare_le fare) fun t _ _ => ?_
  have tariff : (Machine.tripSecond p s t).tariff = t.tariff := increments_tariff ..
  rw [tariff]
  exact addProgress_acc (stepUnits_pos h.working (h.calibrated on) t.tariff) _ _ t

theorem switched (b : Nat) : FareSound (Machine.updateTrip (switchTo b s) s) :=
  h.updateTrip (fun _ fare => fare) fun t on acc =>
    have positive := stepUnits_pos h.working (h.calibrated on)
    tdiv_rescale_lt (positive t.tariff) (positive b) acc

theorem openTrip (i : Nat) (calibrated : pulseConstant s ≠ 0) :
    FareSound (openTrip { s with meter := { s.meter with state := .hired, secondSince := i } }) := by
  set u : State := { s with meter := { s.meter with state := .hired, secondSince := i } } with hu
  have opened := h.of_meter { u.meter with trip := some (openedTrip u), checkpointCount := 0, resumeOpen := false }
    (fun t ht => ?_) (fun _ => calibrated) (fun t _ ht => ?_)
  · exact opened.congr rfl rfl rfl rfl rfl rfl
  · obtain rfl := Option.some.inj ht
    exact (h.working.flagFall _).trans (by decide)
  · obtain rfl := Option.some.inj ht
    have positive := stepUnits_pos h.working calibrated (openedTrip u).tariff
    have included : (openedTrip u).acc ≤ 0 := Int.neg_nonpos_of_nonneg (Int.natCast_nonneg _)
    exact lt_of_le_of_lt included (by exact_mod_cast positive)

theorem losePower : FareSound (losePower s) := by
  unfold Machine.losePower; split
  · exact ⟨h.fare, h.calibrated, h.accumulator, h.working, h.stored, h.copyA, h.copyB, writingOk_none⟩
  · exact ⟨h.fare, h.calibrated, h.accumulator, h.working, h.stored,
      fun c hc => h.copyA c (settings_of_torn.1 hc), fun c hc => h.copyB c (settings_of_torn.2 hc), writingOk_none⟩

omit h in
/-- A write that is begun holds settings as they work. -/
theorem settings_of_nextItem {copy : Copy} {c : SettingsCopy} (next : nextItem s = some (.settings copy c)) :
    c.settings = s.store.working := by
  unfold nextItem accountsItem lateItem totalsItem settingsItem at next
  split at next
  · simp at next
  split at next
  · simp at next
  split at next
  · simp at next
  split at next
  · simp at next
  split at next
  · simp at next
  split at next
  · simp only [Option.some.injEq, WriteItem.settings.injEq] at next
    exact next.2 ▸ rfl
  · simp at next

theorem startWrite : FareSound (startWrite s) := by
  unfold Machine.startWrite; split
  · exact h
  rename_i item next
  have begun : FareSound { s with writer := { clearDirty item s.writer with writing := some ⟨item, s.now⟩ } } := by
    refine ⟨h.fare, h.calibrated, h.accumulator, h.working, h.stored, h.copyA, h.copyB, fun x copy c hx hc => ?_⟩
    obtain rfl := Option.some.inj hx
    obtain rfl : item = .settings copy c := hc
    exact settings_of_nextItem next ▸ h.working
  unfold noteStart
  split <;> exact begun.congr rfl rfl rfl rfl rfl rfl

theorem completeWrite : FareSound (completeWrite s) := by
  unfold Machine.completeWrite; split
  · exact h
  rename_i w writing
  have taken (copy : Copy) (c : SettingsCopy) (hc : w.item = .settings copy c) : MetrologyOk c.settings :=
    h.writing w copy c writing hc
  have done : FareSound { s with
      nonvolatile := written w.item s.nonvolatile
      writer := { s.writer with writing := none } } := by
    refine ⟨h.fare, h.calibrated, h.accumulator, h.working, h.stored, fun c hc => ?_, fun c hc => ?_, writingOk_none⟩
    · obtain old | ⟨copy, hw⟩ := settings_of_written.1 hc
      · exact h.copyA c old
      · exact taken copy c hw
    · obtain old | ⟨copy, hw⟩ := settings_of_written.2 hc
      · exact h.copyB c old
      · exact taken copy c hw
  unfold noteCompletion; split
  · unfold totalsWritten; dsimp only; split <;> exact done.congr rfl rfl rfl rfl rfl rfl
  · rename_i copy c hw
    exact ⟨done.fare, done.calibrated, done.accumulator, done.working, taken copy c hw, done.copyA, done.copyB,
      done.writing⟩
  all_goals exact done

end FareSound

theorem fareSound_quietKept : QuietKept FareSound := by
  intro s t hq h
  cases hq with
  | loss => exact h.losePower
  | settings only ok free =>
    have kept : FareSound { s with store := { s.store with working := t.store.working } } := by
      refine ⟨h.fare, fun on => ?_, fun x on hx => ?_, ok h.working h.stored, h.stored, h.copyA, h.copyB, h.writing⟩
      · obtain same | off := free
        · simpa only [same] using h.calibrated on
        · exact absurd on (by simp [off])
      · obtain same | off := free
        · simpa only [stepUnits, same] using h.accumulator x on hx
        · exact absurd on (by simp [off])
    rw [only]; exact kept
  | dirty only writing =>
    exact h.congr (congrArg (·.meter.trip) only) (congrArg (·.meter.state) only) (congrArg (·.store.working) only)
      (congrArg (·.store.stored) only) (congrArg (·.nonvolatile) only) writing
  | writeStarted => exact h.startWrite
  | writeCompleted => exact h.completeWrite
  | meter only state trip =>
    exact h.congr trip state (congrArg (·.store.working) only) (congrArg (·.store.stored) only)
      (congrArg (·.nonvolatile) only) (congrArg (·.writer.writing) only)
  | trip f _ left =>
    refine h.updateTrip (fun x fare => (left x).1 ▸ fare) fun x _ acc => ?_
    obtain ⟨-, hacc, tariff⟩ := left x
    rw [hacc, tariff]; exact acc
  | tripSecond p _ hired => exact h.tripSecond p hired
  | switched b => exact h.switched b
  | meterState st i _ left =>
    exact h.of_meter _ h.fare (fun on => h.calibrated (left on)) fun x on => h.accumulator x (left on)
  | tripOpened i _ calibrated => exact h.openTrip i calibrated
  | tripEnded => exact h.of_meter _ (fun _ hx => by simp at hx) h.calibrated fun _ _ hx => by simp at hx
  | index only | locator only | panel only | link only | commit only | accounts only | board only | emergency only
  | fewer only | inbox only | receiver only =>
    exact h.congr (congrArg (·.meter.trip) only) (congrArg (·.meter.state) only) (congrArg (·.store.working) only)
      (congrArg (·.store.stored) only) (congrArg (·.nonvolatile) only) (congrArg (·.writer.writing) only)
  | windowOpened | windowStretched | transmitted | voice | voiceBlocked | levelDropped | codeFailed | codeTaken
  | lockoutEnded | appended | presented | replaced | boardRead | boardReset | entries | stored | storedOver
  | inboxReset => exact h.congr rfl rfl rfl rfl rfl rfl
  | _ => exact h.congr (by simp) (by simp) (by simp) (by simp) (by simp) (by simp)

theorem fareSound_stepKept : StepKept FareSound :=
  fareSound_quietKept.stepKept (fun _ _ _ h => h.congr rfl rfl rfl rfl rfl rfl)
    fun _ _ h => h.congr rfl rfl rfl rfl rfl rfl

/-! ### The fare at a power-on -/

theorem metrologyOk_default : MetrologyOk defaultSettings := by
  constructor
  · decide
  all_goals
    intro n
    unfold Tariffs.get
    split <;> decide

/-- The settings of the nonvolatile memory lie in their ranges. -/
structure MemoryOk (n : Nonvolatile) : Prop where
  copyA : ∀ c, n.settingsA = some c → MetrologyOk c.settings
  copyB : ∀ c, n.settingsB = some c → MetrologyOk c.settings

theorem FareSound.memoryOk {s : State} (h : FareSound s) : MemoryOk s.nonvolatile := ⟨h.copyA, h.copyB⟩

theorem FareSound.settled {s : State} (h : FareSound s) : MemoryOk (settled s).nonvolatile := by
  unfold Machine.settled; split
  swap
  · exact h.memoryOk
  unfold settleWrite; split
  · exact h.memoryOk
  rename_i w writing
  dsimp only; split
  · exact h.memoryOk
  · exact ⟨fun c hc => h.copyA c (settings_of_torn.1 hc), fun c hc => h.copyB c (settings_of_torn.2 hc)⟩
  · constructor
    · intro c hc
      obtain old | ⟨copy, hw⟩ := settings_of_written.1 hc
      · exact h.copyA c old
      · exact h.writing w copy c writing hw
    · intro c hc
      obtain old | ⟨copy, hw⟩ := settings_of_written.2 hc
      · exact h.copyB c old
      · exact h.writing w copy c writing hw

theorem newestCopy_cases {α : Type} {generation : α → Nat} {a b : Option α} {x : Copy × α}
    (h : newestCopy generation a b = some x) : a = some x.2 ∨ b = some x.2 := by
  unfold newestCopy at h
  split at h
  · split at h
    · exact .inr (by rw [← Option.some.inj h])
    · exact .inl (by rw [← Option.some.inj h])
  · exact .inl (by rw [← Option.some.inj h])
  · exact .inr (by rw [← Option.some.inj h])
  · simp at h

theorem metrologyOk_loadSettings {s : State} (h : MemoryOk s.nonvolatile) :
    MetrologyOk (loadSettings (blank s)).store.working ∧ MetrologyOk (loadSettings (blank s)).store.stored := by
  unfold loadSettings; split
  · rename_i name c newest
    have ok : MetrologyOk c.settings := by
      obtain a | b := newestCopy_cases newest
      · exact h.copyA c a
      · exact h.copyB c b
    exact ⟨ok, ok⟩
  · exact ⟨metrologyOk_default, metrologyOk_default⟩

theorem fareSound_loaded {s : State} (h : MemoryOk s.nonvolatile) : FareSound (loaded s) := by
  have meter : (loaded s).meter = State.reset.meter := by simp [loaded, loadedStore]; rfl
  have store : (loaded s).store = (loadSettings (blank s)).store := by simp [loaded, loadedStore]
  have memory : (loaded s).nonvolatile = s.nonvolatile := by simp [loaded, loadedStore]; rfl
  have writer : (loaded s).writer.writing = none := by simp [loaded, loadedStore]; rfl
  obtain ⟨working, stored⟩ := metrologyOk_loadSettings h
  constructor
  · intro t ht; rw [meter] at ht; exact absurd (show none = some t from ht) nofun
  · intro on; rw [meter] at on; exact absurd on (by decide)
  · intro t on; rw [meter] at on; exact absurd on (by decide)
  · rw [store]; exact working
  · rw [store]; exact stored
  · rw [memory]; exact h.copyA
  · rw [memory]; exact h.copyB
  · rw [writer]; exact writingOk_none

/-! ### The trip log -/

/-- The number of a record follows that of the one before it. -/
def Follows (a b : LogEntry) : Prop := b.record.seq = numberAfter a.record.seq

theorem nextNumber_eq_numberAfter (n : Nat) : nextNumber Config.max16 n = numberAfter n := by
  unfold nextNumber numberAfter
  have : Config.max16 = 65535 := rfl
  split <;> split <;> omega

namespace LogSound

theorem chain {s : State} (h : LogSound s) : s.accounts.log.IsChain Follows :=
  List.isChain_iff_forall_rel_of_append_cons_cons.mpr fun a b l m hl => h.consecutive l a b m hl

theorem congr {s t : State} (h : LogSound s) (log : t.accounts.log = s.accounts.log)
    (next : t.accounts.nextSeq = s.accounts.nextSeq) : LogSound t where
  size := by rw [log]; exact h.size
  positions := by rw [log]; exact h.positions
  inside := by rw [log]; exact h.inside
  consecutive := by rw [log]; exact h.consecutive
  next := by rw [log, next]; exact h.next

end LogSound

/-- A log of records at distinct places with consecutive numbers, the next number after its last. -/
theorem logSound_of_chain {s : State} (size : s.accounts.log.length ≤ 32)
    (positions : (s.accounts.log.map (·.position)).Nodup) (inside : ∀ e ∈ s.accounts.log, e.position < 32)
    (chain : s.accounts.log.IsChain Follows)
    (next : ∀ e ∈ s.accounts.log.getLast?, s.accounts.nextSeq = numberAfter e.record.seq) : LogSound s where
  size := size
  positions := positions
  inside := inside
  consecutive l a b m hl := List.isChain_iff_forall_rel_of_append_cons_cons.mp chain hl
  next l a hl := next a (by simp [hl])

/-- A log of fewer than 32 records has an empty position, and a new record takes one. -/
theorem freePosition_free {log : List LogEntry} (room : log.length < 32) :
    freePosition log < 32 ∧ freePosition log ∉ log.map (·.position) := by
  have free : ∃ p ∈ List.range 32, p ∉ log.map (·.position) := by
    by_contra full
    push Not at full
    have := (List.subperm_of_subset List.nodup_range full).length_le
    simp at this; omega
  unfold freePosition
  cases found : (List.range Config.logSize).find? fun p => !log.any (·.position == p) with
  | none =>
    obtain ⟨p, hp, empty⟩ := free
    have taken := List.find?_eq_none.mp found p hp
    simp only [Bool.not_eq_true', Bool.not_eq_false, List.any_eq_true, beq_iff_eq] at taken
    obtain ⟨e, he, at_⟩ := taken
    exact absurd (List.mem_map.mpr ⟨e, he, at_⟩) empty
  | some p =>
    refine ⟨List.mem_range.mp (List.mem_of_find?_eq_some found), fun taken => ?_⟩
    have empty := List.find?_some found
    simp only [Option.getD_some, List.mem_map] at taken
    obtain ⟨e, he, at_⟩ := taken
    simp only [Bool.not_eq_true', List.any_eq_false, beq_iff_eq] at empty
    exact empty e he at_

/-- A record of the next number joins a log at a place that none of its records has. -/
theorem LogSound.appended {s : State} (h : LogSound s) (new : LogEntry) (log : List LogEntry)
    (suffix : log.IsChain Follows) (last : log.getLast? = s.accounts.log.getLast? ∨ log = [])
    (size : log.length < 32) (positions : (log.map (·.position)).Nodup) (inside : ∀ e ∈ log, e.position < 32)
    (place : new.position < 32 ∧ new.position ∉ log.map (·.position))
    (seq : new.record.seq = s.accounts.nextSeq ∨ log = []) :
    LogSound { s with accounts := { s.accounts with
      log := log ++ [new], nextSeq := nextNumber Config.max16 new.record.seq } } := by
  refine logSound_of_chain (by simp; omega) ?_ ?_ ?_ ?_
  · simp only [List.map_append, List.map_cons, List.map_nil]
    exact List.nodup_append.mpr ⟨positions, List.nodup_singleton _, fun a ha b hb => by
      rintro rfl; exact place.2 (List.mem_singleton.mp hb ▸ ha)⟩
  · intro e he
    obtain old | rfl := List.mem_append.mp he |>.imp_right List.mem_singleton.mp
    · exact inside e old
    · exact place.1
  · refine suffix.append (.singleton new) fun x hx y hy => ?_
    obtain rfl := Option.some.inj hy
    obtain last | none := last
    · obtain same | none := seq
      · rw [Follows, same]
        obtain ⟨l, hl⟩ := List.getLast?_eq_some_iff.mp (last ▸ hx)
        exact h.next l x hl
      · simp [none] at hx
    · simp [none] at hx
  · intro e he
    simp only [List.getLast?_append, List.getLast?_singleton, Option.some_or, Option.mem_def, Option.some.injEq] at he
    rw [← he]; exact nextNumber_eq_numberAfter _

theorem logSound_appendedLog {s : State} (h : LogSound s) (r : TripRecord)
    (seq : r.seq = s.accounts.nextSeq ∨ s.accounts.log = []) :
    LogSound { s with accounts := { s.accounts with
      log := appendedLog r s.accounts.log, nextSeq := nextNumber Config.max16 r.seq } } := by
  unfold appendedLog
  split
  · rename_i room
    exact h.appended ⟨freePosition s.accounts.log, r, none⟩ s.accounts.log h.chain (.inl rfl) room h.positions h.inside
      (freePosition_free room) seq
  · rename_i full
    split
    · rename_i empty; simp [empty, Config.logSize] at full
    · rename_i e rest hlog
      have size : (e :: rest).length ≤ 32 := hlog ▸ h.size
      have positions : ((e :: rest).map (·.position)).Nodup := hlog ▸ h.positions
      have inside : ∀ x ∈ e :: rest, x.position < 32 := hlog ▸ h.inside
      have chain : (e :: rest).IsChain Follows := hlog ▸ h.chain
      have place : e.position ∉ rest.map (·.position) := (List.nodup_cons.mp positions).1
      refine h.appended ⟨e.position, r, none⟩ rest chain.tail ?_ (by simpa using size)
        (List.nodup_cons.mp positions).2 (fun x hx => inside x (by simp [hx])) ⟨inside e (by simp), place⟩
        (.inl (seq.resolve_right (by simp [hlog])))
      cases rest with
      | nil => exact .inr rfl
      | cons x xs => exact .inl (by rw [hlog]; simp)

/-- A change of a record that leaves its position and its number. -/
theorem LogSound.updateRecord {s : State} (h : LogSound s) (seq : Nat) {f : LogEntry → LogEntry}
    (left : ∀ e, (f e).position = e.position ∧ (f e).record.seq = e.record.seq) : LogSound (updateRecord seq f s) := by
  set g : LogEntry → LogEntry := fun e => if e.record.seq == seq then f e else e with hg
  have position (e : LogEntry) : (g e).position = e.position := by
    simp only [hg]; split
    · exact (left e).1
    · rfl
  have number (e : LogEntry) : (g e).record.seq = e.record.seq := by
    simp only [hg]; split
    · exact (left e).2
    · rfl
  have log : (Machine.updateRecord seq f s).accounts.log = s.accounts.log.map g := rfl
  have next : (Machine.updateRecord seq f s).accounts.nextSeq = s.accounts.nextSeq := rfl
  refine logSound_of_chain ?_ ?_ ?_ ?_ ?_ <;> rw [log]
  · simpa using h.size
  · simpa [List.map_map, Function.comp_def, position] using h.positions
  · intro e he
    obtain ⟨x, hx, rfl⟩ := List.mem_map.mp he
    rw [position]; exact h.inside x hx
  · exact (List.isChain_map g).mpr (h.chain.imp fun a b hab => by rw [Follows, number, number]; exact hab)
  · intro e he
    rw [List.getLast?_map, Option.mem_def, Option.map_eq_some_iff] at he
    obtain ⟨x, hx, rfl⟩ := he
    obtain ⟨l, hl⟩ := List.getLast?_eq_some_iff.mp hx
    rw [next, number]; exact h.next l x hl

@[simp] theorem startWrite_log (s : State) :
    (startWrite s).accounts.log = s.accounts.log ∧ (startWrite s).accounts.nextSeq = s.accounts.nextSeq := by
  unfold startWrite noteStart
  split
  · exact ⟨rfl, rfl⟩
  · split <;> exact ⟨rfl, rfl⟩

@[simp] theorem completeWrite_log (s : State) :
    (completeWrite s).accounts.log = s.accounts.log ∧ (completeWrite s).accounts.nextSeq = s.accounts.nextSeq := by
  unfold completeWrite noteCompletion
  split
  · exact ⟨rfl, rfl⟩
  · split
    · unfold totalsWritten; dsimp only; split <;> exact ⟨rfl, rfl⟩
    all_goals exact ⟨rfl, rfl⟩

theorem logSound_quietKept : QuietKept LogSound := by
  intro s t hq h
  cases hq with
  | accounts only log next => exact h.congr log next
  | records seq f _ left => exact h.updateRecord seq left
  | appended r _ seq => exact logSound_appendedLog h r seq
  | index only | locator only | panel only | settings only | link only | commit only | dirty only | meter only
  | board only | emergency only | fewer only | inbox only | receiver only =>
    exact h.congr (congrArg (·.accounts.log) only) (congrArg (·.accounts.nextSeq) only)
  | windowOpened | windowStretched | transmitted | voice | voiceBlocked | levelDropped | codeFailed | codeTaken
  | lockoutEnded | presented | replaced | boardRead | boardReset | entries | stored | storedOver | inboxReset =>
    exact h.congr rfl rfl
  | _ => exact h.congr (by simp) (by simp)

theorem logSound_stepKept : StepKept LogSound :=
  logSound_quietKept.stepKept (fun _ _ _ h => h.congr rfl rfl) fun _ _ h => h.congr rfl rfl

/-- Settles O60. -/
theorem everyStepKeepsFareAndLog : Obligations.EveryStepKeepsFareAndLog := by
  intro s t h
  constructor
  · exact fareSound_stepKept.step (fun _ _ h => h.congr rfl rfl rfl rfl rfl rfl)
      (fun s _ h fare => fareSound_quietKept.powerOn (fun _ _ h => h.congr rfl rfl rfl rfl rfl rfl)
        (fareSound_loaded fare.settled) h) h
  · intro other log
    have kept (u : State) : u.accounts = s.accounts → LogSound u := fun same =>
      log.congr (congrArg (·.log) same) (congrArg (·.nextSeq) same)
    unfold step at h
    split at h
    · obtain rfl := Host.Outcome.next.inj h
      refine kept _ ?_
      unfold idle; (repeat' split) <;> rfl
    · rename_i c rest pending
      exact logSound_stepKept.exec (kept { s with pending := rest } rfl) c t (fun on => other rest (on ▸ pending)) h

end Sys2Proof.Machine
end

section
/-! PROOFS. The whole part: a step, an empty queue, and what no command does. -/

namespace Sys2Proof.Machine

/-- Settles O1. -/
theorem stepRunsTheFrontCommand : Obligations.StepRunsTheFrontCommand := fun _ _ _ => rfl

/-- Settles O3. -/
theorem emptyQueueRunsTheClock : Obligations.EmptyQueueRunsTheClock := by
  intro s empty
  have step_eq : step s = .next (idle s) := by simp only [step, empty]
  rw [step_eq]
  refine ⟨fun off => by simp [idle, off], fun on none => by simp [idle, on, none], fun on some => ?_⟩
  have positive : 0 < (dueSteps s).length := List.length_pos_iff.mpr some
  have inside := Nat.mod_lt (Config.firstStep s.freeIndex) positive
  refine ⟨(dueSteps s)[Config.firstStep s.freeIndex % (dueSteps s).length], List.getElem_mem inside, ?_⟩
  have queued : idle s = queueDue (dueSteps s) s := by
    unfold idle; rw [if_pos on]; split
    · rename_i none; exact absurd none some
    · rename_i due; rw [due]
  rw [queued, queueDue, List.drop_eq_getElem_cons inside, List.take_succ_cons, List.take_zero]

/-- The queue of commands is that of an earlier state, and its uptime has passed. -/
def Later (s t : State) : Prop := t.pending = s.pending ∧ s.now ≤ t.now

theorem later_quietKept (s₀ : State) : QuietKept (Later s₀) := by
  intro s t hq h
  obtain ⟨pending, now⟩ := h
  have kept (p : t.pending = s.pending) (n : s.now ≤ t.now) : Later s₀ t := ⟨p.trans pending, now.trans n⟩
  cases hq with
  | clock u => exact kept rfl (Nat.le_max_left ..)
  | index only | locator only | panel only | settings only | link only | commit only | dirty only | meter only
  | accounts only | board only | emergency only | fewer only | inbox only | receiver only =>
    exact kept (congrArg (·.pending) only) (congrArg (·.now) only).ge
  | _ => exact kept (by simp) (by simp)

theorem later_stepKept (s₀ : State) : StepKept (Later s₀) :=
  (later_quietKept s₀).stepKept (fun _ _ _ h => h) fun _ _ h => h

theorem exec_answers (c : Instr) (s : State) : ∃ t, exec c s = .next t := by cases c <;> exact ⟨_, rfl⟩

theorem powerOn_fresh {s t : State} (h : exec .powerOn s = .next t) : t.now = 0 ∧ t.pending = s.pending := by
  obtain rfl := Host.Outcome.next.inj h
  have kept : (settled s).pending = s.pending := by unfold settled; split <;> simp
  have core : ∀ u : State, (findVoice (recovered u)).now = (blank u).now ∧
      (findVoice (recovered u)).pending = (blank u).pending := fun u => by simp [recovered, loaded, loadedStore]
  exact ⟨(core (settled s)).1, (core (settled s)).2.trans kept⟩

/-- Settles O2. -/
theorem everyCommandGoesOn : Obligations.EveryCommandGoesOn := by
  intro c s
  obtain ⟨t, h⟩ := exec_answers c s
  by_cases on : c = .powerOn
  · subst on
    obtain ⟨now, pending⟩ := powerOn_fresh h
    exact ⟨t, h, pending, fun _ => now, fun other => absurd rfl other⟩
  · obtain ⟨pending, now⟩ := (later_stepKept s).exec ⟨rfl, Nat.le_refl _⟩ c t on h
    exact ⟨t, h, pending, fun on' => absurd on' on, fun _ => now⟩

/-! ### Requests turned away -/

/-- What the bytes of a request do while another frame is followed. -/
def followed (c : Instr) : State → State :=
  match c with
  | .unknownRequest t0 t1 t2 t3 => followUnknown t0 t1 t2 t3
  | c => takeLineBytes (unbroken (requestFrame c))

/-- Every request reaches the link as a whole frame. -/
theorem exec_request {c : Instr} {tag : Tag} (h : requestTag c = some tag) (s : State) :
    exec c s = .next (receiveFrame c (followed c) s) := by
  cases c with
  | unknownRequest t0 t1 t2 t3 =>
    simp only [requestTag, Option.ite_none_left_eq_some] at h
    show Host.Outcome.next _ = _
    rw [if_neg h.1]; rfl
  | _ => cases h <;> rfl

theorem receiveFrame_early (c : Instr) (follow : State → State) {s : State} (on : s.powered = true)
    (hunting : s.link.rx.phase = .hunt) (owed : s.link.owed ≠ none) :
    receiveFrame c follow s = beginEarlyFrame s := by
  simp [receiveFrame, huntFrame, dropStale_hunt s hunting, on, hunting, Option.isSome_iff_ne_none.mpr owed]

theorem receiveFrame_unpowered (c : Instr) (follow : State → State) {s : State} (off : s.powered = false) :
    receiveFrame c follow s = s := by simp [receiveFrame, off]

theorem receiveFrame_followed (c : Instr) (follow : State → State) {s : State} (on : s.powered = true)
    (following : s.link.rx.phase ≠ .hunt) (live : s.now ≤ s.link.rx.lastByte + 20) :
    receiveFrame c follow s = follow s := by
  simp [receiveFrame, dropStale_live s live, on, following]

theorem receiveFrame_stale (c : Instr) (follow : State → State) {s : State} (on : s.powered = true)
    (following : s.link.rx.phase ≠ .hunt) (stale : s.link.rx.lastByte + 20 < s.now) :
    receiveFrame c follow s = receiveFrame c follow (hunt s) := by
  simp [receiveFrame, dropStale_stale s following stale, dropStale_hunt (hunt s) rfl, on]

/-- Bytes that reach a powered part within the gap are the line's. -/
theorem receiveBytes_live {l : List LineByte} {s : State} (some : l ≠ []) (on : s.powered = true)
    (live : s.now ≤ s.link.rx.lastByte + 20) : receiveBytes l s = takeLineBytes l s := by
  simp [receiveBytes, some, on, dropStale_live s live]

theorem exec_badFrame (l : List LineByte) (s : State) : exec (.badFrame l) s = .next (receiveBytes l s) := rfl

theorem followed_recognised {c : Instr} (h : ∀ t0 t1 t2 t3, c ≠ .unknownRequest t0 t1 t2 t3) :
    followed c = takeLineBytes (unbroken (requestFrame c)) := by
  unfold followed; split
  · rename_i t0 t1 t2 t3; exact absurd rfl (h t0 t1 t2 t3)
  · rfl

theorem decodeFrame_ne_nil {bytes : List Byte} {c : Instr} (h : decodeFrame bytes = some c) : bytes ≠ [] := by
  rintro rfl; simp [decodeFrame] at h

/-- A request of the wrong size that meets a listening part is answered BAD_ARG with its tag. -/
theorem exec_wrongSize {bytes : List Byte} {c : Instr} (h : c ∈ wrongSizeRequests bytes) {s : State}
    (listening : Listening s) : ∃ tag, requestTag c = some tag ∧ exec c s = .next (answer tag .badArg [] s) := by
  have served {c : Instr} {tag : Tag} (htag : requestTag c = some tag)
      (serve : serveRequest c s = answer tag .badArg [] s) :
      ∃ tag, requestTag c = some tag ∧ exec c s = .next (answer tag .badArg [] s) := by
    obtain ⟨on, hunting, owed⟩ := listening
    refine ⟨tag, htag, (exec_request htag s).trans ?_⟩
    simp [receiveFrame, huntFrame, dropStale_hunt s hunting, on, hunting, owed, serve]
  revert c
  simp only [wrongSizeRequests, List.forall_mem_cons]
  and_intros
  on_goal 45 => exact fun _ h => absurd h List.not_mem_nil
  all_goals exact served rfl rfl

/-- Settles O4. -/
theorem requestsTurnedAway : Obligations.RequestsTurnedAway := by
  constructor
  · intro c tag s htag
    simp only [exec_request htag]
    refine ⟨fun on hunting owed => ?_, fun off => ?_, fun bytes decoded known on following live => ?_,
      fun t0 t1 t2 t3 hc on following live => ?_, fun on following stale => ?_⟩
    · rw [receiveFrame_early c _ on hunting owed]; rfl
    · rw [receiveFrame_unpowered c _ off]
    · have some : unbroken bytes ≠ [] := by simpa [unbroken] using decodeFrame_ne_nil decoded
      rw [receiveFrame_followed c _ on following live, followed_recognised known,
        requestFrame_of_decodeFrame bytes c decoded known, exec_badFrame]
      exact congrArg _ (receiveBytes_live some on live).symm
    · subst hc
      refine ⟨(Config.unknownPayload s.freeIndex).take 240, List.length_take_le .., ?_⟩
      rw [receiveFrame_followed _ _ on following live, exec_badFrame]
      refine congrArg _ (receiveBytes_live (s := { s with freeIndex := s.freeIndex + 1 }) ?_ on live).symm
      simp [unbroken, frameBytes]
    · exact congrArg _ (receiveFrame_stale c _ on following stale)
  · intro bytes c hc s listening
    exact exec_wrongSize hc listening

end Sys2Proof.Machine
end

section
/-! PROOFS. Power: what a loss tears, and what a power-on makes of each block. -/

namespace Sys2Proof.Machine

/-! ### A power loss -/

/-- The nonvolatile memory after a power loss: the item of the write in progress is torn. -/
def tornMemory (s : State) : Nonvolatile :=
  match s.writer.writing with
  | none => s.nonvolatile
  | some w => torn w.item s.nonvolatile

theorem losePower_eq (s : State) :
    losePower s = { s with
      powered := false
      writer := { s.writer with writing := none }
      receiver := { s.receiver with transmission := none }
      link := { s.link with hostReset := none }
      nonvolatile := tornMemory s } := by
  cases writing : s.writer.writing <;> simp only [losePower, tornMemory, writing] <;> rfl

theorem tornMemory_writing {s : State} {item : WriteItem} {i : Nat} (h : s.writer.writing = some ⟨item, i⟩) :
    tornMemory s = torn item s.nonvolatile := by simp only [tornMemory, h]

theorem tornMemory_idle {s : State} (h : s.writer.writing = none) : tornMemory s = s.nonvolatile := by
  simp only [tornMemory, h]

/-- Settles O5. -/
theorem powerLossTearsTheWrite : Obligations.PowerLossTearsTheWrite := by
  intro s on
  refine ⟨losePower s, ?_, ?_⟩
  · show Host.Outcome.next _ = _
    rw [whenPowered, if_pos on]
  rw [losePower_eq]
  exact ⟨rfl, tornMemory_idle, fun _ _ => tornMemory_writing, fun _ _ => tornMemory_writing,
    fun _ _ _ => tornMemory_writing, fun _ _ => tornMemory_writing, fun _ _ => tornMemory_writing,
    fun _ _ _ => tornMemory_writing, fun _ _ => tornMemory_writing, fun _ _ => tornMemory_writing⟩

/-! ### A power-on of an unpowered part -/

/-- The part after the loading, repair and recovery of the accounts, before the emergency mark is read. -/
def accounted (s : State) : State := recoverTrip (repairTotals (repairLog (loaded s)))

/-- The part that a power-on makes of an unpowered one. -/
def poweredOn (s : State) : State := findVoice (startMeter (loadMark (accounted s)))

theorem exec_powerOn_unpowered {s : State} (off : s.powered = false) : exec .powerOn s = .next (poweredOn s) := by
  rw [exec_powerOn, settled, if_neg (by simp [off])]; rfl

theorem loaded_radio (s : State) :
    (loaded s).receiver = { resetReceiver with voiceReq := s.receiver.voiceReq } ∧
    (loaded s).scheduler = resetScheduler := by
  refine ⟨loaded_receiver s, ?_⟩
  simp [loaded, loadedStore]; rfl

theorem dropEntry_absent {kind : EntryKind} {key : Nat} {s : State} (queue : s.scheduler.queue = [])
    (slotReq : s.scheduler.slotReq = none) : dropEntry kind key s = s := by
  have same : { s.scheduler with queue := [], slotReq := none } = s.scheduler := by rw [← queue, ← slotReq]
  simp [dropEntry, queue, slotReq, same]

@[simp] theorem countOverwritten_scheduler (e : LogEntry) (s : State) :
    (countOverwritten e s).scheduler = (dropEntry .tripReport e.record.seq s).scheduler := by
  unfold countOverwritten; dsimp only; split
  · rfl
  · split <;> rfl

/-- A record that joins the log leaves an empty queue as it is. -/
theorem appendRecord_scheduler {r : TripRecord} {s : State} (queue : s.scheduler.queue = [])
    (slotReq : s.scheduler.slotReq = none) : (appendRecord r s).scheduler = s.scheduler := by
  rw [appendRecord_eq]
  dsimp only [markRecord]
  split
  · rfl
  · split
    · rfl
    · rw [countOverwritten_scheduler]
      exact congrArg (·.scheduler) (dropEntry_absent (s := { s with accounts := _ }) queue slotReq)

theorem closeIntoAccounts_scheduler {r : TripRecord} {s : State} (queue : s.scheduler.queue = [])
    (slotReq : s.scheduler.slotReq = none) : (closeIntoAccounts r s).scheduler = s.scheduler := by
  unfold closeIntoAccounts; dsimp only; split <;> simp [appendRecord_scheduler queue slotReq]

theorem accounted_radio (s : State) :
    (accounted s).receiver = { resetReceiver with voiceReq := s.receiver.voiceReq } ∧
    (accounted s).scheduler = resetScheduler := by
  obtain ⟨receiver, scheduler⟩ := loaded_radio s
  have repaired : (repairTotals (repairLog (loaded s))).scheduler = resetScheduler := by
    have log : (repairLog (loaded s)).scheduler = resetScheduler := by
      unfold repairLog; split
      · exact scheduler
      · split
        · rw [appendRecord_scheduler (by rw [scheduler]; rfl) (by rw [scheduler]; rfl), scheduler]
        · exact scheduler
    simpa using log
  constructor
  · simp [accounted, receiver]
  · unfold accounted recoverTrip; split
    · simp only [markCheckpoint]
      rw [closeIntoAccounts_scheduler (by rw [repaired]; rfl) (by rw [repaired]; rfl), repaired]
    · exact repaired

theorem accounted_store (s : State) : (accounted s).store = (loadSettings (blank s)).store := by
  simp [accounted, loaded, loadedStore]

theorem accounted_talk (s : State) :
    (accounted s).board = resetBoard ∧ (accounted s).inbox = resetInbox ∧ (accounted s).emergency = resetEmergency := by
  simp [accounted, loaded, loadedStore]; exact ⟨rfl, rfl, rfl⟩

theorem accounted_core (s : State) : (accounted s).powered = true ∧ (accounted s).now = 0 ∧
    (accounted s).nonvolatile = s.nonvolatile ∧ (accounted s).pending = s.pending := by
  simp [accounted, loaded, loadedStore]; exact ⟨rfl, rfl, rfl, rfl⟩

theorem accounted_link (s : State) : (accounted s).link = (loaded s).link := by simp [accounted]

/-- What the loading raises beside what stands: FAULT for an item that is not valid. -/
theorem loading_link {u v : State} (h : v.link = u.link ∨ v.link = (raise .fault u).link)
    (fresh : u.link = resetLink ∨ u.link = { resetLink with events := [.fault] }) :
    v.link = resetLink ∨ v.link = { resetLink with events := [.fault] } := by
  obtain same | raised := h
  · rw [same]; exact fresh
  · rw [raised]; right
    obtain e | e := fresh <;> simp only [raise, e] <;> rfl

theorem loadSettings_link (s : State) :
    (loadSettings s).link = s.link ∨ (loadSettings s).link = (raise .fault s).link := by
  unfold loadSettings; split
  · exact .inl rfl
  · exact .inr rfl

theorem loadTotals_link (s : State) : (loadTotals s).link = s.link ∨ (loadTotals s).link = (raise .fault s).link := by
  unfold loadTotals; split
  · exact .inl rfl
  · exact .inr rfl

theorem loadLog_link (s : State) : (loadLog s).link = s.link ∨ (loadLog s).link = (raise .fault s).link := by
  unfold loadLog; dsimp only; split
  · exact .inr rfl
  · exact .inl rfl

theorem loadCheckpoint_link (s : State) :
    (loadCheckpoint s).link = s.link ∨ (loadCheckpoint s).link = (raise .fault s).link := by
  unfold loadCheckpoint; split
  · exact .inr rfl
  · exact .inl rfl

/-- After the loading no event but FAULT is pending. -/
theorem loaded_link (s : State) :
    (loaded s).link = resetLink ∨ (loaded s).link = { resetLink with events := [.fault] } := by
  have settings := loading_link (loadSettings_link (blank s)) (.inl rfl)
  have totals := loading_link (loadTotals_link (loadSettings (blank s))) settings
  have log := loading_link (loadLog_link (loadedStore s)) totals
  exact loading_link (loadCheckpoint_link (loadLog (loadedStore s))) log

/-- An event once pending outlives each part of the loading. -/
theorem pending_of_loading {k : EventKind} {u v : State} (h : v.link = u.link ∨ v.link = (raise .fault u).link)
    (pending : Pending k u) : Pending k v := by
  obtain same | raised := h
  · rw [Pending, same]; exact pending
  · rw [Pending, raised]; exact (mem_insertEvent ..).mpr (.inr pending)

/-! ### The emergency mark -/

/-- A first entry in FULL watch: the queue holds it alone. -/
theorem placeEntry_first {kind : EntryKind} {key : Nat} {content : EntryContent} {deadline : Option Nat} {s : State}
    (queue : s.scheduler.queue = []) (full : s.receiver.watch = .full) (cap : 0 < kind.cap) :
    placeEntry kind key content deadline s = { s with
      receiver := { s.receiver with sparseHeld := false }
      scheduler := { s.scheduler with queue := [newEntry kind key content deadline s] } } := by
  have placed : placementOf kind key s = .placed :=
    placementOf_placed kind key s (by simp [queue]) (by simpa [queue] using cap)
  simp only [placeEntry, placed, returnToFull, full, queue, insertEntry]

/-- The part with a resumed emergency: its own state and one EMERGENCY entry. -/
def resumed (state : EmState) (mark : MarkKind) (s : State) : State :=
  { s with
    emergency := { s.emergency with
      state := state, sources := ⟨false, false, true⟩, onset := some s.now, mark := mark }
    scheduler := { s.scheduler with queue := [newEntry .emergency 0 .none none s] } }

theorem resumeEmergency_accounted (state : EmState) (mark : MarkKind) (s : State) :
    resumeEmergency state mark (accounted s) = resumed state mark (accounted s) := by
  obtain ⟨receiver, scheduler⟩ := accounted_radio s
  have held : { (accounted s).receiver with sparseHeld := false } = (accounted s).receiver := by rw [receiver]; rfl
  unfold resumeEmergency
  rw [placeEntry_first (by simp only [scheduler]; rfl) (by simp only [receiver]; rfl) (by decide)]
  simp only [held]
  rfl

/-- What the stored mark makes of the part. -/
theorem loadMark_accounted (s : State) : loadMark (accounted s) =
    match s.nonvolatile.mark with
    | some .none => accounted s
    | some .active => raise .emergency (latchIfLatched (resumed .active .active (accounted s)))
    | some .covert => resumed .covert .covert (accounted s)
    | none => raise .fault (setMark .active (raise .emergency (latchIfLatched (resumed .active .active (accounted s))))) := by
  obtain ⟨-, -, memory, -⟩ := accounted_core s
  cases mark : s.nonvolatile.mark with
  | none => simp only [loadMark, resumeActive, memory, mark, resumeEmergency_accounted]
  | some k => cases k <;> simp only [loadMark, resumeActive, memory, mark, resumeEmergency_accounted]

/-- The recovery of the accounts begins no write and leaves the emergency mark clean. -/
abbrev WriterFresh (s : State) : Prop := s.writer.writing = none ∧ s.writer.markDirty = false

theorem countOverwritten_writer (e : LogEntry) (s : State) : (countOverwritten e s).writer = s.writer := by
  unfold countOverwritten; dsimp only; split
  · rfl
  · split <;> rfl

theorem WriterFresh.appendRecord {s : State} (h : WriterFresh s) (r : TripRecord) : WriterFresh (appendRecord r s) := by
  rw [appendRecord_eq]
  dsimp only
  split
  · exact h
  · split
    · exact h
    · rename_i e _ _
      have same := countOverwritten_writer e { s with accounts := { s.accounts with
        log := appendedLog r s.accounts.log, nextSeq := nextNumber Config.max16 r.seq } }
      exact ⟨(congrArg (·.writing) same).trans h.1, (congrArg (·.markDirty) same).trans h.2⟩

theorem WriterFresh.markTotals {s : State} (h : WriterFresh s) : WriterFresh (markTotals s) := by
  unfold Machine.markTotals; split <;> exact h

theorem WriterFresh.closeIntoAccounts {s : State} (h : WriterFresh s) (r : TripRecord) :
    WriterFresh (closeIntoAccounts r s) := by
  have appended := h.appendRecord { r with seq := s.accounts.nextSeq, report := reportAtClose r.flags }
  unfold Machine.closeIntoAccounts; dsimp only; split
  · exact appended
  · exact WriterFresh.markTotals (s := updateTotals _ _) appended

theorem writerFresh_accounted (s : State) : WriterFresh (accounted s) := by
  have loading : WriterFresh (loaded s) := by simp [WriterFresh, loaded, loadedStore]; exact ⟨rfl, rfl⟩
  have log : WriterFresh (repairLog (loaded s)) := by
    unfold repairLog; split
    · exact loading
    · split
      · exact loading.appendRecord _
      · exact loading
  have totals : WriterFresh (repairTotals (repairLog (loaded s))) := by
    unfold repairTotals; split
    · split
      · exact log
      · refine WriterFresh.markTotals (foldl_keeps WriterFresh _ (fun u x hu => ?_) _ _ log)
        exact hu
    · exact log
  unfold accounted recoverTrip; split
  · exact totals.closeIntoAccounts _
  · exact totals

/-- The latch is set as the alert mode asks. -/
theorem latchIfLatched_emergency (s : State) : (latchIfLatched s).emergency =
    { s.emergency with latch := s.emergency.latch || s.store.working.alertMode == .latched } := by
  unfold latchIfLatched; split
  · rename_i h; simp [h]
  · rename_i h; rw [beq_eq_false_iff_ne.mpr h, Bool.or_false]

/-! ### Each block after a power-on -/

theorem poweredOn_store (s : State) : (poweredOn s).store = (loadSettings (blank s)).store := by
  simp [poweredOn, accounted_store]

theorem poweredOn_accounts (s : State) : (poweredOn s).accounts = (accounted s).accounts := by simp [poweredOn]

theorem poweredOn_emergency (s : State) : (poweredOn s).emergency = (loadMark (accounted s)).emergency := by
  simp [poweredOn]

theorem poweredOn_scheduler (s : State) : (poweredOn s).scheduler = (loadMark (accounted s)).scheduler := by
  simp [poweredOn]

theorem poweredOn_link (s : State) : (poweredOn s).link = (loadMark (accounted s)).link := by simp [poweredOn]

theorem poweredOn_writer (s : State) : (poweredOn s).writer = (loadMark (accounted s)).writer := by simp [poweredOn]

/-- An event pending after the loading is pending after the power-on. -/
theorem pending_poweredOn {k : EventKind} {s : State} (h : Pending k (loaded s)) : Pending k (poweredOn s) := by
  have before : k ∈ (accounted s).link.events := by rw [accounted_link]; exact h
  rw [Pending, poweredOn_link, loadMark_accounted]
  split <;> simp [raise, resumed, setMark, before]

theorem pending_loaded_of_settings {k : EventKind} {s : State} (h : Pending k (loadSettings (blank s))) :
    Pending k (poweredOn s) :=
  pending_poweredOn (pending_of_loading (loadCheckpoint_link (loadLog (loadedStore s)))
    (pending_of_loading (loadLog_link (loadedStore s)) (pending_of_loading (loadTotals_link _) h)))

theorem loadSettings_blank (s : State) : (loadSettings (blank s)).store =
    match newestCopy SettingsCopy.generation s.nonvolatile.settingsA s.nonvolatile.settingsB with
    | some (name, c) => { State.reset.store with
        working := c.settings, stored := c.settings, generation := c.generation, holder := some name
        loaded := some name }
    | none => State.reset.store := by
  show (loadSettings (blank s)).store = _
  unfold loadSettings
  cases newest : newestCopy SettingsCopy.generation s.nonvolatile.settingsA s.nonvolatile.settingsB with
  | none => simp only [show (blank s).nonvolatile = s.nonvolatile from rfl, newest]; rfl
  | some x => simp only [show (blank s).nonvolatile = s.nonvolatile from rfl, newest]; rfl

theorem newestCopy_both {α : Type} (generation : α → Nat) (a b : α) :
    newestCopy generation (some a) (some b) = if generation a < generation b then some (.b, b) else some (.a, a) := rfl

/-- Settles O6. -/
theorem powerOnLoadsTheSettings : Obligations.PowerOnLoadsTheSettings := by
  intro s off
  refine ⟨poweredOn s, exec_powerOn_unpowered off, ?_⟩
  have store := (poweredOn_store s).trans (loadSettings_blank s)
  refine ⟨?_, ?_, ?_, ?_, ?_, ?_, ?_, ?_, ?_⟩
  · rw [store]; split <;> rfl
  · rw [store]; split <;> rfl
  · rw [store]; split <;> rfl
  · rw [store]; split <;> rfl
  · rw [store]; split <;> rfl
  · intro a b ha hb
    rw [ha, hb, newestCopy_both] at store
    by_cases older : a.generation < b.generation
    · simp only [older, if_true] at store ⊢
      rw [store]; exact ⟨rfl, by simp [older.le], rfl, rfl⟩
    · simp only [older, if_false] at store ⊢
      rw [store]; exact ⟨rfl, by simp [Nat.not_lt.mp older], rfl, rfl⟩
  · intro a ha hb
    rw [ha, hb] at store
    rw [store]; exact ⟨rfl, rfl, rfl, rfl⟩
  · intro b ha hb
    rw [ha, hb] at store
    rw [store]; exact ⟨rfl, rfl, rfl, rfl⟩
  · intro ha hb
    rw [ha, hb] at store
    have fault : Pending .fault (loadSettings (blank s)) := by
      have none : newestCopy SettingsCopy.generation (blank s).nonvolatile.settingsA (blank s).nonvolatile.settingsB = none := by
        show newestCopy _ s.nonvolatile.settingsA s.nonvolatile.settingsB = none
        rw [ha, hb]; rfl
      simp only [loadSettings, none]
      exact (mem_insertEvent ..).mpr (.inl rfl)
    rw [store]
    exact ⟨rfl, rfl, rfl, rfl, pending_loaded_of_settings fault⟩

theorem poweredOn_receiver (s : State) : (poweredOn s).receiver =
    { resetReceiver with voiceReq := s.receiver.voiceReq, voice := (poweredOn s).receiver.voice } := by
  have marked : (startMeter (loadMark (accounted s))).receiver =
      { resetReceiver with voiceReq := s.receiver.voiceReq } := by
    obtain ⟨receiver, -⟩ := accounted_radio s
    have latched (u : State) : (latchIfLatched u).receiver = u.receiver := by simp
    simp only [startMeter, loadMark_accounted]
    split <;> simp [raise, resumed, setMark, receiver]
  have voice (u : State) : (findVoice u).receiver = { u.receiver with voice := (findVoice u).receiver.voice } := by
    unfold findVoice requestVoice grantVoice; (repeat' split) <;> rfl
  have both := voice (startMeter (loadMark (accounted s)))
  rw [marked] at both
  exact both

/-- Settles O8. -/
theorem powerOnClearsTheBlocks : Obligations.PowerOnClearsTheBlocks := by
  intro s off
  refine ⟨poweredOn s, exec_powerOn_unpowered off, ?_⟩
  obtain ⟨powered, now, memory, pending⟩ := accounted_core s
  obtain ⟨board, inbox, -⟩ := accounted_talk s
  obtain ⟨-, scheduler⟩ := accounted_radio s
  have inputs : (accounted s).locator = resetLocator ∧ (accounted s).panel = (blank s).panel := by
    simp [accounted, loaded, loadedStore]; rfl
  refine ⟨by simp [poweredOn, powered], by simp [poweredOn, now], by simp [poweredOn, memory],
    by simp [poweredOn, pending], poweredOn_receiver s, ?_, by simp [poweredOn, inputs.1], ?_,
    by simp [poweredOn, board], by simp [poweredOn, inbox], ?_, ?_⟩
  · rw [poweredOn_scheduler, loadMark_accounted]
    split <;> simp [raise, resumed, setMark, scheduler]
  · simp [poweredOn, inputs.2]; rfl
  · rw [poweredOn_link, loadMark_accounted]
    have fresh := loaded_link s
    rw [← accounted_link] at fresh
    split <;> obtain e | e := fresh <;> simp [raise, resumed, setMark, e]
  · have writing := (writerFresh_accounted s).1
    rw [poweredOn_writer, loadMark_accounted]
    split <;> simp [raise, resumed, setMark, writing]

/-- Settles O10. -/
theorem powerOnReadsTheEmergencyMark : Obligations.PowerOnReadsTheEmergencyMark := by
  intro s off
  refine ⟨poweredOn s, exec_powerOn_unpowered off, ?_⟩
  obtain ⟨-, now, -, -⟩ := accounted_core s
  obtain ⟨-, -, emergency⟩ := accounted_talk s
  obtain ⟨-, scheduler⟩ := accounted_radio s
  have clean := (writerFresh_accounted s).2
  have quiet : ¬ Pending .emergency (accounted s) := by
    rw [Pending, accounted_link]
    obtain e | e := loaded_link s <;> rw [e] <;> decide
  have marked := loadMark_accounted s
  rw [poweredOn_emergency, poweredOn_scheduler, poweredOn_writer, Pending, Pending, poweredOn_link, poweredOn_store,
    ← accounted_store]
  cases mark : s.nonvolatile.mark with
  | none =>
    simp only [mark] at marked
    simp [marked, raise, setMark, resumed, newEntry, latchIfLatched_emergency, emergency, now, resetEmergency]
  | some k =>
    cases k with
    | none =>
      simp only [mark] at marked
      simp [marked, emergency, scheduler, clean, resetEmergency, resetScheduler]
    | active =>
      simp only [mark] at marked
      simp [marked, raise, resumed, newEntry, latchIfLatched_emergency, emergency, now, clean, resetEmergency]
    | covert =>
      simp only [mark] at marked
      simp [marked, resumed, newEntry, emergency, now, clean, resetEmergency]
      exact quiet

end Sys2Proof.Machine
end

section
/-! PROOFS. The accounts at a close and at a power-on: the record that joins the log, the totals that count it, and the
repair of log and totals. -/

namespace Sys2Proof.Machine

/-! ### A record joins the log -/

theorem addTrip_eq_withTrip (r : TripRecord) (x : Totals) : addTrip r x = withTrip x r := rfl

/-- Fault, copies and periods of the accounts are the same. -/
abbrev SameHolding (s t : State) : Prop :=
  t.accounts.fault = s.accounts.fault ∧ t.accounts.generation = s.accounts.generation ∧
    t.accounts.holder = s.accounts.holder ∧ t.accounts.loaded = s.accounts.loaded ∧
    t.accounts.reinit = s.accounts.reinit ∧ t.accounts.periodSince = s.accounts.periodSince

@[simp] theorem countOverwritten_accounts (e : LogEntry) (s : State) :
    SameHolding s (countOverwritten e s) ∧ (countOverwritten e s).accounts.lastClose = s.accounts.lastClose ∧
    (countOverwritten e s).accounts.log = s.accounts.log ∧
    (countOverwritten e s).accounts.nextSeq = s.accounts.nextSeq := by
  unfold countOverwritten; dsimp only; split
  · and_intros <;> rfl
  · split <;> (and_intros <;> rfl)

/-- An overwritten record that was not heard is counted, except under the totals fault. -/
theorem countOverwritten_totals (e : LogEntry) (s : State) : (countOverwritten e s).accounts.totals =
    if s.accounts.fault = false ∧ (e.record.report = .unreported ∨ e.record.report = .inQueue) then
      { s.accounts.totals with shift := { s.accounts.totals.shift with
        overwritten := min mostTotal (s.accounts.totals.shift.overwritten + 1) } }
    else s.accounts.totals := by
  by_cases fault : s.accounts.fault = true
  · simp [countOverwritten, dropEntry, fault]
  · cases report : e.record.report <;> simp [countOverwritten, dropEntry, updateTotals, fault, report, satAdd]

@[simp] theorem appendRecord_accounts (r : TripRecord) (s : State) :
    SameHolding s (appendRecord r s) ∧ (appendRecord r s).accounts.lastClose = s.accounts.lastClose ∧
    (appendRecord r s).accounts.log = appendedLog r s.accounts.log ∧
    (appendRecord r s).accounts.nextSeq = nextNumber Config.max16 r.seq := by
  rw [appendRecord_eq]
  dsimp only [markRecord]
  split
  · and_intros <;> rfl
  · split
    · and_intros <;> rfl
    · simp [SameHolding]

theorem appendRecord_totals (r : TripRecord) (s : State) : (appendRecord r s).accounts.totals =
    overwriteCounted s.accounts.log s.accounts.fault s.accounts.totals := by
  rw [appendRecord_eq]
  dsimp only [markRecord]
  split
  · rename_i room
    unfold overwriteCounted; split
    · rw [if_neg fun full => absurd full.1 (Nat.not_le.mpr room)]
    · rfl
  · rename_i full
    have full : 32 ≤ s.accounts.log.length := Nat.not_lt.mp full
    cases log : s.accounts.log with
    | nil => rfl
    | cons e rest =>
      have full : 32 ≤ (e :: rest).length := log ▸ full
      simp only [countOverwritten_totals, overwriteCounted, full, true_and]

theorem appended_appendedLog (r : TripRecord) (log : List LogEntry) : Appended r log (appendedLog r log) := by
  constructor
  · intro room
    obtain ⟨inside, free⟩ := freePosition_free room
    refine ⟨freePosition log, inside, fun e he at_ => free (List.mem_map.mpr ⟨e, he, at_⟩), ?_⟩
    exact if_pos room
  · rintro e rest rfl full
    exact if_neg (Nat.not_lt.mpr full)

/-- The record that joined the log is its newest, at the position chosen for it. -/
theorem appendedLog_getLast (r : TripRecord) (log : List LogEntry) :
    (appendedLog r log).getLast? = some ⟨positionFor log, r, none⟩ := by
  unfold appendedLog positionFor; split
  · simp
  · cases log <;> simp

theorem appendRecord_recordsDirty (r : TripRecord) (s : State) :
    positionFor s.accounts.log ∈ (appendRecord r s).writer.recordsDirty := by
  have member (n : Nat) (l : List Nat) : n ∈ insertOnce n l := by
    induction l with
    | nil => simp [insertOnce]
    | cons x xs ih => unfold insertOnce; (repeat' split) <;> simp_all
  rw [appendRecord_eq]
  exact member _ _

theorem appendRecord_totalsDirty (r : TripRecord) (s : State) :
    (appendRecord r s).writer.totalsDirty = s.writer.totalsDirty := by
  rw [appendRecord_eq]
  dsimp only [markRecord]
  split
  · rfl
  · split
    · rfl
    · rw [countOverwritten_writer]

/-- The record of a closed trip as it joins the log. -/
def closing (r : TripRecord) (s : State) : TripRecord :=
  { r with seq := s.accounts.nextSeq, report := reportAtClose r.flags }

theorem closeIntoAccounts_eq (r : TripRecord) (s : State) : closeIntoAccounts r s =
    (let t := if s.accounts.fault then appendRecord (closing r s) s
      else markTotals (updateTotals (addTrip (closing r s)) (appendRecord (closing r s) s))
    { t with accounts := { t.accounts with lastClose := some (closing r s) } }) := by
  have fault : (appendRecord (closing r s) s).accounts.fault = s.accounts.fault := by simp
  simp only [closeIntoAccounts, ← fault]
  rfl

/-- What a closed trip does to the accounts but for the totals. -/
@[simp] theorem closeIntoAccounts_accounts (r : TripRecord) (s : State) :
    SameHolding s (closeIntoAccounts r s) ∧ (closeIntoAccounts r s).accounts.lastClose = some (closing r s) ∧
    (closeIntoAccounts r s).accounts.log = appendedLog (closing r s) s.accounts.log ∧
    (closeIntoAccounts r s).accounts.nextSeq = nextNumber Config.max16 s.accounts.nextSeq := by
  rw [closeIntoAccounts_eq]
  dsimp only
  split <;> simp [updateTotals, closing, SameHolding]

theorem overwriteCounted_fault (log : List LogEntry) (x : Totals) : overwriteCounted log true x = x := by
  unfold overwriteCounted; split <;> simp

/-- A closed trip is counted with the overwriting, except under the totals fault. -/
theorem closeIntoAccounts_totals (r : TripRecord) (s : State) : (closeIntoAccounts r s).accounts.totals =
    if s.accounts.fault then s.accounts.totals
    else withTrip (overwriteCounted s.accounts.log false s.accounts.totals) (closing r s) := by
  rw [closeIntoAccounts_eq]
  dsimp only
  cases fault : s.accounts.fault
  · simp [updateTotals, appendRecord_totals, fault, addTrip_eq_withTrip]
  · simp [appendRecord_totals, fault, overwriteCounted_fault]

theorem closeIntoAccounts_totalsDirty (r : TripRecord) (s : State) :
    (closeIntoAccounts r s).writer.totalsDirty = (s.writer.totalsDirty || !s.accounts.fault) := by
  rw [closeIntoAccounts_eq]
  dsimp only
  cases fault : s.accounts.fault
  · simp [markTotals, updateTotals, fault]
  · simp [appendRecord_totalsDirty]

/-! ### The repair of log and totals -/

/-- Log, next number, totals, fault and the totals' dirty mark of two states agree. -/
structure Alike (s t : State) : Prop where
  log : t.accounts.log = s.accounts.log
  next : t.accounts.nextSeq = s.accounts.nextSeq
  totals : t.accounts.totals = s.accounts.totals
  fault : t.accounts.fault = s.accounts.fault
  dirty : t.writer.totalsDirty = s.writer.totalsDirty

theorem Alike.appendRecord {s t : State} (h : Alike s t) (r : TripRecord) :
    Alike (appendRecord r s) (appendRecord r t) where
  log := by simp [h.log]
  next := by simp
  totals := by rw [appendRecord_totals, appendRecord_totals, h.log, h.fault, h.totals]
  fault := by simp [h.fault]
  dirty := by rw [appendRecord_totalsDirty, appendRecord_totalsDirty, h.dirty]

/-- The log lacks the last close, and it is the next number or finds the log empty. -/
def Missed (r : TripRecord) (s : State) : Prop :=
  (∀ e ∈ s.accounts.log, e.record.seq ≠ r.seq) ∧ (s.accounts.log = [] ∨ r.seq = s.accounts.nextSeq)

theorem findRecord_isNone {n : Nat} {s : State} :
    (findRecord n s).isNone = true ↔ ∀ e ∈ s.accounts.log, e.record.seq ≠ n := by
  simp [findRecord, List.find?_eq_none]

theorem repairLog_none {s : State} (h : s.accounts.lastClose = none) : repairLog s = s := by
  simp only [repairLog, h]

theorem repairLog_missed {s : State} {r : TripRecord} (h : s.accounts.lastClose = some r) (missed : Missed r s) :
    repairLog s = appendRecord (storedRecord r) s := by
  simp only [repairLog, h]
  exact if_pos ⟨findRecord_isNone.mpr missed.1, missed.2⟩

theorem repairLog_held {s : State} {r : TripRecord} (h : s.accounts.lastClose = some r) (held : ¬ Missed r s) :
    repairLog s = s := by
  simp only [repairLog, h]
  exact if_neg fun missed => held ⟨findRecord_isNone.mp missed.1, missed.2⟩

theorem Alike.missed {s t : State} (h : Alike s t) (r : TripRecord) : Missed r t ↔ Missed r s := by
  rw [Missed, Missed, h.log, h.next]

theorem Alike.repairLog {s t : State} (h : Alike s t) (lastClose : t.accounts.lastClose = s.accounts.lastClose) :
    Alike (repairLog s) (repairLog t) := by
  cases last : s.accounts.lastClose with
  | none => rwa [repairLog_none last, repairLog_none (lastClose.trans last)]
  | some r =>
    by_cases missed : Missed r s
    · rw [repairLog_missed last missed, repairLog_missed (lastClose.trans last) ((h.missed r).mpr missed)]
      exact h.appendRecord _
    · rwa [repairLog_held last missed, repairLog_held (lastClose.trans last) fun m => missed ((h.missed r).mp m)]

/-- The records that the totals have not counted: those after the marker, except under the fault. -/
def uncounted (s : State) : List LogEntry :=
  match s.accounts.fault, s.accounts.totals.marker with
  | false, some m => recordsAfter m s.accounts.log
  | _, _ => []

/-- A state with the totals of several records added. -/
def counting (l : List LogEntry) (s : State) : State :=
  l.foldl (fun s x => updateTotals (addTrip x.record) s) s

theorem counting_accounts (l : List LogEntry) (s : State) : (counting l s).writer = s.writer ∧
    SameHolding s (counting l s) ∧ (counting l s).accounts.lastClose = s.accounts.lastClose ∧
    (counting l s).accounts.log = s.accounts.log ∧ (counting l s).accounts.nextSeq = s.accounts.nextSeq ∧
    (counting l s).accounts.totals = l.foldl (fun x y => withTrip x y.record) s.accounts.totals := by
  induction l generalizing s with
  | nil => and_intros <;> rfl
  | cons e es ih => exact ih (updateTotals (addTrip e.record) s)

theorem repairTotals_eq (s : State) :
    repairTotals s = if uncounted s = [] then s else markTotals (counting (uncounted s) s) := by
  cases fault : s.accounts.fault
  · cases marker : s.accounts.totals.marker with
    | none => simp only [repairTotals, uncounted, fault, marker, if_true]
    | some m =>
      cases after : recordsAfter m s.accounts.log with
      | nil => simp only [repairTotals, uncounted, fault, marker, after, if_true]
      | cons e es => simp only [repairTotals, uncounted, fault, marker, after, counting, reduceCtorEq, if_false]
  · simp only [repairTotals, uncounted, fault, if_true]

@[simp] theorem repairTotals_accounts (s : State) : SameHolding s (repairTotals s) ∧
    (repairTotals s).accounts.lastClose = s.accounts.lastClose ∧
    (repairTotals s).accounts.log = s.accounts.log ∧ (repairTotals s).accounts.nextSeq = s.accounts.nextSeq ∧
    (repairTotals s).writer.recordsDirty = s.writer.recordsDirty := by
  obtain ⟨writer, holding, lastClose, log, next, -⟩ := counting_accounts (uncounted s) s
  rw [repairTotals_eq]; split
  · simp [SameHolding]
  · have records : (markTotals (counting (uncounted s) s)).writer.recordsDirty = s.writer.recordsDirty := by
      unfold markTotals; split <;> rw [writer]
    simp [SameHolding, holding, lastClose, log, next, records]

theorem repairTotals_totals (s : State) : (repairTotals s).accounts.totals =
    (uncounted s).foldl (fun x y => withTrip x y.record) s.accounts.totals := by
  obtain ⟨-, -, -, -, -, totals⟩ := counting_accounts (uncounted s) s
  rw [repairTotals_eq]; split
  · rename_i none; rw [none]; rfl
  · simpa using totals

theorem repairTotals_totalsDirty (s : State) : (repairTotals s).writer.totalsDirty =
    (s.writer.totalsDirty || !(uncounted s).isEmpty) := by
  obtain ⟨-, holding, -⟩ := counting_accounts (uncounted s) s
  rw [repairTotals_eq]; split
  · rename_i none; simp [none]
  · rename_i some
    have clear : s.accounts.fault = false := by
      by_contra fault
      exact some (by simp [uncounted, fault])
    have clear : (counting (uncounted s) s).accounts.fault = false := holding.1.trans clear
    simp [markTotals, clear, some]

theorem Alike.repairTotals {s t : State} (h : Alike s t) : Alike (repairTotals s) (repairTotals t) where
  log := by simp [h.log]
  next := by simp [h.next]
  fault := by simp [h.fault]
  totals := by rw [repairTotals_totals, repairTotals_totals, uncounted, uncounted, h.log, h.fault, h.totals]
  dirty := by
    rw [repairTotals_totalsDirty, repairTotals_totalsDirty, uncounted, uncounted, h.log, h.fault, h.totals, h.dirty]

/-! ### The loading of the accounts -/

theorem loadedStore_accounts (s : State) : (loadedStore s).accounts =
    match newestCopy TotalsCopy.generation s.nonvolatile.totalsA s.nonvolatile.totalsB with
    | some (name, c) => { State.reset.accounts with
        fault := false, totals := c.totals, generation := c.generation, holder := some name, loaded := some name }
    | none => State.reset.accounts := by
  have memory : (loadSettings (blank s)).nonvolatile = s.nonvolatile := by simp; rfl
  have accounts : (loadSettings (blank s)).accounts = { State.reset.accounts with fault := false } := by simp; rfl
  unfold loadedStore loadTotals
  cases newest : newestCopy TotalsCopy.generation s.nonvolatile.totalsA s.nonvolatile.totalsB with
  | none => simp only [memory, newest, raise, accounts]; rfl
  | some x => simp only [memory, newest, accounts]

/-- The log that a power-on loads. -/
def loadedLog (s : State) : List LogEntry := orderRecords (loadRecords 0 s.nonvolatile.log)

theorem loaded_accounts (s : State) : (loaded s).accounts = { (loadedStore s).accounts with
    log := loadedLog s
    nextSeq := ((loadedLog s).getLast?.map fun e => nextNumber Config.max16 e.record.seq).getD 1
    lastClose := s.nonvolatile.checkpoint.bind (·.lastClose) } := by
  have memory : (loadedStore s).nonvolatile = s.nonvolatile := by simp [loadedStore]; rfl
  have last : (loadedStore s).accounts.lastClose = none := by rw [loadedStore_accounts]; split <;> rfl
  have log : (loadLog (loadedStore s)).accounts = { (loadedStore s).accounts with
      log := loadedLog s
      nextSeq := ((loadedLog s).getLast?.map fun e => nextNumber Config.max16 e.record.seq).getD 1 } := by
    unfold loadLog; dsimp only; split <;> simp only [raise, memory, loadedLog]
  have still : (loadLog (loadedStore s)).nonvolatile = s.nonvolatile := by simp [memory]
  unfold loaded loadCheckpoint
  rw [still]
  cases s.nonvolatile.checkpoint with
  | none => simp only [raise, log, Option.bind_none, ← last]
  | some c => simp only [log, Option.bind_some]

theorem loaded_totalsDirty (s : State) : (loaded s).writer.totalsDirty = false := by
  simp [loaded, loadedStore]; rfl

/-- What a power-on loads into the accounts depends on totals, log and checkpoint alone. -/
theorem loaded_alike {s t : State} (totalsA : t.nonvolatile.totalsA = s.nonvolatile.totalsA)
    (totalsB : t.nonvolatile.totalsB = s.nonvolatile.totalsB) (log : t.nonvolatile.log = s.nonvolatile.log) :
    Alike (loaded s) (loaded t) := by
  have stores : (loadedStore t).accounts = (loadedStore s).accounts := by
    rw [loadedStore_accounts, loadedStore_accounts, totalsA, totalsB]
  have logs : loadedLog t = loadedLog s := by rw [loadedLog, loadedLog, log]
  constructor
  case dirty => rw [loaded_totalsDirty, loaded_totalsDirty]
  all_goals rw [loaded_accounts, loaded_accounts, stores]
  all_goals simp only [logs]

/-! ### The recovery of an interrupted trip -/

/-- The part after the repair of the accounts. -/
def repaired (s : State) : State := repairTotals (repairLog (loaded s))

theorem accounted_eq (s : State) : accounted s = recoverTrip (repaired s) := rfl

theorem repaired_memory (s : State) : (repaired s).nonvolatile = s.nonvolatile := by
  have := (accounted_core s).2.2.1
  simpa [accounted_eq] using this

theorem accounted_closed {s : State} (h : ∀ o l, s.nonvolatile.checkpoint ≠ some ⟨some o, l⟩) :
    accounted s = repaired s := by
  rw [accounted_eq]
  unfold recoverTrip; split
  · rename_i o l open_; exact absurd ((repaired_memory s) ▸ open_) (h o l)
  · rfl

theorem accounted_open {s : State} {o : OpenTrip} {l : Option TripRecord}
    (h : s.nonvolatile.checkpoint = some ⟨some o, l⟩) :
    accounted s = markCheckpoint (closeIntoAccounts (interruptedRecord o) (repaired s)) := by
  rw [accounted_eq]
  simp only [recoverTrip, repaired_memory, h]

/-- The mark, the meter and the voice request leave what the recovery made of the totals' dirty mark. -/
theorem poweredOn_dirty (s : State) :
    (poweredOn s).writer.totalsDirty = (accounted s).writer.totalsDirty ∧
    (poweredOn s).writer.checkpointDirty = (accounted s).writer.checkpointDirty ∧
    (poweredOn s).writer.recordsDirty = (accounted s).writer.recordsDirty := by
  rw [poweredOn_writer, loadMark_accounted]
  split <;> simp [raise, resumed, setMark]

theorem poweredOn_meter (s : State) : (poweredOn s).meter = { State.reset.meter with
    state := if (poweredOn s).accounts.totals.shiftOpen ∧ ¬ (poweredOn s).accounts.fault then .free else .off } := by
  have meter : (accounted s).meter = State.reset.meter := by simp [accounted, loaded, loadedStore]; rfl
  rw [poweredOn_accounts]
  simp [poweredOn, startMeter, meter]

/-- Settles O9. -/
theorem powerOnClosesTheInterruptedTrip : Obligations.PowerOnClosesTheInterruptedTrip := by
  intro s u o l off open_ hu
  set s' : State := { s with nonvolatile := { s.nonvolatile with checkpoint := some ⟨none, l⟩ } } with hs'
  obtain rfl : poweredOn s' = u := Host.Outcome.next.inj ((exec_powerOn_unpowered (s := s') off).symm.trans hu)
  have closed : accounted s' = repaired s' := accounted_closed fun o l => by simp [hs']
  have alike : Alike (repaired s') (repaired s) := by
    refine Alike.repairTotals (Alike.repairLog (loaded_alike rfl rfl rfl) ?_)
    rw [loaded_accounts, loaded_accounts, open_]; rfl
  set v := repaired s with hv
  have before : (poweredOn s').accounts = (repaired s').accounts := by rw [poweredOn_accounts, closed]
  have dirty : (poweredOn s').writer.totalsDirty = (repaired s').writer.totalsDirty := by
    rw [(poweredOn_dirty s').1, closed]
  have after := accounted_open open_
  have accounts : (poweredOn s).accounts = (closeIntoAccounts (interruptedRecord o) v).accounts := by
    rw [poweredOn_accounts, after]; rfl
  obtain ⟨holding, last, log, next⟩ := closeIntoAccounts_accounts (interruptedRecord o) v
  refine ⟨poweredOn s, closing (interruptedRecord o) v, exec_powerOn_unpowered off, ?_⟩
  rw [accounts, before, dirty, ← alike.dirty, ← alike.next, ← alike.log, ← alike.totals, ← alike.fault]
  refine ⟨last, ?_, rfl, ?_, ?_, rfl, rfl, rfl, rfl, rfl, rfl, rfl, rfl, rfl, rfl, rfl, rfl, rfl, rfl, rfl, rfl, rfl,
    holding.1, ?_, ?_, ?_, ?_⟩
  · rw [log, appendedLog_getLast]; rfl
  · rw [next, nextNumber_eq_numberAfter]; rfl
  · rw [log]; exact appended_appendedLog _ _
  · intro clear
    refine ⟨by rw [closeIntoAccounts_totals, clear]; rfl, ?_⟩
    rw [(poweredOn_dirty s).1, after]
    show (closeIntoAccounts _ v).writer.totalsDirty = true
    simp [closeIntoAccounts_totalsDirty, clear]
  · intro fault
    refine ⟨by rw [closeIntoAccounts_totals, fault]; rfl, ?_⟩
    rw [(poweredOn_dirty s).1, after]
    show (closeIntoAccounts _ v).writer.totalsDirty = _
    simp [closeIntoAccounts_totalsDirty, fault]
  · rw [poweredOn_meter]; rfl
  · rw [(poweredOn_dirty s).2.1, after]; rfl

end Sys2Proof.Machine
end

section
/-! PROOFS. The log and the totals that a power-on loads and repairs. -/

namespace Sys2Proof.Machine

/-! ### The stored log -/

/-- A record as it is loaded from a position: with the report state of its own report mark. -/
def loadedRecord (x : StoredPosition) (r : TripRecord) : TripRecord :=
  { r with report :=
    match x.report with
    | some m => if m.seq = r.seq then m.report else r.report
    | none => r.report }

theorem loadRecord_eq_some {p : Nat} {x : StoredPosition} {e : LogEntry} :
    loadRecord p x = some e ↔ x.torn = false ∧ ∃ r, x.record = some r ∧ e = ⟨p, loadedRecord x r, none⟩ := by
  unfold loadRecord
  cases torn : x.torn
  · simp only [Bool.false_eq_true, if_false, Option.map_eq_some_iff, true_and]
    exact exists_congr fun r => and_congr_right fun _ => eq_comm
  · simp

theorem loadRecords_eq (p : Nat) (l : List StoredPosition) :
    loadRecords p l = (l.zipIdx p).filterMap fun y => loadRecord y.2 y.1 := by
  induction l generalizing p with
  | nil => rfl
  | cons x xs ih =>
    rw [List.zipIdx_cons, List.filterMap_cons, loadRecords, ih]
    cases loadRecord p x <;> rfl

theorem mem_loadRecords {l : List StoredPosition} {e : LogEntry} : e ∈ loadRecords 0 l ↔
    ∃ (p : Nat) (x : StoredPosition) (r : TripRecord),
      l[p]? = some x ∧ x.torn = false ∧ x.record = some r ∧ e = ⟨p, loadedRecord x r, none⟩ := by
  simp only [loadRecords_eq, List.mem_filterMap, Prod.exists, loadRecord_eq_some, List.mem_zipIdx_iff_getElem?]
  constructor
  · rintro ⟨x, p, at_, torn, r, record, he⟩; exact ⟨p, x, r, at_, torn, record, he⟩
  · rintro ⟨p, x, r, at_, torn, record, he⟩; exact ⟨x, p, at_, torn, r, record, he⟩

theorem loadRecords_length (p : Nat) (l : List StoredPosition) :
    (loadRecords p l).length = l.countP fun x => !x.torn && x.record.isSome := by
  induction l generalizing p with
  | nil => rfl
  | cons x xs ih =>
    rw [loadRecords, List.countP_cons]
    cases loading : loadRecord p x with
    | none =>
      have : (!x.torn && x.record.isSome) = false := by
        cases torn : x.torn <;> simp_all [loadRecord]
      simp [this, ih]
    | some e =>
      obtain ⟨torn, r, record, -⟩ := loadRecord_eq_some.mp loading
      simp [torn, record, ih]

/-! ### The order of the log -/

/-- Records in the order of the log under a newest number. -/
def Ordered (n : Nat) (a b : LogEntry) : Prop := forward b.record.seq n ≤ forward a.record.seq n

theorem insertRecord_perm (n : Nat) (e : LogEntry) (l : List LogEntry) : (insertRecord n e l).Perm (e :: l) := by
  induction l with
  | nil => exact .refl _
  | cons o os ih =>
    unfold insertRecord; split
    · exact .refl _
    · exact (ih.cons o).trans (.swap ..)

theorem insertRecord_ordered {n : Nat} {e : LogEntry} {l : List LogEntry} (h : l.Pairwise (Ordered n)) :
    (insertRecord n e l).Pairwise (Ordered n) := by
  induction l with
  | nil => simp [insertRecord]
  | cons o os ih =>
    obtain ⟨before, rest⟩ := List.pairwise_cons.mp h
    unfold insertRecord; split
    · rename_i ahead
      refine List.pairwise_cons.mpr ⟨fun x hx => ?_, h⟩
      obtain rfl | hx := List.mem_cons.mp hx
      · exact ahead.le
      · exact (before x hx).trans ahead.le
    · rename_i behind
      refine List.pairwise_cons.mpr ⟨fun x hx => ?_, ih rest⟩
      obtain rfl | hx := List.mem_cons.mp ((insertRecord_perm n e os).mem_iff.mp hx)
      · exact Nat.not_lt.mp behind
      · exact before x hx

theorem foldr_insertRecord (n : Nat) (l : List LogEntry) :
    (l.foldr (insertRecord n) []).Perm l ∧ (l.foldr (insertRecord n) []).Pairwise (Ordered n) := by
  induction l with
  | nil => exact ⟨.refl _, .nil⟩
  | cons e es ih => exact ⟨(insertRecord_perm n e _).trans (ih.1.cons e), insertRecord_ordered ih.2⟩

theorem orderRecords_perm (l : List LogEntry) : (orderRecords l).Perm l := by
  unfold orderRecords; split
  · exact .refl _
  · exact (foldr_insertRecord _ l).1

/-- A record of which none of the next 32 numbers is held. -/
def Newest (l : List LogEntry) (n : LogEntry) : Prop :=
  ∀ o ∈ l, forward n.record.seq o.record.seq = 0 ∨ 32 < forward n.record.seq o.record.seq

theorem isNewest_iff {l : List LogEntry} {n : LogEntry} : isNewest l n = true ↔ Newest l n := by
  simp [isNewest, Newest, List.all_eq_true]

/-- With a newest record the log stands in the order of one. -/
theorem orderRecords_ordered {l : List LogEntry} (h : ∃ n ∈ l, Newest l n) :
    ∃ n ∈ l, Newest l n ∧ (orderRecords l).Pairwise (Ordered n.record.seq) := by
  unfold orderRecords
  split
  · rename_i none
    obtain ⟨n, hn, newest⟩ := h
    exact absurd (isNewest_iff.mpr newest) (List.find?_eq_none.mp none n hn)
  · rename_i n found
    exact ⟨n, List.mem_of_find?_eq_some found, isNewest_iff.mp (List.find?_some found),
      (foldr_insertRecord n.record.seq l).2⟩

/-! ### The records after the marker -/

theorem recordsAfter_split {m : Nat} {l after : List LogEntry} {e : LogEntry} (at_ : e.record.seq = m)
    (first : ∀ x ∈ l, x.record.seq ≠ m) : recordsAfter m (l ++ e :: after) = after := by
  induction l with
  | nil => simp [recordsAfter, at_]
  | cons x xs ih =>
    have other : x.record.seq ≠ m := first x (by simp)
    simp only [List.cons_append, recordsAfter, beq_iff_eq, other, if_false]
    exact ih fun y hy => first y (by simp [hy])

theorem recordsAfter_absent {m : Nat} {l : List LogEntry} (absent : ∀ x ∈ l, x.record.seq ≠ m) :
    recordsAfter m l = [] := by
  induction l with
  | nil => rfl
  | cons x xs ih =>
    have other : x.record.seq ≠ m := absent x (by simp)
    simp only [recordsAfter, beq_iff_eq, other, if_false]
    exact ih fun y hy => absent y (by simp [hy])

theorem overwriteCounted_room {log : List LogEntry} {fault : Bool} {x : Totals} (room : log.length < 32) :
    overwriteCounted log fault x = x := by
  unfold overwriteCounted; split
  · rw [if_neg fun full => absurd full.1 (Nat.not_le.mpr room)]
  · rfl

/-! ### The accounts after a power-on -/

/-- The next number follows the newest record, and is 1 where the log is empty. -/
def NextFollows (s : State) : Prop :=
  (∀ e ∈ s.accounts.log.getLast?, s.accounts.nextSeq = numberAfter e.record.seq) ∧
    (s.accounts.log = [] → s.accounts.nextSeq = 1)

theorem nextFollows_appended {s : State} {r : TripRecord} {log : List LogEntry}
    (joined : s.accounts.log = appendedLog r log) (next : s.accounts.nextSeq = nextNumber Config.max16 r.seq) :
    NextFollows s := by
  have last := appendedLog_getLast r log
  rw [NextFollows, joined, next, last]
  refine ⟨fun e he => ?_, fun empty => ?_⟩
  · rw [← Option.some.inj he]; exact nextNumber_eq_numberAfter _
  · rw [empty] at last; simp at last

theorem nextFollows_accounted (s : State) : NextFollows (accounted s) := by
  have loading : NextFollows (loaded s) := by
    rw [NextFollows, loaded_accounts]
    refine ⟨fun e he => ?_, fun empty => ?_⟩
    · dsimp only at he ⊢; rw [Option.mem_def.mp he]; exact nextNumber_eq_numberAfter _
    · dsimp only at empty ⊢; rw [empty]; rfl
  have log : NextFollows (repairLog (loaded s)) := by
    unfold repairLog; split
    · exact loading
    · split
      · exact nextFollows_appended (appendRecord_accounts _ _).2.2.1 (appendRecord_accounts _ _).2.2.2
      · exact loading
  have totals : NextFollows (repaired s) := by
    obtain ⟨-, -, same, next, -⟩ := repairTotals_accounts (repairLog (loaded s))
    rw [NextFollows, repaired, same, next]; exact log
  rw [accounted_eq]
  unfold recoverTrip; split
  · exact nextFollows_appended (s := markCheckpoint _) (closeIntoAccounts_accounts _ _).2.2.1
      (closeIntoAccounts_accounts _ _).2.2.2
  · exact totals

theorem repairLog_holding (s : State) : SameHolding s (repairLog s) ∧
    (repairLog s).accounts.lastClose = s.accounts.lastClose ∧
    (repairLog s).writer.totalsDirty = s.writer.totalsDirty := by
  unfold repairLog; split
  · simp [SameHolding]
  · split
    · simp [SameHolding, appendRecord_totalsDirty]
    · simp [SameHolding]

theorem repaired_holding (s : State) : SameHolding (loaded s) (repaired s) ∧
    (repaired s).accounts.lastClose = (loaded s).accounts.lastClose := by
  obtain ⟨holding, last, -⟩ := repairLog_holding (loaded s)
  unfold repaired
  simp [SameHolding, holding, last]

theorem accounted_holding (s : State) : SameHolding (loaded s) (accounted s) := by
  obtain ⟨holding, -⟩ := repaired_holding s
  rw [accounted_eq]
  unfold recoverTrip; split
  · simp only [markCheckpoint]; simp [SameHolding, holding]
  · exact holding

/-- Under the totals fault nothing is counted. -/
theorem accounted_totals_of_fault {s : State} (fault : (loaded s).accounts.fault = true) :
    (accounted s).accounts.totals = (loaded s).accounts.totals := by
  obtain ⟨holding, -⟩ := repairLog_holding (loaded s)
  have log : (repairLog (loaded s)).accounts.totals = (loaded s).accounts.totals := by
    unfold repairLog; split
    · rfl
    · split
      · rw [appendRecord_totals, fault, overwriteCounted_fault]
      · rfl
  have totals : (repaired s).accounts.totals = (loaded s).accounts.totals := by
    rw [repaired, repairTotals_totals, uncounted, holding.1, fault]; exact log
  have still : (repaired s).accounts.fault = true := (repaired_holding s).1.1.trans fault
  rw [accounted_eq]
  unfold recoverTrip; split
  · simp only [markCheckpoint]; rw [closeIntoAccounts_totals, still]; exact totals
  · exact totals

/-- The last close, if the log has room for it, is appended with no record overwritten. -/
theorem repairLog_totals {s : State} (room : s.accounts.lastClose = none ∨ s.accounts.log.length < 32) :
    (repairLog s).accounts.totals = s.accounts.totals := by
  unfold repairLog; split
  · rfl
  · rename_i r last
    split
    · rw [appendRecord_totals, overwriteCounted_room (room.resolve_left (by simp [last]))]
    · rfl

theorem loadedLog_length (s : State) :
    (loadedLog s).length = s.nonvolatile.log.countP fun x => !x.torn && x.record.isSome := by
  rw [loadedLog, (orderRecords_perm _).length_eq, loadRecords_length]

/-- The copy of the totals that a power-on takes. -/
def NewestTotals (s : State) (c : TotalsCopy) : Prop :=
  s.nonvolatile.totalsA = some c ∧ s.nonvolatile.totalsB = none ∨
    s.nonvolatile.totalsA = none ∧ s.nonvolatile.totalsB = some c ∨
    (∃ a b, s.nonvolatile.totalsA = some a ∧ s.nonvolatile.totalsB = some b ∧
      c = if a.generation < b.generation then b else a)

theorem loaded_newestTotals {s : State} {c : TotalsCopy} (h : NewestTotals s c) :
    (loaded s).accounts.totals = c.totals ∧ (loaded s).accounts.fault = false := by
  rw [loaded_accounts, loadedStore_accounts]
  obtain ⟨ha, hb⟩ | ⟨ha, hb⟩ | ⟨a, b, ha, hb, rfl⟩ := h
  · rw [ha, hb]; exact ⟨rfl, rfl⟩
  · rw [ha, hb]; exact ⟨rfl, rfl⟩
  · by_cases older : a.generation < b.generation
    · rw [ha, hb, newestCopy_both, if_pos older, if_pos older]; exact ⟨rfl, rfl⟩
    · rw [ha, hb, newestCopy_both, if_neg older, if_neg older]; exact ⟨rfl, rfl⟩

/-- A checkpoint with no trip open, whose last close overwrites nothing. -/
def RoomyClose (s : State) : Prop :=
  s.nonvolatile.checkpoint = none ∨ s.nonvolatile.checkpoint = some ⟨none, none⟩ ∨
    (∃ r, s.nonvolatile.checkpoint = some ⟨none, some r⟩ ∧
      s.nonvolatile.log.countP (fun x => !x.torn && x.record.isSome) < 32)

theorem RoomyClose.closed {s : State} (h : RoomyClose s) : accounted s = repaired s := by
  refine accounted_closed fun o l open_ => ?_
  obtain none | empty | ⟨r, close, -⟩ := h <;> simp_all

theorem RoomyClose.room {s : State} (h : RoomyClose s) :
    (loaded s).accounts.lastClose = none ∨ (loaded s).accounts.log.length < 32 := by
  rw [loaded_accounts]
  obtain none | empty | ⟨r, -, few⟩ := h
  · exact .inl (by simp [none])
  · exact .inl (by simp [empty])
  · exact .inr (by simpa [loadedLog_length] using few)

/-- The totals that a power-on makes of the newest copy: those of the records after its marker added. -/
theorem accounted_totals {s : State} {c : TotalsCopy} (roomy : RoomyClose s) (newest : NewestTotals s c) :
    let after := match c.totals.marker with
      | some m => recordsAfter m (accounted s).accounts.log
      | none => []
    (accounted s).accounts.totals = after.foldl (fun x y => withTrip x y.record) c.totals ∧
      (accounted s).writer.totalsDirty = !after.isEmpty := by
  obtain ⟨totals, fault⟩ := loaded_newestTotals newest
  obtain ⟨holding, -, dirty⟩ := repairLog_holding (loaded s)
  have repairedTotals : (repairLog (loaded s)).accounts.totals = c.totals := (repairLog_totals roomy.room).trans totals
  have log : (repaired s).accounts.log = (repairLog (loaded s)).accounts.log := by simp [repaired]
  have after : uncounted (repairLog (loaded s)) = match c.totals.marker with
      | some m => recordsAfter m (repaired s).accounts.log
      | none => [] := by
    rw [log]
    cases marker : c.totals.marker <;> simp only [uncounted, holding.1, fault, repairedTotals, marker]
  rw [roomy.closed]
  constructor
  · rw [← after, ← repairedTotals]; exact repairTotals_totals _
  · rw [← after, repaired, repairTotals_totalsDirty, dirty, loaded_totalsDirty, Bool.false_or]

/-- What a power-on makes of generation, copy and fault of the totals. -/
theorem poweredOn_holding (s : State) : SameHolding (loaded s) (poweredOn s) := by
  rw [SameHolding, poweredOn_accounts]; exact accounted_holding s

theorem pending_loaded_of_totals {k : EventKind} {s : State} (h : Pending k (loadedStore s)) : Pending k (loaded s) :=
  pending_of_loading (loadCheckpoint_link (loadLog (loadedStore s))) (pending_of_loading (loadLog_link (loadedStore s)) h)

/-- With no valid copy of the totals FAULT is raised. -/
theorem pending_of_no_totals {s : State} (ha : s.nonvolatile.totalsA = none) (hb : s.nonvolatile.totalsB = none) :
    Pending .fault (loadedStore s) := by
  have memory : (loadSettings (blank s)).nonvolatile = s.nonvolatile := by simp; rfl
  simp only [loadedStore, loadTotals, memory, ha, hb, newestCopy]
  exact (mem_insertEvent ..).mpr (.inl rfl)

theorem pending_of_torn {s : State} (h : ∃ x ∈ s.nonvolatile.log, x.torn = true) : Pending .fault (loaded s) := by
  have memory : (loadedStore s).nonvolatile = s.nonvolatile := by simp [loadedStore]; rfl
  refine pending_of_loading (loadCheckpoint_link (loadLog (loadedStore s))) ?_
  have torn : s.nonvolatile.log.any (·.torn) = true := List.any_eq_true.mpr h
  simp only [loadLog, memory, torn, if_true]
  exact (mem_insertEvent ..).mpr (.inl rfl)

theorem pending_of_no_checkpoint {s : State} (h : s.nonvolatile.checkpoint = none) : Pending .fault (loaded s) := by
  have memory : (loadLog (loadedStore s)).nonvolatile = s.nonvolatile := by simp [loadedStore]; rfl
  simp only [loaded, loadCheckpoint, memory, h]
  exact (mem_insertEvent ..).mpr (.inl rfl)

/-- Where no trip was open and no close is kept, the log is the stored one. -/
theorem accounted_log_of_empty {s : State}
    (h : s.nonvolatile.checkpoint = none ∨ s.nonvolatile.checkpoint = some ⟨none, none⟩) :
    (accounted s).accounts.log = loadedLog s := by
  have roomy : RoomyClose s := h.imp_right .inl
  have last : (loaded s).accounts.lastClose = none := by
    rw [loaded_accounts]; obtain h | h := h <;> simp [h]
  rw [roomy.closed, repaired, repairLog_none last, (repairTotals_accounts _).2.2.1, loaded_accounts]

theorem mem_loadedLog {s : State} {e : LogEntry} : e ∈ loadedLog s ↔
    ∃ (p : Nat) (x : StoredPosition) (r : TripRecord), s.nonvolatile.log[p]? = some x ∧ x.torn = false ∧
      x.record = some r ∧ e = ⟨p, loadedRecord x r, none⟩ := by
  rw [loadedLog, (orderRecords_perm _).mem_iff, mem_loadRecords]

theorem loadedLog_ordered {s : State} (h : ∃ n ∈ loadedLog s, Newest (loadedLog s) n) :
    ∃ n ∈ loadedLog s, Newest (loadedLog s) n ∧ (loadedLog s).Pairwise (Ordered n.record.seq) := by
  have members (e : LogEntry) : e ∈ loadedLog s ↔ e ∈ loadRecords 0 s.nonvolatile.log :=
    (orderRecords_perm _).mem_iff
  have newest (n : LogEntry) : Newest (loadedLog s) n ↔ Newest (loadRecords 0 s.nonvolatile.log) n := by
    simp only [Newest, members]
  simp only [members, newest] at h ⊢
  exact orderRecords_ordered h

/-- Settles O7. -/
theorem powerOnLoadsTheAccounts : Obligations.PowerOnLoadsTheAccounts := by
  intro s off
  obtain ⟨fault, generation, holder, -⟩ := poweredOn_holding s
  obtain ⟨follows, fresh⟩ := nextFollows_accounted s
  have accounts := poweredOn_accounts s
  refine ⟨poweredOn s, exec_powerOn_unpowered off, ?_, ?_, ?_, ?_, ?_, ?_, ?_, ?_, ?_, ?_, ?_, ?_, ?_⟩
  · rw [poweredOn_meter]; rfl
  · rw [poweredOn_meter]; simp only [Bool.not_eq_true]
  · intro a b ha hb
    rw [generation, holder, fault, loaded_accounts, loadedStore_accounts, ha, hb, newestCopy_both]
    by_cases older : a.generation < b.generation
    · rw [if_pos older, if_pos older]; exact ⟨(Nat.max_eq_right older.le).symm, rfl, rfl⟩
    · rw [if_neg older, if_neg older]; exact ⟨(Nat.max_eq_left (Nat.not_lt.mp older)).symm, rfl, rfl⟩
  · intro a ha hb
    rw [generation, holder, fault, loaded_accounts, loadedStore_accounts, ha, hb]; exact ⟨rfl, rfl, rfl⟩
  · intro b ha hb
    rw [generation, holder, fault, loaded_accounts, loadedStore_accounts, ha, hb]; exact ⟨rfl, rfl, rfl⟩
  · intro ha hb
    have faulty : (loaded s).accounts.fault = true := by rw [loaded_accounts, loadedStore_accounts, ha, hb]; rfl
    rw [generation, holder, fault, accounts, accounted_totals_of_fault faulty, loaded_accounts, loadedStore_accounts,
      ha, hb]
    exact ⟨rfl, rfl, rfl, rfl, pending_poweredOn (pending_loaded_of_totals (pending_of_no_totals ha hb))⟩
  · exact fun torn => pending_poweredOn (pending_of_torn torn)
  · intro none
    refine ⟨pending_poweredOn (pending_of_no_checkpoint none), ?_⟩
    rw [accounts, RoomyClose.closed (.inl none), (repaired_holding s).2, loaded_accounts, none]; rfl
  · rw [accounts]; exact follows
  · rw [accounts]; exact fresh
  · intro empty
    rw [accounts, accounted_log_of_empty empty]
    exact ⟨fun e => mem_loadedLog, loadedLog_ordered⟩
  · intro c roomy newest
    obtain ⟨totals, dirty⟩ := accounted_totals (c := c) roomy newest
    rw [accounts, (poweredOn_dirty s).1]
    refine ⟨fun m l e after marker log at_ first => ?_, fun unmarked => ?_⟩
    · simp only [marker, log, recordsAfter_split at_ first] at totals dirty
      exact ⟨totals, dirty⟩
    · obtain none | absent := unmarked
      · simp only [none] at totals dirty
        exact ⟨totals, dirty⟩
      · cases marker : c.totals.marker with
        | none => simp only [marker] at totals dirty; exact ⟨totals, dirty⟩
        | some m =>
          simp only [marker, recordsAfter_absent (absent m marker)] at totals dirty
          exact ⟨totals, dirty⟩
  · intro r u close hu
    set s' : State := { s with nonvolatile := { s.nonvolatile with checkpoint := some ⟨none, none⟩ } } with hs'
    obtain rfl : poweredOn s' = u := Host.Outcome.next.inj ((exec_powerOn_unpowered (s := s') off).symm.trans hu)
    have alike : Alike (loaded s') (loaded s) := loaded_alike rfl rfl rfl
    have last : (loaded s).accounts.lastClose = some r := by rw [loaded_accounts, close]; rfl
    have last' : (loaded s').accounts.lastClose = none := by rw [loaded_accounts]; rfl
    have closed : accounted s = repaired s := accounted_closed fun o l => by simp [close]
    have closed' : accounted s' = repaired s' := accounted_closed fun o l => by simp [hs']
    have before : repaired s' = repairTotals (loaded s') := by rw [repaired, repairLog_none last']
    have log' : (poweredOn s').accounts.log = (loaded s).accounts.log := by
      rw [poweredOn_accounts, closed', before, (repairTotals_accounts _).2.2.1, alike.log]
    have next' : (poweredOn s').accounts.nextSeq = (loaded s).accounts.nextSeq := by
      rw [poweredOn_accounts, closed', before, (repairTotals_accounts _).2.2.2.1, alike.next]
    rw [accounts, closed, log', next', (poweredOn_dirty s).2.2, closed]
    refine ⟨(repaired_holding s).2.trans last, fun absent next => ?_, fun held => ?_⟩
    · have missed := repairLog_missed last ⟨absent, next⟩
      have log : (repaired s).accounts.log = appendedLog (storedRecord r) (loaded s).accounts.log := by
        rw [repaired, missed, (repairTotals_accounts _).2.2.1, (appendRecord_accounts _ _).2.2.1]
      refine ⟨log ▸ appended_appendedLog _ _, fun e he => ?_⟩
      rw [log, appendedLog_getLast] at he
      rw [← Option.some.inj he, repaired, missed, (repairTotals_accounts _).2.2.2.2]
      exact appendRecord_recordsDirty _ _
    · have same : repaired s = repairTotals (loaded s) := by
        rw [repaired, repairLog_held last fun missed => ?_]
        obtain ⟨e, he, hseq⟩ | ⟨some, other⟩ := held
        · exact missed.1 e he hseq
        · exact missed.2.elim some other
      refine ⟨by rw [same, (repairTotals_accounts _).2.2.1], ?_⟩
      rw [same, poweredOn_accounts, closed', before]
      exact alike.repairTotals.totals

end Sys2Proof.Machine
end

section
/-! PROOFS. The channel receiver: what a good header is, the window, SPARSE watch, the time of day and the voice pin. -/

namespace Sys2Proof.Machine

/-! ### Good headers -/

theorem toDayType_isSome {n : Nat} : (toDayType n).isSome = true ↔ n ≤ 1 := by
  match n with
  | 0 | 1 => simp [toDayType]
  | n + 2 => simp [toDayType]

theorem toDayType_eq {n : Nat} (h : n ≤ 1) : toDayType n = some (if n = 0 then .workday else .restday) := by
  match n with
  | 0 | 1 => rfl
  | n + 2 => omega

theorem toSlotUse_isSome {f : SlotField} :
    (toSlotUse f).isSome = true ↔ f.kind ≤ 3 ∧ (f.kind = 3 → 1 ≤ f.address ∧ f.address ≤ 4094) := by
  obtain ⟨kind, address⟩ := f
  match kind with
  | 0 | 1 | 2 => simp [toSlotUse]
  | 3 => simp [toSlotUse, within, Option.isSome_iff_exists]
  | n + 4 => simp [toSlotUse]

theorem slotUses_eq_some {l : List SlotField} {us : List SlotUse} :
    slotUses l = some us ↔ l.map toSlotUse = us.map some := by
  induction l generalizing us with
  | nil => cases us <;> simp [slotUses]
  | cons f fs ih =>
    cases hf : toSlotUse f with
    | none => cases us <;> simp [slotUses, hf]
    | some u =>
      cases hfs : slotUses fs with
      | none =>
        cases us with
        | nil => simp [slotUses, hf, hfs]
        | cons v vs =>
          have : ¬ fs.map toSlotUse = vs.map some := fun h => by simp [ih.mpr h] at hfs
          simp [slotUses, hf, hfs, this]
      | some vs =>
        cases us with
        | nil => simp [slotUses, hf, hfs]
        | cons v ws => simp [slotUses, hf, hfs, ← ih]

theorem slotUses_isSome {l : List SlotField} : (slotUses l).isSome = true ↔ ∀ f ∈ l, (toSlotUse f).isSome = true := by
  induction l with
  | nil => simp [slotUses]
  | cons f fs ih =>
    rw [List.forall_mem_cons, ← ih]
    cases hf : toSlotUse f <;> cases hfs : slotUses fs <;> simp [slotUses, hf, hfs]

theorem slotUses_length {l : List SlotField} {us : List SlotUse} (h : slotUses l = some us) : us.length = l.length := by
  simpa using (congrArg List.length (slotUses_eq_some.mp h)).symm

theorem pairsOk {l : List HeardPair} :
    l.all pairOk = true ↔ ∀ p ∈ l, p.slot ≤ 9 ∧ 1 ≤ p.address ∧ p.address ≤ 4094 := by
  simp [List.all_eq_true, pairOk, within]

/-- A good header as the receiver uses it, its slots under their uses. -/
def goodOf (h : HeaderBlock) (slots : List SlotUse) : GoodHeader :=
  { cycle := h.cycle, time := ⟨if h.dayType = 0 then .workday else .restday, h.second⟩
    persistence := correctedPersistence h.persistence, statusInterval := correctedInterval h.statusInterval
    offersPaused := h.offersPaused, slots := slots, heard := h.heard }

theorem judgeHeader_good {h : HeaderBlock} {fleet : Nat} (good : HeaderGood h fleet) :
    ∃ slots, h.slots.map toSlotUse = slots.map some ∧ judgeHeader h fleet = some (goodOf h slots) := by
  obtain ⟨check, fleetOk, cycle, day, second, ten, slotsOk, pairs, heard⟩ := good
  have uses : (slotUses h.slots).isSome = true := slotUses_isSome.mpr fun f hf => toSlotUse_isSome.mpr (slotsOk f hf)
  obtain ⟨slots, hslots⟩ := Option.isSome_iff_exists.mp uses
  refine ⟨slots, slotUses_eq_some.mp hslots, ?_⟩
  have length : slots.length = 10 := (slotUses_length hslots).trans ten
  simp [judgeHeader, toDayType_eq day, hslots, check, fleetOk, within, cycle, second, length, pairs, goodOf]
  simpa [pairOk, within] using heard

theorem judgeHeader_bad {h : HeaderBlock} {fleet : Nat} (bad : ¬ HeaderGood h fleet) : judgeHeader h fleet = none := by
  by_contra some
  obtain ⟨g, hg⟩ := Option.ne_none_iff_exists'.mp some
  unfold judgeHeader at hg
  split at hg
  · rename_i day slots hday hslots
    split at hg
    · rename_i ok
      obtain ⟨check, fleetOk, cycle, second, ten, pairs, heard⟩ := ok
      simp only [within, Bool.and_eq_true, decide_eq_true_eq, Nat.zero_le, true_and] at cycle second
      refine bad ⟨check, fleetOk, cycle, ?_, second, (slotUses_length hslots).symm.trans ten, fun f hf => ?_, pairs,
        pairsOk.mp heard⟩
      · exact toDayType_isSome.mp (by simp [hday])
      · exact toSlotUse_isSome.mp (slotUses_isSome.mp (by simp [hslots]) f hf)
    · simp at hg
  · simp at hg

theorem exec_cycleHeader (h : HeaderBlock) (s : State) :
    exec (.cycleHeader h) s = .next (whenPowered (arriveHeader h) s) := rfl

/-- A good header in SEARCH or in the open window is taken. -/
theorem exec_cycleHeader_taken {h : HeaderBlock} {s : State} (on : s.powered = true)
    (good : HeaderGood h s.store.working.fleetCode) (open_ : s.receiver.sync = .search ∨ s.receiver.windowOpen = true) :
    ∃ slots, h.slots.map toSlotUse = slots.map some ∧
      exec (.cycleHeader h) s = .next (takeHeader (goodOf h slots) s) := by
  obtain ⟨slots, hslots, judged⟩ := judgeHeader_good good
  refine ⟨slots, hslots, ?_⟩
  rw [exec_cycleHeader, whenPowered, if_pos on, arriveHeader, judged]
  simp only [hearHeader, open_, if_true]

/-- Settles O12. -/
theorem otherHeadersAreNotTaken : Obligations.OtherHeadersAreNotTaken := by
  intro h s
  rw [exec_cycleHeader]
  constructor
  · intro other
    unfold whenPowered
    split
    · rename_i on
      rw [arriveHeader, judgeHeader_bad (other.resolve_right (by simp [on]))]
    · rfl
  · intro on good searching shut
    obtain ⟨slots, -, judged⟩ := judgeHeader_good good
    rw [whenPowered, if_pos on, arriveHeader, judged]
    simp [hearHeader, searching, shut]

/-! ### The window, SPARSE watch, the time of day and the voice pin -/

theorem atInstant_due {due : Option Nat} {t : Nat} (h : due = some t) (effect : State → State) (s : State) :
    atInstant due effect s = effect (advanceTo t s) := by rw [h]; rfl

theorem atInstant_not_due {due : Option Nat} (h : due = none) (effect : State → State) (s : State) :
    atInstant due effect s = s := by rw [h]; rfl

theorem exec_windowOpen {s : State} {p : Nat} (on : s.powered = true) (aimed : s.receiver.expected = some p)
    (shut : s.receiver.windowOpen = false) : exec .windowOpen s = .next { s with
      now := max s.now (p - 30)
      receiver := { s.receiver with windowOpen := true, stretches := 0 } } :=
  congrArg Host.Outcome.next (atInstant_due (t := p - 30) (by simp [windowOpenDue, on, shut, aimed]) _ s)

theorem exec_windowStretch {s : State} {p : Nat} (on : s.powered = true) (aimed : s.receiver.expected = some p)
    (opened : s.receiver.windowOpen = true) (few : s.receiver.stretches < 5) : exec .windowStretch s = .next { s with
      now := max s.now (p + 30 + 20 * s.receiver.stretches)
      receiver := { s.receiver with stretches := s.receiver.stretches + 1 } } :=
  congrArg Host.Outcome.next (atInstant_due (t := p + 30 + 20 * s.receiver.stretches)
    (by simp [windowStretchDue, windowClose, on, opened, aimed, few, mul_comm]) _ s)

theorem exec_missedHeader {s : State} {p : Nat} (on : s.powered = true) (aimed : s.receiver.expected = some p)
    (opened : s.receiver.windowOpen = true) (last : s.receiver.stretches = 5) :
    exec .missedHeader s = .next (missHeader (advanceTo (p + 130) s)) :=
  congrArg Host.Outcome.next (atInstant_due (t := p + 130)
    (by simp [missedHeaderDue, windowClose, on, opened, aimed, last, Config.windowMs, Config.stretchMs]) _ s)

theorem sparseConditions_iff (s : State) : sparseConditions s = true ↔
    s.receiver.parkSince ≠ none ∧ s.receiver.parkMarked = true ∧ s.receiver.parkedStatus = true ∧
      (s.meter.state = .off ∨ s.meter.state = .free ∧ assignment s = none) ∧ s.emergency.state = .idle ∧
      s.scheduler.queue = [] := by
  simp [sparseConditions, Option.isSome_iff_ne_none, and_assoc]

theorem maySparse_iff (s : State) : maySparse s = true ↔
    s.receiver.watch = .full ∧ sparseConditions s = true ∧ s.receiver.sparseHeld = false := by
  simp [maySparse, and_assoc]

theorem enterSparseDue_may {s : State} (on : s.powered = true) (may : maySparse s = true) : enterSparseDue s = some 0 := by
  simp [enterSparseDue, dueWhen, on, may]

theorem enterSparseDue_not {s : State} (may : ¬ maySparse s = true) : enterSparseDue s = none := by
  simp [enterSparseDue, dueWhen, may]

/-- The end of the meter's states that are not of a trip. -/
theorem onTrip_false_of_sparse {s : State}
    (h : s.meter.state = .off ∨ s.meter.state = .free ∧ assignment s = none) : s.meter.state.onTrip = false := by
  obtain h | ⟨h, -⟩ := h <;> rw [h] <;> rfl

/-- Settles O15. -/
theorem sparseWatchIsEntered : Obligations.SparseWatchIsEntered := by
  intro s on full
  have stepped : exec .enterSparse s = .next (atInstant (enterSparseDue s) enterSparse s) := rfl
  rw [stepped]
  constructor
  · intro park marked status meter idle empty free
    have may : maySparse s = true := (maySparse_iff s).mpr
      ⟨full, (sparseConditions_iff s).mpr ⟨park, marked, status, meter, idle, empty⟩, free⟩
    rw [atInstant_due (enterSparseDue_may on may)]
    refine ⟨_, rfl, ?_, ?_, ?_⟩
    · have reaimed (span : Nat) (r : Receiver) :
          reaim span r = { r with expected := (reaim span r).expected, span := (reaim span r).span } := by
        unfold reaim; split <;> rfl
      have now : max s.now 0 = s.now := Nat.max_zero ..
      simp only [enterSparse, advanceTo, raise, now]
      rw [reaimed]
      rfl
    · intro none
      have kept : ∀ r : Receiver, r.windowOpen = s.receiver.windowOpen → r.expected = s.receiver.expected →
          ∀ n, reaim n r = r := fun r hw he n => by
        unfold reaim; rw [hw, he, if_pos]; simpa using none
      simp only [enterSparse, advanceTo, raise]
      rw [kept _ (by rfl) (by rfl)]
      exact ⟨rfl, rfl⟩
    · intro shut aimed
      obtain ⟨least, most, listens⟩ := cyclesToListened_spec (s.receiver.cycle.getD 0) s.store.working.address
      have moved : ∀ r : Receiver, r.windowOpen = s.receiver.windowOpen → r.expected = s.receiver.expected →
          ∀ n, reaim n r = { r with expected := some (r.cycleStart + n * Config.cycleMs), span := n } := fun r hw he n => by
        unfold reaim; rw [hw, he, if_neg]; simpa [shut] using aimed
      simp only [enterSparse, advanceTo, raise]
      rw [moved _ (by rfl) (by rfl)]
      exact ⟨least, most, listens, rfl⟩
  · intro fails
    rw [atInstant_not_due (enterSparseDue_not fun may => ?_)]
    obtain ⟨-, conditions, free⟩ := (maySparse_iff s).mp may
    obtain ⟨park, marked, status, meter, idle, empty⟩ := (sparseConditions_iff s).mp conditions
    have off := onTrip_false_of_sparse meter
    simp_all

/-- Settles O16. -/
theorem timePulseAndVoice : Obligations.TimePulseAndVoice := by
  constructor
  · intro s on
    refine ⟨fun none => ?_, fun r some => ?_, fun i some => ?_, fun none => ?_⟩
    · exact congrArg Host.Outcome.next (atInstant_not_due (by simp [timeOfDayDue, none]) _ s)
    · refine congrArg Host.Outcome.next ((atInstant_due (t := r.since + 1000) (by simp [timeOfDayDue, on, some]) _ s).trans ?_)
      have rolled : nextSecond r = { r with
          time := ⟨r.time.day, if r.time.second < 86399 then r.time.second + 1 else 0⟩
          since := r.since + 1000 } := by
        unfold nextSecond
        by_cases late : r.time.second ≥ 86399
        · simp [late, Nat.not_lt.mpr late]
        · simp [late, Nat.not_le.mp late]
      simp only [advanceTo, some, Option.map_some, rolled]
    · exact congrArg Host.Outcome.next (atInstant_due (t := i + 50) (by simp [hostResetDue, on, some]) _ s)
    · exact congrArg Host.Outcome.next (atInstant_not_due (by simp [hostResetDue, none]) _ s)
  · intro s on
    refine ⟨fun released => ?_, fun asserted => ?_, fun sending => ?_⟩
    · show Host.Outcome.next _ = _
      rw [released, if_neg (by simp), whenPowered, if_pos (by exact on)]
      cases voice : s.receiver.voice <;> simp [requestVoice, setVoiceReq, voice, grantVoice, setVoice]
      split
      · rfl
      · cases sending : s.receiver.transmission <;> simp
    · show Host.Outcome.next _ = _
      rw [asserted, if_pos rfl, whenPowered, if_pos (by exact on)]; rfl
    · show Host.Outcome.next _ = _
      rw [if_pos ⟨on, Option.isSome_iff_ne_none.mpr sending⟩]
      by_cases pending : s.receiver.voice = .pending <;> simp [endTransmission, pending, setVoice]

end Sys2Proof.Machine
end

section
/-! PROOFS. Downlink items: which command hands what to which owner, what an item not taken leaves, and how a taken one
returns SPARSE watch to FULL. -/

namespace Sys2Proof.Machine

/-! ### The watch and the pending events as the operations of an item leave them -/

/-- No event leaves the pending set, and a change of the watch tells LINK. -/
structure Told (s t : State) : Prop where
  events : ∀ k, Pending k s → Pending k t
  watch : t.receiver.watch = s.receiver.watch ∨ Pending .link t

namespace Told

theorem refl (s : State) : Told s s := ⟨fun _ => id, .inl rfl⟩

theorem trans {s t u : State} (a : Told s t) (b : Told t u) : Told s u where
  events k := b.events k ∘ a.events k
  watch := b.watch.elim (fun e => a.watch.imp e.trans (b.events _)) .inr

theorem of_eq {s t : State} (link : t.link = s.link) (watch : t.receiver.watch = s.receiver.watch) : Told s t :=
  ⟨fun _ h => by rw [Pending, link]; exact h, .inl watch⟩

/-- An operation told of from a state with the same events and watch. -/
theorem after {s t u : State} (h : Told t u) (link : t.link = s.link)
    (watch : t.receiver.watch = s.receiver.watch) : Told s u := (of_eq link watch).trans h

theorem raised (k : EventKind) {s t : State} (h : Told s t) : Told s (raise k t) :=
  h.trans ⟨fun _ h => (mem_insertEvent ..).mpr (.inr h), .inl rfl⟩

theorem returnToFull (s : State) : Told s (returnToFull s) := by
  unfold Machine.returnToFull
  split
  · exact refl s
  · exact ⟨fun _ h => (mem_insertEvent ..).mpr (.inr h), .inr ((mem_insertEvent ..).mpr (.inl rfl))⟩

theorem placeEntry (kind : EntryKind) (key : Nat) (content : EntryContent) (deadline : Option Nat) (s : State) :
    Told s (placeEntry kind key content deadline s) :=
  placeEntry_kept (P := Told s) (fun _ _ h => h.trans (of_eq rfl rfl)) (fun t h => h.trans (returnToFull t))
    kind key content deadline (refl s)

theorem generateStatus (s : State) : Told s (generateStatus s) := by
  unfold Machine.generateStatus
  split
  · exact placeEntry ..
  · split
    · exact of_eq rfl rfl
    all_goals exact refl s

theorem foldl {α : Type} {g : State → α → State} (h : ∀ s a, Told s (g s a)) (l : List α) (s : State) :
    Told s (l.foldl g s) :=
  foldl_keeps (Told s) g (fun t a ht => ht.trans (h t a)) l s (refl s)

theorem closeOnly (n : Nat) (outcome : OfferOutcome) (s : State) : Told s (closeOnly n outcome s) :=
  raised .offerClosed (of_eq rfl rfl)

theorem refilter (s : State) : Told s (refilter s) := foldl (fun s n => closeOnly n .dropped s) _ s

theorem closeOffer (n : Nat) (outcome : OfferOutcome) (s : State) : Told s (closeOffer n outcome s) := by
  unfold Machine.closeOffer
  split
  · exact refl s
  · split
    · exact ((closeOnly ..).trans (generateStatus _)).trans (refilter _)
    · exact closeOnly ..

theorem dropClaim (o : Offer) (s : State) : Told s (dropClaim o s) := by
  rw [dropClaim_eq]
  exact of_eq rfl rfl

theorem receiveAward (n : Nat) (s : State) : Told s (receiveAward n s) := by
  unfold Machine.receiveAward autoDecline
  split
  · exact placeEntry ..
  · rename_i o _
    have award : Told s (Machine.raise .award
        (updateOffer n (fun o => { o with state := .awarded }) (Machine.dropClaim o s))) :=
      raised _ ((dropClaim o s).trans (of_eq rfl rfl))
    dsimp only
    (repeat' split)
    · exact ((dropClaim ..).trans (closeOffer ..)).trans (placeEntry ..)
    · exact (award.trans (generateStatus _)).trans (refilter _)
    · exact ((dropClaim ..).trans (closeOffer ..)).trans (placeEntry ..)
    · exact (award.trans (generateStatus _)).trans (refilter _)
    · exact refl s
    all_goals exact placeEntry ..

theorem receiveLost (n : Nat) (s : State) : Told s (receiveLost n s) := by
  unfold Machine.receiveLost
  split
  · exact refl s
  · split
    iterate 2 exact (dropClaim ..).trans (closeOffer ..)
    all_goals exact refl s

theorem receiveWithdraw (n : Nat) (s : State) : Told s (receiveWithdraw n s) := by
  unfold Machine.receiveWithdraw
  split
  · exact refl s
  · split
    · exact refl s
    · exact (dropClaim ..).trans (closeOffer ..)

theorem placeOffer (new : Offer) (s : State) : Told s (placeOffer new s) := by
  have present (t : State) (h : Told s t) : Told s (presentOffer new t) :=
    h.trans (raised _ (of_eq rfl rfl))
  unfold Machine.placeOffer
  split
  · split
    · exact refl s
    · exact raised _ (of_eq rfl rfl)
  · (repeat' split)
    · exact present s (refl s)
    · exact present _ (of_eq rfl rfl)
    · exact present _ (of_eq rfl rfl)
    · exact of_eq rfl rfl

theorem handOffer (o : OfferFields) (g : Target) (s : State) : Told s (handOffer o g s) := by
  unfold Machine.handOffer receiveOffer
  dsimp only
  split
  · exact placeOffer ..
  · exact refl s

theorem placeReceipts (s : State) : Told s (placeReceipts s) :=
  foldl (fun t m => placeReceipt_kept (P := Told t) (fun _ _ h => h.trans (of_eq rfl rfl))
    (fun u h => h.trans (returnToFull u)) (fun _ _ h => h.trans (of_eq rfl rfl)) m (refl t)) _ s

theorem storeMessage (m : Message) (s : State) : Told s (storeMessage m s) :=
  (raised (s := s) .message (t := { s with inbox := { s.inbox with messages := s.inbox.messages ++ [m] } })
    (of_eq rfl rfl)).trans (placeReceipts _)

theorem handText (x : TextFields) (g : Target) (s : State) : Told s (handText x g s) := by
  unfold Machine.handText receiveText
  dsimp only
  (repeat' split)
  · exact (placeReceipts _).after rfl rfl
  · exact storeMessage ..
  · exact (storeMessage ..).after rfl rfl
  · exact raised _ (of_eq rfl rfl)

theorem voiceAfterActive (s : State) : Told s (voiceAfterActive s) := by
  unfold Machine.voiceAfterActive
  split
  · exact of_eq rfl rfl
  all_goals exact refl s

theorem receiveEmergAck (s : State) : Told s (receiveEmergAck s) := by
  unfold Machine.receiveEmergAck
  split
  · exact raised _ ((voiceAfterActive _).after rfl rfl)
  · exact of_eq rfl rfl
  all_goals exact refl s

theorem endEmergency (last : LastEnd) (s : State) : Told s (endEmergency last s) := by
  rw [endEmergency_eq]
  have ended : Told s (Machine.voiceAfterActive (setMark .none (emergencyEnded last s))) :=
    (voiceAfterActive _).after rfl rfl
  dsimp only
  split
  · exact ended.raised _
  · exact ended

theorem receiveStandDown (s : State) : Told s (receiveStandDown s) := by
  unfold Machine.receiveStandDown
  split
  · exact refl s
  all_goals exact endEmergency ..

theorem setSync (new : Sync) (s : State) : Told s (setSync new s) := by
  unfold Machine.setSync
  dsimp only
  split
  · exact of_eq rfl rfl
  · exact raised _ (of_eq rfl rfl)

theorem emptyEntry (s : State) (e : Entry) : Told s (emptyEntry s e) := by
  unfold Machine.emptyEntry
  split
  · exact of_eq rfl rfl
  · exact raised _ (of_eq rfl rfl)
  all_goals exact refl s

theorem emptyQueue (s : State) : Told s (emptyQueue s) := (foldl emptyEntry _ s).trans (of_eq rfl rfl)

theorem loseZone (s : State) : Told s (loseZone s) := by
  unfold Machine.loseZone
  dsimp only
  split
  · exact raised _ (of_eq rfl rfl)
  · exact of_eq rfl rfl

theorem restartPark (s : State) : Told s (restartPark s) := by
  unfold Machine.restartPark
  split <;> exact of_eq rfl rfl

theorem pulseHost (s : State) : Told s (pulseHost s) := by
  unfold Machine.pulseHost
  split
  · exact ⟨fun _ => id, .inl rfl⟩
  · exact refl s

theorem remoteReset (s : State) : Told s (remoteReset s) := by
  by_cases idle : s.emergency.state = .idle
  · rw [remoteReset_idle s idle]
    have cleared : Told s (clearedJobs (Machine.emptyQueue (loseSync s))) :=
      (((setSync ..).after rfl rfl : Told s (loseSync s)).trans (emptyQueue _)).trans (of_eq rfl rfl)
    exact (cleared.trans ((loseZone _).trans (returnToFull _))).trans
      ((restartPark _).trans ((pulseHost _).after rfl rfl))
  · rw [remoteReset_ignored s idle]
    exact refl s

end Told

/-! ### Which command hands what (R5) -/

/-- A downlink item as the receiver takes it: whether its fields are in range, the targets of its kind, whether it is
an OFFER, and what its owner does with it. -/
structure ItemTaken (c : Instr) (head : ItemHead) (allowed : Target → Bool) (ok offer : Bool)
    (hand : Target → State → State) : Prop where
  exec : ∀ s, exec c s = .next (takeItem head ok allowed offer hand s)
  ok : ok = true ↔ FieldsInRange c
  offer : offer = true ↔ ∃ o, c = .offer head o
  told : ∀ g s, Told s (hand g s)

theorem within_iff (a b n : Nat) : within a b n = true ↔ a ≤ n ∧ n ≤ b := by simp [within]

theorem toClass_isSome (n : Nat) : (toClass n).isSome = true ↔ n ≤ 2 := by
  rcases n with _ | _ | _ | n <;> simp [toClass]

theorem toBool_isSome (n : Nat) : (toBool n).isSome = true ↔ n ≤ 1 := by
  rcases n with _ | _ | n <;> simp [toBool]

theorem toPriority_isSome (n : Nat) : (toPriority n).isSome = true ↔ n ≤ 1 := by
  rcases n with _ | _ | n <;> simp [toPriority]

theorem all_printable (l : Text) : l.all printable = true ↔ ∀ b ∈ l, 0x20 ≤ b.toNat ∧ b.toNat ≤ 0x7E := by
  simp [printable]

theorem offerFieldsOk_iff (o : OfferFields) : offerFieldsOk o = true ↔ OfferInRange o := by
  obtain ⟨number, cls, nextJob, pickup, timeToLive, text, estimate⟩ := o
  simp only [offerFieldsOk, OfferInRange, Bool.and_eq_true, within_iff, toClass_isSome, toBool_isSome]
  cases text <;> cases estimate <;> simp [printable, Config.maxFare] <;> tauto

theorem textFieldsOk_iff (x : TextFields) : textFieldsOk x = true ↔ TextInRange x := by
  simp [textFieldsOk, TextInRange, within_iff, toPriority_isSome, printable, and_assoc]

theorem itemTaken (c : Instr) (head : ItemHead) (unitKind : Bool) (h : itemHead c = some (head, unitKind)) :
    ∃ ok offer hand, ItemTaken c head (if unitKind then unitOnly else anyTarget) ok offer hand := by
  unfold itemHead at h
  split at h
  case h_10 => cases h
  all_goals obtain ⟨rfl, rfl⟩ := Prod.mk.inj (Option.some.inj h)
  case h_1 o => exact ⟨_, _, _, fun _ => rfl, offerFieldsOk_iff o, by simp, Told.handOffer o⟩
  case h_2 n => exact ⟨_, _, _, fun _ => rfl, within_iff .., by simp, fun _ => Told.receiveWithdraw n⟩
  case h_3 x => exact ⟨_, _, _, fun _ => rfl, textFieldsOk_iff x, by simp, Told.handText x⟩
  case h_4 n => exact ⟨_, _, _, fun _ => rfl, within_iff .., by simp, fun _ => Told.receiveAward n⟩
  case h_5 n => exact ⟨_, _, _, fun _ => rfl, within_iff .., by simp, fun _ => Told.receiveLost n⟩
  case h_6 => exact ⟨_, _, _, fun _ => rfl, by simp [FieldsInRange], by simp, fun _ => Told.refl⟩
  case h_7 => exact ⟨_, _, _, fun _ => rfl, by simp [FieldsInRange], by simp, fun _ => Told.receiveEmergAck⟩
  case h_8 => exact ⟨_, _, _, fun _ => rfl, by simp [FieldsInRange], by simp, fun _ => Told.receiveStandDown⟩
  case h_9 => exact ⟨_, _, _, fun _ => rfl, by simp [FieldsInRange], by simp, fun _ => Told.remoteReset⟩

/-! ### Items that are not taken (R4, R6) -/

section
variable (head : ItemHead) (ok : Bool) (allowed : Target → Bool) (offer : Bool) (hand : Target → State → State)
  (s : State)

theorem takeItem_unheard
    (h : s.powered = false ∨ s.receiver.sync ≠ .locked ∨ s.receiver.itemsOpen = false ∨
      s.receiver.cycleStart + 1200 ≤ s.now ∨ s.receiver.watch = .sparse ∧ s.receiver.cycleListened = false ∨
      8 ≤ s.receiver.itemCount ∨ head.checkOk = false) :
    takeItem head ok allowed offer hand s = s := by
  rw [takeItem, if_neg]
  simp only [itemReceived, decoding, Config.cycleMs, Bool.and_eq_true, Bool.or_eq_true, beq_iff_eq, decide_eq_true_eq]
  rintro ⟨on, ⟨⟨⟨⟨sync, opened⟩, cycle⟩, listened⟩, check⟩, count⟩
  rcases h with h | h | h | h | ⟨h, h'⟩ | h | h
  · simp [h] at on
  · exact h sync
  · simp [h] at opened
  · omega
  · simp [h, h'] at listened
  · omega
  · simp [h] at check

theorem takeItem_heard (heard : ItemsHeard s) (check : head.checkOk = true) :
    (passes head ok allowed offer s = none → takeItem head ok allowed offer hand s = blockCounted s) ∧
      ∀ g, passes head ok allowed offer s = some g → takeItem head ok allowed offer hand s =
        if g = .unit then returnHeld (hand g (countItem s)) else hand g (countItem s) := by
  rw [takeItem, if_pos (by rw [heard.1, itemReceived_of_heard head s heard check]; rfl)]
  exact ⟨fun h => by rw [h]; rfl, fun g h => by rw [h]⟩

end

theorem passes_eq_some (head : ItemHead) (ok : Bool) (allowed : Target → Bool) (offer : Bool) (s : State) (g : Target) :
    passes head ok allowed offer s = some g ↔ toTarget head.target = some g ∧ head.encodingOk = true ∧ ok = true ∧
      allowed g = true ∧ targetPasses offer g head.value s = true := by
  unfold passes
  split
  · rename_i e
    simp [e]
  · rename_i g' e
    rw [e]
    by_cases hg : g' = g
    · subst hg
      simp [and_assoc]
    · simp [hg]

theorem toTarget_eq_some (n : Nat) (g : Target) : toTarget n = some g ↔
    n = 0 ∧ g = .all ∨ n = 1 ∧ g = .zone ∨ n = 2 ∧ g = .unit := by
  rcases n with _ | _ | _ | n <;> simp [toTarget, eq_comm]

theorem targetPasses_iff (offer : Bool) (g : Target) (value : Nat) (s : State) :
    targetPasses offer g value s = true ↔
      (g = .zone → 1 ≤ value ∧ value ≤ 250 ∧ (offer = true → value ∈ servedSet s)) ∧
      (g = .unit → s.store.working.address ≠ 0 ∧ value = s.store.working.address) := by
  cases g <;> simp [targetPasses, within_iff, and_assoc, imp_iff_not_or]

/-- Settles O17. Each item command is taken in one way (`itemTaken`); an item unheard changes nothing, one that fails
a condition of `passes_eq_some` is counted, and one that returns the watch to FULL has told it. -/
theorem discardedItemsChangeNothing : Obligations.DiscardedItemsChangeNothing := by
  intro c head unitKind s hitem
  obtain ⟨ok, offer, hand, taken⟩ := itemTaken c head unitKind hitem
  refine ⟨fun unheard => ?_, fun heard check bad => ?discarded, fun t unit range ht => ?sparse⟩
  · rw [taken.exec, takeItem_unheard head ok _ offer hand s unheard]
  case discarded =>
    rw [taken.exec, (takeItem_heard head ok _ offer hand s heard check).1]
    rw [Option.eq_none_iff_forall_ne_some]
    intro g hg
    obtain ⟨htarget, hencoding, hok, hallowed, hpasses⟩ := (passes_eq_some ..).mp hg
    obtain ⟨hzone, hunit⟩ := (targetPasses_iff ..).mp hpasses
    have htarget := (toTarget_eq_some ..).mp htarget
    rcases bad with bad | bad | bad | ⟨bad, bad'⟩ | ⟨bad, bad'⟩ | ⟨bad, bad'⟩ | ⟨bad, bad', bad''⟩
    · simp [bad] at hencoding
    · exact bad (taken.ok.mp hok)
    · omega
    · subst bad
      obtain rfl : g = .unit := by simpa [unitOnly] using hallowed
      rcases htarget with ⟨_, h⟩ | ⟨_, h⟩ | ⟨h, -⟩
      · cases h
      · cases h
      · exact bad' h
    · obtain rfl : g = .unit := by simpa [bad] using htarget
      obtain ⟨haddress, hvalue⟩ := hunit rfl
      exact bad'.elim haddress (· hvalue)
    · obtain rfl : g = .zone := by simpa [bad] using htarget
      obtain ⟨h1, h2, -⟩ := hzone rfl
      omega
    · obtain rfl : g = .zone := by simpa [bad'] using htarget
      exact bad'' ((hzone rfl).2.2 (taken.offer.mpr bad))
  case sparse =>
    obtain ⟨heard, check, encoding, names, watch⟩ := unit
    rw [taken.exec, taken.ok.mpr range,
      takeItem_unit head _ offer hand s heard check encoding names (by cases unitKind <;> rfl)] at ht
    obtain rfl := Host.Outcome.next.inj ht
    refine ⟨returnHeld_watch _, ?_⟩
    have told := taken.told .unit (countItem s)
    cases hw : (hand .unit (countItem s)).receiver.watch with
    | full =>
      rw [returnHeld_full _ hw]
      exact told.watch.elim (fun e => absurd (e.symm.trans hw) (by simp [countItem, watch])) id
    | sparse =>
      rw [returnHeld_eq_backToFull _ hw]
      exact (mem_insertEvent ..).mpr (.inl rfl)

end Sys2Proof.Machine
end

section
/-! PROOFS. Downlink items: PAGE, WITHDRAW and AWARD. -/

namespace Sys2Proof.Machine

/-! ### The board's entries after an operation -/

theorem findOffer_updateOffer {n : Nat} {f : Offer → Offer} {s : State} {o : Offer} (h : findOffer n s = some o)
    (number : ∀ x, (f x).number = x.number) : findOffer n (updateOffer n f s) = some (f o) := by
  have hsame : ((fun x : Offer => x.number == n) ∘ fun x => if x.number == n then f x else x) =
      fun x => x.number == n := by
    funext x
    by_cases hx : x.number = n <;> simp [hx, number]
  simp only [findOffer, updateOffer, List.find?_map, hsame]
  rw [show s.board.entries.find? (fun x => x.number == n) = some o from h]
  simp [number_of_findOffer n s o h]

/-- The new test leaves the entry of a number that no PRESENTED entry has. -/
theorem findOffer_refilter {n : Nat} {s : State} {o : Offer} (h : findOffer n s = some o)
    (open' : ∀ x ∈ s.board.entries, x.number = n → x.state ≠ .presented) : findOffer n (refilter s) = some o := by
  have hnot : n ∉ noLongerAdmitted s := by
    simp only [noLongerAdmitted, List.mem_map, List.mem_filter, Bool.and_eq_true, beq_iff_eq]
    rintro ⟨x, ⟨hx, hp, -⟩, rfl⟩
    exact open' x hx rfl hp
  have hnumber := number_of_findOffer n s o h
  rw [findOffer, refilter_entries, List.find?_map]
  have hsame : ((fun x : Offer => x.number == n) ∘ fun x =>
      if x.number ∈ noLongerAdmitted s then { x with state := .closed, outcome := some .dropped } else x) =
      fun x => x.number == n := by
    funext x
    dsimp only [Function.comp_apply]
    split <;> rfl
  rw [hsame, show s.board.entries.find? (fun x => x.number == n) = some o from h]
  simp [hnumber, hnot]

theorem state_of_mem_updateOffer {n : Nat} {f : Offer → Offer} {s : State} {x : Offer} {st : OfferState}
    (hf : ∀ y, (f y).state = st)
    (hx : x ∈ (updateOffer n f s).board.entries) (h : x.number = n) : x.state = st := by
  obtain ⟨y, -, rfl⟩ := List.mem_map.mp hx
  by_cases hy : y.number = n
  · simp [hy, hf]
  · simp [hy] at h

/-- A generated STATUS leaves the entries of the other kinds. -/
theorem mem_generateStatus {s : State} {e : Entry} (h : e ∈ (generateStatus s).scheduler.queue) :
    e ∈ s.scheduler.queue ∨ e.kind = .status := by
  unfold generateStatus at h
  split at h
  · rcases placeEntry_cases .status 0 .none none s with ⟨-, hs, -⟩ | ⟨-, hs⟩
    · rw [hs] at h
      rcases (mem_insertEntry ..).mp h with rfl | h
      · exact .inr rfl
      · exact .inl h
    · rw [hs] at h
      exact .inl h
  · split at h <;> exact .inl h

/-! ### PAGE (R20) -/

theorem exec_page (head : ItemHead) (s : State) :
    exec (.page head) s = .next (takeItem head true unitOnly false (fun _ t => t) s) := rfl

/-- Before the end of the cycle the next cycle boundary is that end. -/
theorem cyclesToBoundary_inCycle (s : State) (h1 : s.receiver.cycleStart ≤ s.now)
    (h2 : s.now < s.receiver.cycleStart + 1200) : cyclesToBoundary s = 1 := by
  simp only [cyclesToBoundary, Config.cycleMs]
  omega

theorem returnHeld_held (s : State) (h : s.receiver.watch = .sparse) :
    (returnHeld s).receiver.sparseHeld = sparseConditions (returnHeld s) := by
  rw [returnHeld_sparse s h]
  rfl

/-- Settles O23. A PAGE for this unit is the return to FULL watch of the block counted, and its hold on the SPARSE test
is the test's own value. -/
theorem pageReturnsToFullWatch : Obligations.PageReturnsToFullWatch := by
  intro head s
  have page (heard : ItemsHeard s) (check : head.checkOk = true) (encoding : head.encodingOk = true)
      (names : NamesThisUnit head s) : exec (.page head) s = .next (returnHeld (blockCounted s)) := by
    rw [exec_page, takeItem_unit head unitOnly false _ s heard check encoding names rfl]
    rfl
  constructor
  · rintro ⟨heard, check, encoding, names, watch⟩
    rw [page heard check encoding names, returnHeld_full (blockCounted s) watch]
  · rintro ⟨heard, check, encoding, names, watch⟩ started
    have hspan : cyclesToBoundary (blockCounted s) = 1 := cyclesToBoundary_inCycle _ started heard.2.2.2.1
    refine ⟨_, page heard check encoding names, returnHeld_eq_backToFull _ watch, fun closed aimed => ?_,
      fun opened => ?_, ?_⟩
    · rw [returnHeld_sparse (blockCounted s) watch]
      simp [returnToFull, watch, hspan, reaim, closed, aimed, Config.cycleMs, raise]
    · rw [returnHeld_sparse (blockCounted s) watch]
      simp [returnToFull, watch, reaim, opened, raise]
    · have not : ¬ maySparse (returnHeld (blockCounted s)) = true := by
        rw [maySparse_iff, returnHeld_held (blockCounted s) watch]
        rintro ⟨-, yes, no⟩
        exact Bool.false_ne_true (no.symm.trans yes)
      simp only [exec, execEnterSparse, enterSparseDue_not not, atInstant_none]

/-! ### Items for this unit and for many (R6) -/

theorem Told.returnHeld (s : State) : Told s (returnHeld s) := by
  cases h : s.receiver.watch with
  | full => rw [returnHeld_full s h]; exact refl s
  | sparse =>
    rw [returnHeld_eq_backToFull s h]
    exact ⟨fun _ h => (mem_insertEvent ..).mpr (.inr h), .inr ((mem_insertEvent ..).mpr (.inl rfl))⟩

/-- An item for the fleet or a zone goes to its owner, and the watch stands. -/
theorem takeItem_many (head : ItemHead) (hand : Target → State → State) (s : State) (h : ForManyUnits head s) :
    ∃ g, g ≠ .unit ∧ toTarget head.target = some g ∧
      takeItem head true anyTarget false hand s = hand g (countItem s) := by
  obtain ⟨heard, check, encoding, target⟩ := h
  rcases target with h | ⟨h, h1, h2⟩
  · have hpass : passes head true anyTarget false s = some .all := by
      rw [passes_eq_some, targetPasses_iff]
      simp [h, toTarget, encoding, anyTarget]
    exact ⟨.all, by simp, by simp [h, toTarget], (takeItem_heard head _ _ _ hand s heard check).2 _ hpass⟩
  · have hpass : passes head true anyTarget false s = some .zone := by
      rw [passes_eq_some, targetPasses_iff]
      simp [h, toTarget, encoding, anyTarget, h1, h2]
    exact ⟨.zone, by simp, by simp [h, toTarget], (takeItem_heard head _ _ _ hand s heard check).2 _ hpass⟩

/-- In place, an item that any target may take leaves its owner's work as it is. -/
theorem takeItem_inPlace (head : ItemHead) (hand : Target → State → State) (s : State)
    (h : ForThisUnit head s ∨ ForManyUnits head s)
    (full : ForThisUnit head s → (hand .unit (countItem s)).receiver.watch = .full) :
    ∃ g, toTarget head.target = some g ∧ takeItem head true anyTarget false hand s = hand g (countItem s) := by
  rcases h with h | h
  · obtain ⟨heard, check, encoding, names, -⟩ := id h
    refine ⟨.unit, by simp [names.1, toTarget], ?_⟩
    rw [takeItem_unit head anyTarget false hand s heard check encoding names rfl, returnHeld_full _ (full h)]
  · obtain ⟨g, -, hg, htake⟩ := takeItem_many head hand s h
    exact ⟨g, hg, htake⟩

/-! ### WITHDRAW (R84) -/

theorem exec_withdraw (head : ItemHead) (n : Nat) (s : State) (h1 : 1 ≤ n) (h2 : n ≤ 65535) :
    exec (.withdraw head n) s = .next (takeItem head true anyTarget false (fun _ => receiveWithdraw n) s) := by
  have hin : within 1 65535 n = true := by simp [within, h1, h2]
  rw [← hin]; rfl

theorem findOffer_dropClaim (n : Nat) (o : Offer) (s : State) : findOffer n (dropClaim o s) = findOffer n s :=
  findOffer_congr n (by rw [dropClaim_eq])

theorem receiveWithdraw_open (n : Nat) (s : State) (o : Offer) (h : findOffer n s = some o)
    (hclosed : o.state ≠ .closed) (hawarded : o.state ≠ .awarded) :
    receiveWithdraw n s = closeOnly n .withdrawn (dropClaim o s) := by
  simp only [receiveWithdraw, h, if_neg hclosed]
  exact closeOffer_of_ne_awarded n _ _ o ((findOffer_dropClaim ..).trans h) hawarded

theorem receiveWithdraw_ignored (n : Nat) (s : State) (h : ∀ o, findOffer n s = some o → o.state = .closed) :
    receiveWithdraw n s = s := by
  unfold receiveWithdraw
  split
  · rfl
  · rename_i o hfind
    rw [if_pos (h o hfind)]

/-- The assignment's end. -/
theorem closeOffer_awarded (n : Nat) (outcome : OfferOutcome) (s : State) (o : Offer) (h : findOffer n s = some o)
    (ho : o.state = .awarded) : closeOffer n outcome s = refilter (generateStatus (closeOnly n outcome s)) := by
  simp [closeOffer, h, ho]

theorem findOffer_closeOnly {n : Nat} {outcome : OfferOutcome} {s : State} {o : Offer} (h : findOffer n s = some o) :
    findOffer n (closeOnly n outcome s) = some { o with state := .closed, outcome := some outcome } :=
  findOffer_updateOffer h fun _ => rfl

theorem state_of_mem_closeOnly {n : Nat} {outcome : OfferOutcome} {s : State} {x : Offer}
    (hx : x ∈ (closeOnly n outcome s).board.entries) (h : x.number = n) : x.state = .closed :=
  state_of_mem_updateOffer (f := fun o => { o with state := .closed, outcome := some outcome }) (s := s)
    (fun _ => rfl) hx h

theorem findOffer_closeOffer_awarded {n : Nat} {outcome : OfferOutcome} {s : State} {o : Offer}
    (h : findOffer n s = some o) (ho : o.state = .awarded) :
    findOffer n (closeOffer n outcome s) = some { o with state := .closed, outcome := some outcome } := by
  rw [closeOffer_awarded n outcome s o h ho]
  have hboard : (generateStatus (closeOnly n outcome s)).board = (closeOnly n outcome s).board := by simp
  refine findOffer_refilter ((findOffer_congr n hboard).trans (findOffer_closeOnly h)) fun x hx hn => ?_
  rw [state_of_mem_closeOnly (hboard ▸ hx) hn]
  decide

/-- What the end of the assignment does: the entry closes, a STATUS is generated, and no other entry comes. -/
structure AssignmentEnded (n : Nat) (outcome : OfferOutcome) (o : Offer) (s t : State) : Prop where
  entry : findOffer n t = some { o with state := .closed, outcome := some outcome }
  event : Pending .offerClosed t
  status : StatusGenerated s t
  queue : ∀ e ∈ t.scheduler.queue, e ∈ s.scheduler.queue ∨ e.kind = .status
  books : t.meter = s.meter ∧ t.inbox = s.inbox ∧ t.emergency = s.emergency ∧ t.accounts = s.accounts

theorem assignmentEnded {n : Nat} {s : State} {o : Offer} (outcome : OfferOutcome) (h : findOffer n s = some o)
    (ho : o.state = .awarded) : AssignmentEnded n outcome o s (closeOffer n outcome s) := by
  have hentry := findOffer_closeOffer_awarded (outcome := outcome) h ho
  rw [closeOffer_awarded n outcome s o h ho] at hentry ⊢
  obtain ⟨-, -, -, ⟨-, hscheduler⟩, -⟩ := refilter_frame (generateStatus (closeOnly n outcome s))
  refine ⟨hentry, refilter_events _ _ (generateStatus_events _ _ (by simp)),
    (statusGenerated_generateStatus (closeOnly n outcome s)).congr (by simp) hscheduler, fun e he => ?_, by simp⟩
  rw [hscheduler] at he
  simpa using mem_generateStatus he

theorem AssignmentEnded.congr {n : Nat} {outcome : OfferOutcome} {o : Offer} {s u v : State}
    (h : AssignmentEnded n outcome o s u) (told : Told u v) (board : v.board = u.board)
    (scheduler : v.scheduler = u.scheduler)
    (books : v.meter = u.meter ∧ v.inbox = u.inbox ∧ v.emergency = u.emergency ∧ v.accounts = u.accounts) :
    AssignmentEnded n outcome o s v where
  entry := (findOffer_congr n board).trans h.entry
  event := told.events _ h.event
  status := h.status.congr rfl scheduler
  queue := by rw [scheduler]; exact h.queue
  books := by
    obtain ⟨hm, hi, he, ha⟩ := books
    obtain ⟨hm', hi', he', ha'⟩ := h.books
    exact ⟨hm.trans hm', hi.trans hi', he.trans he', ha.trans ha'⟩

/-- Settles O20. A WITHDRAW is split by the entry that it names; in each case the item goes to the board
(`takeItem_inPlace`, `takeItem_unit`), where `receiveWithdraw_open`, `assignmentEnded` or `receiveWithdraw_ignored`
says what comes of it. -/
theorem withdrawClosesOpenEntries : Obligations.WithdrawClosesOpenEntries := by
  intro head n s h1 h2 inPlace closed
  rw [exec_withdraw head n s h1 h2]
  have unit (h : ForThisUnitInSparse head s) :
      takeItem head true anyTarget false (fun _ => receiveWithdraw n) s = returnHeld (receiveWithdraw n (countItem s)) :=
    takeItem_unit head anyTarget false _ s h.1 h.2.1 h.2.2.1 h.2.2.2.1 rfl
  refine ⟨fun o hfind hclosed hawarded => ?_, fun o hfind hawarded htaken => ?awarded, fun hclosed => ?_⟩
  · have hclose (t : State) (ht : t.scheduler = (receiveWithdraw n (countItem s)).scheduler) :
        receiveWithdraw n (countItem s) = closed o t := by
      simp only [closed, ht]
      rw [receiveWithdraw_open n (countItem s) o hfind hclosed hawarded, dropClaim_eq]
      rfl
    have hreceiver : (receiveWithdraw n (countItem s)).receiver = (countItem s).receiver :=
      (congrArg State.receiver (hclose _ rfl)).trans rfl
    refine ⟨fun h => ?_, fun h => ⟨_, rfl, ?_⟩⟩
    · obtain ⟨g, -, htake⟩ := takeItem_inPlace head (fun _ => receiveWithdraw n) s h
        fun ⟨_, _, _, _, watch⟩ => hreceiver ▸ watch
      exact ⟨_, rfl, htake ▸ hclose _ rfl⟩
    · rw [unit h]
      obtain ⟨-, -, -, -, hscheduler⟩ := returnHeld_frame (receiveWithdraw n (countItem s))
      rw [← hclose _ hscheduler]
      obtain ⟨-, -, -, -, watch⟩ := h
      exact returnHeld_eq_backToFull _ (hreceiver ▸ watch)
  case awarded =>
    have hended : AssignmentEnded n .withdrawn o (countItem s) (receiveWithdraw n (countItem s)) := by
      have hdrop : dropClaim o (countItem s) = countItem s := by simp [dropClaim, hawarded]
      have hfind' : findOffer n (countItem s) = some o := hfind
      simp only [receiveWithdraw, hfind', hawarded, hdrop]
      exact assignmentEnded .withdrawn hfind' hawarded
    have hreturned : AssignmentEnded n .withdrawn o (countItem s) (returnHeld (receiveWithdraw n (countItem s))) := by
      obtain ⟨-, -, ⟨hm, ha, -⟩, ⟨hb, hi, he⟩, hs⟩ := returnHeld_frame (receiveWithdraw n (countItem s))
      exact hended.congr (.returnHeld _) hb hs ⟨hm, hi, he, ha⟩
    have htaken : AssignmentEnded n .withdrawn o (countItem s)
        (takeItem head true anyTarget false (fun _ => receiveWithdraw n) s) := by
      rcases htaken with (⟨heard, check, encoding, names, -⟩ | many) | sparse
      · rw [takeItem_unit head anyTarget false _ s heard check encoding names rfl]
        exact hreturned
      · obtain ⟨g, -, -, htake⟩ := takeItem_many head (fun _ => receiveWithdraw n) s many
        rw [htake]
        exact hended
      · rw [unit sparse]
        exact hreturned
    refine ⟨_, rfl, ⟨_, htaken.entry, rfl⟩, htaken.event, htaken.status.congr rfl rfl, fun e he hkind => ?_,
      htaken.books⟩
    exact (htaken.queue e he).resolve_right fun h => by simp [hkind] at h
  · have hignored : receiveWithdraw n (countItem s) = countItem s := receiveWithdraw_ignored n _ hclosed
    refine ⟨fun h => ?_, fun htarget => ?_⟩
    · obtain ⟨g, -, htake⟩ := takeItem_inPlace head (fun _ => receiveWithdraw n) s h
        fun ⟨_, _, _, _, watch⟩ => by rw [hignored]; exact watch
      rw [htake, hignored]
      rfl
    · rw [takeItem_ignored head anyTarget false _ s true fun _ => hignored, exec_page]
      simp only [takeItem, passes, htarget, toTarget, anyTarget, unitOnly]
      rfl

/-! ### AWARD (R80) -/

theorem exec_award (head : ItemHead) (n : Nat) (s : State) (h1 : 1 ≤ n) (h2 : n ≤ 65535) :
    exec (.award head n) s = .next (takeItem head true unitOnly false (fun _ => receiveAward n) s) := by
  have hin : within 1 65535 n = true := by simp [within, h1, h2]
  rw [← hin]; rfl

/-- Where an assignment stands, the new test admits no PRESENTED entry. -/
theorem mem_noLongerAdmitted_of_assigned {s : State} {o x : Offer} (ho : o ∈ s.board.entries)
    (awarded : o.state = .awarded) (hx : x ∈ s.board.entries) (presented : x.state = .presented) :
    x.number ∈ noLongerAdmitted s := by
  have hassigned : ¬ assignment s = none := by
    simp only [assignment, Option.map_eq_none_iff, List.find?_eq_none, not_forall]
    exact ⟨o, ho, by simp [awarded]⟩
  have hcab : cabAdmits x.cls x.nextJob s = false := by
    rw [← Bool.not_eq_true, cabAdmits_iff]
    exact fun h => hassigned h.free
  simp only [noLongerAdmitted, List.mem_map, List.mem_filter]
  exact ⟨x, ⟨hx, by simp [presented, hcab]⟩, rfl⟩

theorem refilter_assigned {s : State} {o x : Offer} (ho : o ∈ s.board.entries) (awarded : o.state = .awarded)
    (hx : x ∈ (refilter s).board.entries) : x.state ≠ .presented := by
  rw [refilter_entries] at hx
  obtain ⟨y, hy, rfl⟩ := List.mem_map.mp hx
  split
  · exact OfferState.noConfusion
  · rename_i hnot
    exact fun h => hnot (mem_noLongerAdmitted_of_assigned ho awarded hy h)

theorem dropped_of_assigned {s : State} {o x : Offer} (ho : o ∈ s.board.entries) (awarded : o.state = .awarded)
    (hx : x ∈ s.board.entries) (presented : x.state = .presented) : Dropped x (refilter s) where
  entry := by
    rw [refilter_entries]
    exact List.mem_map.mpr ⟨x, hx, by rw [if_pos (mem_noLongerAdmitted_of_assigned ho awarded hx presented)]⟩
  order := by
    rw [refilter_closeOrder]
    exact List.mem_append_right _ (mem_noLongerAdmitted_of_assigned ho awarded hx presented)
  event := refilter_offerClosed s _ (mem_noLongerAdmitted_of_assigned ho awarded hx presented)

/-- The removal of an entry of another kind leaves whether a STATUS is generated. -/
theorem StatusGenerated.of_dropEntry {kind : EntryKind} {key : Nat} {s t : State} (hk : kind ≠ .status)
    (h : StatusGenerated (dropEntry kind key s) t) : StatusGenerated s t where
  placed none := h.placed fun e he => none e (List.mem_of_mem_filter he)
  sent e he := by
    refine h.sent e ?_
    rw [dropEntry_queue, List.find?_filter, ← he]
    congr 1
    funext x
    by_cases hx : x.kind = .status
    · simp [hx, Entry.is, hk.symm]
    · simp [hx]

theorem StatusGenerated.of_dropClaim {o : Offer} {s t : State} (h : StatusGenerated (dropClaim o s) t) :
    StatusGenerated s t := by
  unfold dropClaim at h
  split at h
  · exact h.of_dropEntry (by decide)
  · exact h

/-- The entry awarded, its CLAIM gone from the queue. -/
def awardedEntry (n : Nat) (o : Offer) (s : State) : State :=
  raise .award (updateOffer n (fun o => { o with state := .awarded }) (dropClaim o s))

theorem receiveAward_assigns {n : Nat} {s : State} {o : Offer} (h : findOffer n s = some o)
    (ho : o.state = .claiming ∨ o.state = .awaitingAward)
    (calm : s.emergency.state = .idle ∨ s.emergency.state = .covert) :
    receiveAward n s = refilter (generateStatus (awardedEntry n o s)) := by
  have hcalm := (emState_open_eq_false _).mpr calm
  rcases ho with ho | ho <;> simp [receiveAward, h, ho, hcalm, awardedEntry]

theorem receiveAward_declines {n : Nat} {s : State} {o : Offer} (h : findOffer n s = some o)
    (ho : o.state = .claiming ∨ o.state = .awaitingAward)
    (hopen : s.emergency.state = .active ∨ s.emergency.state = .acknowledged) :
    receiveAward n s = autoDecline n (closeOnly n .declined (dropClaim o s)) := by
  have hopen := (emState_open_eq_true _).mpr hopen
  have hclose := closeOffer_of_ne_awarded n .declined (dropClaim o s) o ((findOffer_dropClaim ..).trans h)
    (by rcases ho with ho | ho <;> simp [ho])
  rcases ho with ho | ho <;> simp [receiveAward, h, ho, hopen, hclose]

theorem receiveAward_repeated {n : Nat} {s : State} {o : Offer} (h : findOffer n s = some o) (ho : o.state = .awarded) :
    receiveAward n s = s := by
  simp [receiveAward, h, ho]

theorem receiveAward_other {n : Nat} {s : State}
    (h : ∀ o, findOffer n s = some o → o.state = .presented ∨ o.state = .closed) :
    receiveAward n s = autoDecline n s := by
  unfold receiveAward
  split
  · rfl
  · rename_i o hfind
    rcases h o hfind with ho | ho <;> simp [ho]

/-- What an AWARD that makes the assignment does. -/
structure Assigned (n : Nat) (o : Offer) (s t : State) : Prop where
  entry : findOffer n t = some { o with state := .awarded }
  event : Pending .award t
  claim : o.state = .claiming → ∀ e ∈ t.scheduler.queue, ¬(e.kind = .claim ∧ e.key = o.number)
  status : StatusGenerated s t
  none : ∀ x ∈ t.board.entries, x.state ≠ .presented
  dropped : BoardSound s → ∀ x ∈ s.board.entries, x.state = .presented → Dropped x t
  books : t.meter = s.meter ∧ t.inbox = s.inbox ∧ t.emergency = s.emergency ∧ t.accounts = s.accounts

theorem no_claim_after_dropClaim {o : Offer} {s : State} (ho : o.state = .claiming) :
    ∀ e ∈ (dropClaim o s).scheduler.queue, ¬(e.kind = .claim ∧ e.key = o.number) := by
  simp only [dropClaim, if_pos ho, dropEntry_queue, List.mem_filter, Entry.is]
  rintro e ⟨-, he⟩ ⟨hk, hkey⟩
  simp [hk, hkey] at he

theorem assigned {n : Nat} {s : State} {o : Offer} (h : findOffer n s = some o)
    (ho : o.state = .claiming ∨ o.state = .awaitingAward) :
    Assigned n o s (refilter (generateStatus (awardedEntry n o s))) := by
  have hboard : (generateStatus (awardedEntry n o s)).board = (awardedEntry n o s).board := by simp
  have hfind : findOffer n (generateStatus (awardedEntry n o s)) = some { o with state := .awarded } :=
    (findOffer_congr n hboard).trans
      (findOffer_updateOffer (s := dropClaim o s) ((findOffer_dropClaim n o s).trans h) fun _ => rfl)
  have hmem := List.mem_of_find?_eq_some hfind
  obtain ⟨-, -, ⟨hmeter, haccounts, -⟩, ⟨-, hscheduler⟩, hinbox, hemergency⟩ :=
    refilter_frame (generateStatus (awardedEntry n o s))
  exact {
    entry := findOffer_refilter hfind fun x hx hn => by
      rw [state_of_mem_updateOffer (s := dropClaim o s) (st := .awarded) (fun _ => rfl) (hboard ▸ hx) hn]
      decide
    event := refilter_events _ _ (generateStatus_events _ _ ((mem_insertEvent ..).mpr (.inl rfl)))
    claim := fun hclaiming e he => by
      rw [hscheduler] at he
      rcases mem_generateStatus he with he | he
      · exact no_claim_after_dropClaim hclaiming e he
      · simp [he]
    status := ((statusGenerated_generateStatus (awardedEntry n o s)).congr (s := dropClaim o s) rfl
      hscheduler).of_dropClaim
    none := fun x hx => refilter_assigned hmem rfl hx
    dropped := fun sound x hx presented => by
      have hother : x.number ≠ n := by
        rintro rfl
        have hsame := List.inj_on_of_nodup_map sound.distinct hx (List.mem_of_find?_eq_some h)
          (number_of_findOffer _ _ _ h).symm
        rcases ho with ho | ho <;> simp [← hsame, presented] at ho
      refine dropped_of_assigned hmem rfl ?_ presented
      have hdrop : (dropClaim o s).board = s.board := by rw [dropClaim_eq]
      rw [hboard]
      exact List.mem_map.mpr ⟨x, hdrop ▸ hx, by simp [hother]⟩
    books := by
      rw [hmeter, haccounts, hinbox, hemergency]
      simp [awardedEntry] }

theorem Assigned.congr {n : Nat} {o : Offer} {s u v : State} (h : Assigned n o s u) (told : Told u v)
    (board : v.board = u.board) (scheduler : v.scheduler = u.scheduler)
    (books : v.meter = u.meter ∧ v.inbox = u.inbox ∧ v.emergency = u.emergency ∧ v.accounts = u.accounts) :
    Assigned n o s v where
  entry := (findOffer_congr n board).trans h.entry
  event := told.events _ h.event
  claim := by rw [scheduler]; exact h.claim
  status := h.status.congr rfl scheduler
  none := by rw [board]; exact h.none
  dropped sound x hx hp := by
    obtain ⟨entry, order, event⟩ := h.dropped sound x hx hp
    exact ⟨board ▸ entry, board ▸ order, told.events _ event⟩
  books := by
    obtain ⟨hm, hi, he, ha⟩ := books
    obtain ⟨hm', hi', he', ha'⟩ := h.books
    exact ⟨hm.trans hm', hi.trans hi', he.trans he', ha.trans ha'⟩

/-- In FULL watch the placing of an entry raises nothing. -/
theorem placeEntry_full (kind : EntryKind) (key : Nat) (content : EntryContent) (deadline : Option Nat) {s : State}
    (h : s.receiver.watch = .full) : (placeEntry kind key content deadline s).link = s.link ∧
      (placeEntry kind key content deadline s).receiver.watch = .full :=
  placeEntry_kept (P := fun t => t.link = s.link ∧ t.receiver.watch = .full) (fun _ _ h => h)
    (fun t h => by rw [returnToFull_full t h.2]; exact h) kind key content deadline ⟨rfl, h⟩

/-- A DECLINE is placed where none for the number stands and fewer than three do. -/
theorem autoDecline_places (n : Nat) (s : State)
    (none : ∀ e ∈ s.scheduler.queue, ¬(e.kind = .decline ∧ e.key = n))
    (few : s.scheduler.queue.countP (fun e => e.kind == .decline) < 3) :
    ∃ e ∈ (autoDecline n s).scheduler.queue, e.kind = .decline ∧ e.key = n ∧ e.state = .waiting := by
  have hcap : s.scheduler.queue.countP (fun e => EntryKind.decline.sharesCap e.kind) < EntryKind.decline.cap := by
    have hcap : EntryKind.decline.cap = 3 := rfl
    rw [hcap]
    convert few using 3
    simp [EntryKind.sharesCap, eq_comm]
  rcases placeEntry_cases .decline n .none Option.none s with ⟨-, hs, -⟩ | ⟨hno, -⟩
  · refine ⟨newEntry .decline n .none Option.none s, ?_, rfl, rfl, rfl⟩
    rw [autoDecline, hs]
    exact (mem_insertEntry ..).mpr (.inl rfl)
  · exact absurd (placementOf_placed .decline n s none hcap) hno

/-- Settles O21. An AWARD for this unit is the board's work and the return to FULL watch; the work is `Assigned`, or
a DECLINE after the entry's closing, or a DECLINE alone. -/
theorem awardMakesTheAssignment : Obligations.AwardMakesTheAssignment := by
  intro head n s h1 h2 taken
  rw [exec_award head n s h1 h2]
  have htake (h : taken) :
      takeItem head true unitOnly false (fun _ => receiveAward n) s = returnHeld (receiveAward n (countItem s)) := by
    rcases h with ⟨heard, check, encoding, names, -⟩ | ⟨heard, check, encoding, names, -⟩
    all_goals exact takeItem_unit head unitOnly false _ s heard check encoding names rfl
  obtain ⟨-, -, ⟨hm, ha, -⟩, ⟨hb, hi, he⟩, hs⟩ := returnHeld_frame (receiveAward n (countItem s))
  refine ⟨fun o h hfind ho calm => ?_, fun o h hfind ho hopen => ?_, fun o hfind ho => ?_, fun h hother => ?_⟩
  · rw [htake h]
    have hassigned : Assigned n o (countItem s) (receiveAward n (countItem s)) := by
      rw [receiveAward_assigns (s := countItem s) hfind ho calm]
      exact assigned hfind ho
    have := hassigned.congr (.returnHeld _) hb hs ⟨hm, hi, he, ha⟩
    exact ⟨_, rfl, this.entry, this.event, this.claim, this.status.congr rfl rfl, this.none, returnHeld_watch _,
      fun sound => this.dropped (sound.congr rfl), this.books⟩
  · rw [htake h]
    have hdeclines := receiveAward_declines (s := countItem s) hfind ho hopen
    refine ⟨_, rfl, returnHeld_watch _, ?_, ?_, fun none few => ?_⟩
    · rw [findOffer_congr n hb, hdeclines]
      have hboard : (autoDecline n (closeOnly n .declined (dropClaim o (countItem s)))).board =
          (closeOnly n .declined (dropClaim o (countItem s))).board := by simp [autoDecline]
      exact (findOffer_congr n hboard).trans (findOffer_closeOnly ((findOffer_dropClaim ..).trans hfind))
    · refine (Told.returnHeld _).events _ ?_
      rw [hdeclines]
      exact placeEntry_events _ _ _ _ _ _ ((mem_insertEvent ..).mpr (.inl rfl))
    · rw [hs, hdeclines]
      have hqueue : (dropClaim o (countItem s)).scheduler.queue.Sublist s.scheduler.queue := by
        unfold dropClaim
        split
        · exact List.filter_sublist
        · exact .refl _
      exact autoDecline_places n _ (fun e he => none e (hqueue.subset he)) ((hqueue.countP_le).trans_lt few)
  · rw [takeItem_ignored head unitOnly false _ s true fun _ => receiveAward_repeated (s := countItem s) hfind ho]
    rfl
  · rw [htake h]
    have hdecline : receiveAward n (countItem s) = autoDecline n (countItem s) := receiveAward_other hother
    refine ⟨_, rfl, ?_, returnHeld_watch _, fun full => ?_, fun sparse => ?_, fun none few => ?_⟩
    · rw [hb, hdecline]
      simp [autoDecline]
    · obtain ⟨hlink, hwatch⟩ := placeEntry_full .decline n .none Option.none (s := countItem s) full
      rw [hdecline, autoDecline, returnHeld_full _ hwatch, hlink]
      rfl
    · have told : Told s (returnHeld (receiveAward n (countItem s))) :=
        ((Told.receiveAward n (countItem s)).trans (.returnHeld _)).after rfl rfl
      exact told.watch.resolve_left fun e => by simp [sparse] at e
    · rw [hs, hdecline]
      exact autoDecline_places n _ none few

end Sys2Proof.Machine
end

section
/-! PROOFS. The emergency as the base and the driver end it: EMERG_ACK, STAND_DOWN, and EMERGENCY CANCEL with the
cancel code and with the duress code. -/

namespace Sys2Proof.Machine

/-! ### The voice handshake after ACTIVE (R19) -/

/-- A held voice request is granted, or made PENDING behind a transmission. -/
def heldGranted (r : Receiver) : Voice :=
  if r.voice = .held then if r.transmission = none then .granted else .pending else r.voice

theorem voiceAfterActive_eq (s : State) :
    voiceAfterActive s = { s with receiver := { s.receiver with voice := heldGranted s.receiver } } := by
  unfold voiceAfterActive
  split
  · rename_i h
    cases htrans : s.receiver.transmission <;> simp [grantVoice, setVoice, heldGranted, h, htrans]
  all_goals
    rename_i h
    simp only [heldGranted, h]
    rw [if_neg (by decide), ← h]

/-! ### EMERG_ACK (R164) -/

theorem exec_emergAck (head : ItemHead) (s : State) :
    exec (.emergAck head) s = .next (takeItem head true unitOnly false (fun _ => receiveEmergAck) s) := rfl

theorem receiveEmergAck_active (s : State) (h : s.emergency.state = .active) :
    receiveEmergAck s = raise .emergency { s with
      emergency := { s.emergency with state := .acknowledged }
      receiver := { s.receiver with voice := heldGranted s.receiver } } := by
  simp only [receiveEmergAck, h, voiceAfterActive_eq]

theorem receiveEmergAck_covert (s : State) (h : s.emergency.state = .covert) :
    receiveEmergAck s = { s with emergency := { s.emergency with acknowledged := true } } := by
  simp only [receiveEmergAck, h]

theorem receiveEmergAck_ignored (s : State) (h : s.emergency.state = .idle ∨ s.emergency.state = .acknowledged) :
    receiveEmergAck s = s := by
  rcases h with h | h <;> simp only [receiveEmergAck, h]

/-- The alert line reads the alert mode, whether the emergency is open, and the latch (R169). -/
theorem alertLine_congr {s t : State} (store : t.store = s.store)
    (isOpen : t.emergency.state.open = s.emergency.state.open) (latch : t.emergency.latch = s.emergency.latch) :
    alertLine t = alertLine s := by
  simp only [alertLine, store, isOpen, latch]

/-- Settles O24. An EMERG_ACK for this unit in FULL watch is `receiveEmergAck` of the block counted, by the state of
the emergency; one that is ignored does what a PAGE does. -/
theorem emergAckActsByTheState : Obligations.EmergAckActsByTheState := by
  intro head s heard
  rw [exec_emergAck]
  refine ⟨?_, fun t active ht => ?_, ?_, fun ignored => ?_⟩
  · rintro ⟨items, check, encoding, names, watch⟩ active
    rw [takeItem_unit head unitOnly false _ s items check encoding names rfl,
      receiveEmergAck_active (countItem s) active, returnHeld_full]
    · rfl
    · exact watch
  · obtain rfl := Host.Outcome.next.inj ht
    have acked : alertLine (receiveEmergAck (countItem s)) = alertLine s := by
      rw [receiveEmergAck_active (countItem s) active]
      exact alertLine_congr rfl (by simp only [raise, active]; rfl) rfl
    have back (u : State) : alertLine (returnHeld u) = alertLine u := by
      obtain ⟨-, ⟨-, -, hstore⟩, -, ⟨-, -, hemergency⟩, -⟩ := returnHeld_frame u
      exact alertLine_congr hstore (by rw [hemergency]) (by rw [hemergency])
    rcases takeItem_cases head true unitOnly false (fun _ => receiveEmergAck) s with e | e | ⟨g, -, e⟩ <;> rw [e]
    · exact alertLine_congr rfl rfl rfl
    · split
      · exact (back _).trans acked
      · exact acked
  · rintro ⟨items, check, encoding, names, watch⟩ covert
    rw [takeItem_unit head unitOnly false _ s items check encoding names rfl,
      receiveEmergAck_covert (countItem s) covert, returnHeld_full]
    · rfl
    · exact watch
  · rw [takeItem_ignored head unitOnly false _ s true fun _ => receiveEmergAck_ignored (countItem s) ignored]
    rfl

/-! ### The end of the emergency (R165, R166) -/

/-- The end, written out. -/
theorem endEmergency_explicit (last : LastEnd) (s : State) :
    endEmergency last s = { s with
      emergency := { s.emergency with
        state := .idle, acknowledged := false, sources := noSources, reportSince := none
        lastEnd := if s.emergency.state.open then last else s.emergency.lastEnd, mark := .none }
      scheduler := { (dropEntry .emergency 0 s).scheduler with lastBeacon := none }
      writer := { s.writer with markDirty := true }
      receiver := { s.receiver with voice := heldGranted s.receiver }
      link := if s.emergency.state.open then { s.link with events := insertEvent .emergency s.link.events }
        else s.link } := by
  rw [endEmergency_eq, voiceAfterActive_eq, emergencyEnded]
  cases s.emergency.state.open <;> rfl

/-- What an emergency that ends leaves, but for the link. -/
structure EmergencyEnded (s t : State) : Prop where
  state : t.emergency.state = .idle
  acknowledged : t.emergency.acknowledged = false
  sources : t.emergency.sources = ⟨false, false, false⟩
  reportSince : t.emergency.reportSince = none
  latch : t.emergency.latch = s.emergency.latch
  onset : t.emergency.onset = s.emergency.onset
  mark : t.emergency.mark = .none
  dirty : t.writer.markDirty = true
  beacon : t.scheduler.lastBeacon = none
  gone : ∀ e ∈ t.scheduler.queue, ¬(e.kind = .emergency ∧ e.key = 0)
  others : ∀ e ∈ s.scheduler.queue, e.kind ≠ .emergency → e ∈ t.scheduler.queue
  voice : s.receiver.voice ≠ .held → t.receiver.voice = s.receiver.voice
  rest : t.board = s.board ∧ t.meter = s.meter ∧ t.inbox = s.inbox ∧ t.accounts = s.accounts ∧
    t.store = s.store ∧ t.nonvolatile = s.nonvolatile

theorem emergencyEnded_of_end (last : LastEnd) (s : State) : EmergencyEnded s (endEmergency last s) := by
  rw [endEmergency_explicit]
  exact {
    state := rfl, acknowledged := rfl, sources := rfl, reportSince := rfl, latch := rfl, onset := rfl, mark := rfl
    dirty := rfl, beacon := rfl
    gone := fun e he ⟨hk, hkey⟩ => by simp [Entry.is, hk, hkey] at he
    others := fun e he hk => List.mem_filter.mpr ⟨he, by simp [Entry.is, hk]⟩
    voice := fun h => if_neg h
    rest := ⟨rfl, rfl, rfl, rfl, rfl, rfl⟩ }

theorem endEmergency_shown (last : LastEnd) (s : State)
    (h : s.emergency.state = .active ∨ s.emergency.state = .acknowledged) :
    (endEmergency last s).emergency.lastEnd = last ∧
      (endEmergency last s).link = { s.link with events := insertEvent .emergency s.link.events } := by
  rw [endEmergency_explicit]
  simp [(emState_open_eq_true _).mpr h]

theorem endEmergency_hidden (last : LastEnd) (s : State)
    (h : s.emergency.state = .idle ∨ s.emergency.state = .covert) :
    (endEmergency last s).emergency.lastEnd = s.emergency.lastEnd ∧ (endEmergency last s).link = s.link := by
  rw [endEmergency_explicit]
  simp [(emState_open_eq_false _).mpr h]

/-! ### STAND_DOWN (R165) -/

theorem exec_standDown (head : ItemHead) (s : State) :
    exec (.standDown head) s = .next (takeItem head true unitOnly false (fun _ => receiveStandDown) s) := rfl

theorem receiveStandDown_ends (s : State) (h : s.emergency.state ≠ .idle) :
    receiveStandDown s = endEmergency .standDown s := by
  unfold receiveStandDown
  split
  · contradiction
  all_goals rfl

theorem receiveStandDown_idle (s : State) (h : s.emergency.state = .idle) : receiveStandDown s = s := by
  simp only [receiveStandDown, h]

theorem exec_standDown_idle (head : ItemHead) (s : State) (h : s.emergency.state = .idle) :
    exec (.standDown head) s = exec (.page head) s := by
  rw [exec_standDown, takeItem_ignored head unitOnly false _ s true fun _ => receiveStandDown_idle (countItem s) h]
  rfl

/-- A STAND_DOWN for this unit in FULL watch ends the emergency that is not IDLE. -/
theorem exec_standDown_ends (head : ItemHead) (s : State) (h : ForThisUnit head s) (on : s.emergency.state ≠ .idle) :
    exec (.standDown head) s = .next (endEmergency .standDown (countItem s)) := by
  obtain ⟨items, check, encoding, names, watch⟩ := h
  rw [exec_standDown, takeItem_unit head unitOnly false _ s items check encoding names rfl,
    receiveStandDown_ends (countItem s) on, returnHeld_full]
  rw [endEmergency_explicit]
  exact watch

/-! ### EMERGENCY CANCEL (R166, R167) -/

section
variable (code : Digits) (s : State)

theorem exec_emergencyCancel (h : Listening s) :
    exec (.emergencyCancel (.fields code)) s = .next (serveEmergencyCancel code s) :=
  congrArg Host.Outcome.next (request_listening (.emergencyCancel (.fields code)) s h)

theorem isCode_iff (least most : Nat) : isCode least most code = true ↔
    least ≤ code.length ∧ code.length ≤ most ∧ ∀ b ∈ code, 0x30 ≤ b.toNat ∧ b.toNat ≤ 0x39 := by
  simp [isCode, isDigit, and_assoc]

variable (digits : isCode 4 8 code = true)
include digits

theorem serveEmergencyCancel_cancels (shown : s.emergency.state = .active ∨ s.emergency.state = .acknowledged)
    (hcancel : code = s.store.working.cancelCode) (hduress : code ≠ s.store.working.duressCode) :
    serveEmergencyCancel code s = answer .ecan .ok [.name 0] (endEmergency .cancel s) := by
  have hopen := (emState_open_eq_true _).mpr shown
  have hidle : (shownState (endEmergency .cancel s)).code = 0 := by rw [endEmergency_explicit]; rfl
  simp only [serveEmergencyCancel, digits, hopen, if_neg hduress, if_pos hcancel, hidle, not_true_eq_false, if_false]

theorem serveEmergencyCancel_covert (shown : s.emergency.state = .active ∨ s.emergency.state = .acknowledged)
    (hduress : code = s.store.working.duressCode) :
    serveEmergencyCancel code s = answer .ecan .ok [.name 0] (enterCovert s) := by
  have hopen := (emState_open_eq_true _).mpr shown
  have hidle : (shownState (enterCovert s)).code = 0 := by rw [enterCovert, voiceAfterActive_eq]; rfl
  simp only [serveEmergencyCancel, digits, hopen, if_pos hduress, hidle, not_true_eq_false, if_false]

theorem serveEmergencyCancel_refused
    (h : s.emergency.state = .idle ∨ s.emergency.state = .covert ∨
      code ≠ s.store.working.duressCode ∧ code ≠ s.store.working.cancelCode) :
    serveEmergencyCancel code s = answer .ecan .refused [] s := by
  rw [serveEmergencyCancel, if_neg (by simp [digits])]
  cases hopen : s.emergency.state.open with
  | false => rw [if_pos (by simp)]
  | true =>
    have hshown := (emState_open_eq_true _).mp hopen
    obtain ⟨hduress, hcancel⟩ : code ≠ s.store.working.duressCode ∧ code ≠ s.store.working.cancelCode := by
      rcases h with h | h | h
      · simp [h] at hshown
      · simp [h] at hshown
      · exact h
    rw [if_neg (by simp), if_neg hduress, if_neg hcancel]

end

/-- Settles O25. A stand-down and a cancel both come to `endEmergency`, whose effects are `EmergencyEnded` and the last
end with the event where the emergency was shown. -/
theorem standDownAndCancelEndTheEmergency : Obligations.StandDownAndCancelEndTheEmergency := by
  intro s ended
  have hended {t : State} (h : EmergencyEnded s t) : ended t :=
    ⟨h.state, h.acknowledged, h.sources, h.reportSince, h.latch, h.onset, h.mark, h.dirty, h.beacon, h.gone, h.others,
      h.voice, h.rest⟩
  have standDown : EmergencyEnded s (endEmergency .standDown (countItem s)) :=
    { emergencyEnded_of_end .standDown (countItem s) with }
  refine ⟨fun head unit => ⟨fun shown => ?_, fun covert => ?_, fun idle => ?_⟩,
    fun head idle => ⟨exec_standDown_idle head s idle, fun sparse => ?_⟩,
    fun code listening short long digits shown hcancel hduress => ?_⟩
  · obtain ⟨hlast, hlink⟩ := endEmergency_shown .standDown (countItem s) shown
    refine ⟨_, exec_standDown_ends head s unit (by rcases shown with h | h <;> simp [h]), hended standDown, hlast, ?_⟩
    rw [Pending, hlink]
    exact (mem_insertEvent ..).mpr (.inl rfl)
  · obtain ⟨hlast, hlink⟩ := endEmergency_hidden .standDown (countItem s) (.inr covert)
    exact ⟨_, exec_standDown_ends head s unit (by simp [covert]), hended standDown, hlast, hlink⟩
  · obtain ⟨page, -⟩ := pageReturnsToFullWatch head s
    rw [exec_standDown_idle head s idle]
    exact page unit
  · obtain ⟨heard, check, encoding, names, watch⟩ := sparse
    rw [exec_standDown_idle head s idle, exec_page, takeItem_unit head unitOnly false _ s heard check encoding names rfl]
    exact ⟨_, rfl, returnHeld_eq_backToFull (countItem s) watch⟩
  · have hdigits : isCode 4 8 code = true := (isCode_iff code 4 8).mpr ⟨short, long, digits⟩
    obtain ⟨hlast, hlink⟩ := endEmergency_shown .cancel s shown
    rw [exec_emergencyCancel code s listening, serveEmergencyCancel_cancels code s hdigits shown hcancel hduress]
    refine ⟨_, rfl, hended { emergencyEnded_of_end .cancel s with }, hlast, ?_, ?_⟩
    · simp only [Pending, answer_events, hlink]
      exact (mem_insertEvent ..).mpr (.inl rfl)
    · rw [endEmergency_explicit]
      rfl

/-- Settles O26. The duress code is told from the cancel code and both from the rest in the order of
`serveEmergencyCancel`. -/
theorem duressGoesCovert : Obligations.DuressGoesCovert := by
  intro code s listening short long digits
  have hdigits : isCode 4 8 code = true := (isCode_iff code 4 8).mpr ⟨short, long, digits⟩
  rw [exec_emergencyCancel code s listening]
  refine ⟨fun shown hduress => ?_, fun refused => ?_⟩
  · rw [serveEmergencyCancel_covert code s hdigits shown hduress, enterCovert, voiceAfterActive_eq]
    exact ⟨_, rfl, rfl, rfl⟩
  · rw [serveEmergencyCancel_refused code s hdigits refused]
    rfl

end Sys2Proof.Machine
end

section
/-! PROOFS. The arrival of an OFFER: its admission, and the place it takes on the board. -/

namespace Sys2Proof.Machine

/-! ### The first of a list by an order (R72, R77) -/

/-- An entry that precedes all before it, and that none after it precedes, is the first. -/
theorem firstBy_eq {precedes : Offer → Offer → Bool} {v : Offer} {l m : List Offer}
    (before : ∀ x ∈ l, precedes v x = true) (after : ∀ x ∈ m, precedes x v = false) :
    firstBy precedes (l ++ v :: m) = some v := by
  induction l with
  | nil =>
    have hmem : ∀ (k : List Offer) b, firstBy precedes k = some b → b ∈ k := by
      intro k
      induction k with
      | nil => simp [firstBy]
      | cons o os ih =>
        intro b hb
        simp only [firstBy] at hb
        split at hb
        · simp_all
        · rename_i c hc
          split at hb
          · exact .tail _ (ih b (hc.trans hb))
          · simp_all
    simp only [List.nil_append, firstBy]
    split
    · rfl
    · rename_i b hb
      rw [if_neg (by simp [after b (hmem m b hb)])]
  | cons x l ih =>
    have hfirst := ih fun y hy => before y (.tail _ hy)
    simp only [List.cons_append, firstBy, hfirst, before x (.head _), if_true]

/-! ### The place of an offer (R72) -/

section
variable (new : Offer) (s : State)

theorem placeOffer_room (h : findOffer new.number s = none) (room : s.board.entries.length < 8) :
    placeOffer new s = presentOffer new s := by
  simp only [placeOffer, h, Config.boardSize, if_pos room]

theorem placeOffer_reuses (n : Nat) (rest : List Nat) (h : findOffer new.number s = none)
    (full : s.board.entries.length = 8) (order : s.board.closeOrder = n :: rest) :
    placeOffer new s = presentOffer new (removeOffer n s) := by
  simp only [placeOffer, h, Config.boardSize, if_neg (show ¬ s.board.entries.length < 8 by omega), order]

theorem placeOffer_evicts (o : Offer) (h : findOffer new.number s = none) (full : s.board.entries.length = 8)
    (order : s.board.closeOrder = []) (victim : evictable new.cls s = some o) :
    placeOffer new s = presentOffer new (countOverflow (unfocus o.number (removeOffer o.number s))) := by
  simp only [placeOffer, h, Config.boardSize, if_neg (show ¬ s.board.entries.length < 8 by omega), order, victim]

theorem placeOffer_overflows (h : findOffer new.number s = none) (full : s.board.entries.length = 8)
    (order : s.board.closeOrder = []) (none : evictable new.cls s = Option.none) :
    placeOffer new s = countOverflow s := by
  simp only [placeOffer, h, Config.boardSize, if_neg (show ¬ s.board.entries.length < 8 by omega), order, none]

theorem placeOffer_refreshes (o : Offer) (h : findOffer new.number s = some o) (ho : o.state ≠ .closed) :
    placeOffer new s = raise .offerNew (updateOffer new.number (fun o =>
      { o with expiry := max o.expiry new.expiry, text := new.text, estimate := new.estimate }) s) := by
  simp only [placeOffer, h, if_neg ho]

theorem placeOffer_closed (o : Offer) (h : findOffer new.number s = some o) (ho : o.state = .closed) :
    placeOffer new s = s := by
  simp only [placeOffer, h, if_pos ho]

end

theorem evictedBefore_iff (a b : Offer) : evictedBefore a b = true ↔
    a.cls.code < b.cls.code ∨ a.cls = b.cls ∧ a.expiry < b.expiry := by
  simp [evictedBefore]

/-- The entry evicted: PRESENTED and of a lower class, it goes sooner than those before it, and no sooner goes any
after it. -/
theorem evictable_eq (cls : OfferClass) (s : State) (l m : List Offer) (v : Offer)
    (entries : s.board.entries = l ++ v :: m) (hv : v.state = .presented ∧ v.cls.code < cls.code)
    (before : ∀ x ∈ l, x.state = .presented ∧ x.cls.code < cls.code →
      v.cls.code < x.cls.code ∨ v.cls = x.cls ∧ v.expiry < x.expiry)
    (after : ∀ x ∈ m, x.state = .presented ∧ x.cls.code < cls.code →
      ¬(x.cls.code < v.cls.code ∨ x.cls = v.cls ∧ x.expiry < v.expiry)) :
    evictable cls s = some v := by
  rw [evictable, entries, List.filter_append, List.filter_cons_of_pos (by simpa using hv)]
  refine firstBy_eq (fun x hx => ?_) fun x hx => ?_
  · obtain ⟨hmem, hlower⟩ := List.mem_filter.mp hx
    exact (evictedBefore_iff ..).mpr (before x hmem (by simpa using hlower))
  · obtain ⟨hmem, hlower⟩ := List.mem_filter.mp hx
    rw [← Bool.not_eq_true, evictedBefore_iff]
    exact after x hmem (by simpa using hlower)

theorem evictable_none (cls : OfferClass) (s : State)
    (h : ∀ x ∈ s.board.entries, ¬(x.state = .presented ∧ x.cls.code < cls.code)) : evictable cls s = none := by
  rw [evictable, List.filter_eq_nil_iff.mpr (by simpa using h)]
  rfl

/-! ### The arrival (R71) -/

theorem exec_offer (head : ItemHead) (o : OfferFields) (s : State) (h : OfferInRange o) :
    exec (.offer head o) s = .next (takeItem head true anyTarget true (handOffer o) s) := by
  change Host.Outcome.next (takeItem head (offerFieldsOk o) anyTarget true (handOffer o) s) = _
  rw [(offerFieldsOk_iff o).mpr h]

/-- The class that a field in range gives. -/
theorem toClass_getD (n : Nat) (h : n ≤ 2) :
    (toClass n).getD .street = if n = 0 then .street else if n = 1 then .booked else .priority := by
  have : n = 0 ∨ n = 1 ∨ n = 2 := by omega
  rcases this with rfl | rfl | rfl <;> rfl

theorem toBool_getD (n : Nat) (h : n ≤ 1) : (toBool n).getD false = (n == 1) := by
  have : n = 0 ∨ n = 1 := by omega
  rcases this with rfl | rfl <;> rfl

/-- The target that a field in range gives. -/
theorem toTarget_of_le (n : Nat) (h : n ≤ 2) :
    toTarget n = some (if n = 0 then .all else if n = 1 then .zone else .unit) := by
  have : n = 0 ∨ n = 1 ∨ n = 2 := by omega
  rcases this with rfl | rfl | rfl <;> rfl

/-- The test of an offer is R71's, on the fields as they came. -/
theorem offerAdmitted_iff (head : ItemHead) (o : OfferFields) (s : State) (hhead : head.target ≤ 2) (hcls : o.cls ≤ 2)
    (hnext : o.nextJob ≤ 1) :
    offerAdmitted (newOffer (if head.target = 0 then .all else if head.target = 1 then .zone else .unit)
      ((toClass o.cls).getD .street) ((toBool o.nextJob).getD false) o s) s = true ↔ OfferAdmitted head o s := by
  have hcab := cabAdmits_iff (newOffer (if head.target = 0 then .all else if head.target = 1 then .zone else .unit)
      ((toClass o.cls).getD .street) ((toBool o.nextJob).getD false) o s) s
  have hbooked : (toClass o.cls).getD .street = .booked ↔ o.cls = 1 := by
    rw [toClass_getD o.cls hcls]
    by_cases h0 : o.cls = 0
    · simp [h0]
    · by_cases h1 : o.cls = 1 <;> simp [h0, h1]
  have hnextJob : (toBool o.nextJob).getD false = true ↔ o.nextJob = 1 := by
    rw [toBool_getD o.nextJob hnext, beq_iff_eq]
  have hunit : (if head.target = 0 then Target.all else if head.target = 1 then .zone else .unit) = .unit ↔
      head.target = 2 := by
    by_cases h0 : head.target = 0
    · simp [h0]
    · by_cases h1 : head.target = 1
      · simp [h1]
      · simp [show head.target = 2 by omega]
  simp only [offerAdmitted, Bool.and_eq_true, Bool.not_eq_true', beq_iff_eq, hcab, zoneAdmits_iff]
  simp only [newOffer, hunit]
  constructor
  · rintro ⟨⟨⟨paused, watch⟩, free, calm, meter⟩, zone⟩
    exact ⟨watch, paused, free, calm, by simpa only [hbooked, hnextJob] using meter, zone⟩
  · rintro ⟨watch, paused, free, calm, meter, zone⟩
    exact ⟨⟨⟨paused, watch⟩, free, calm, by simpa only [hbooked, hnextJob] using meter⟩, zone⟩

/-- Settles O18. The offer is handed to the board (`takeItem_heard`), whose test is R71's (`offerAdmitted_iff`); an
admitted one finds its place by the `placeOffer` lemmas, and one not admitted leaves the block counted. -/
theorem offerJoinsTheBoard : Obligations.OfferJoinsTheBoard := by
  intro head o s items check encoding range target heard cls new lower sooner
  rw [exec_offer head o s range]
  obtain ⟨-, -, hcls, hnext, -⟩ := id range
  have hhead : head.target ≤ 2 := by
    rcases target with h | ⟨h, -⟩ | ⟨h, -⟩ <;> omega
  have hpass : passes head true anyTarget true s =
      some (if head.target = 0 then .all else if head.target = 1 then .zone else .unit) := by
    rw [passes_eq_some, targetPasses_iff, toTarget_of_le _ hhead]
    rcases target with h | ⟨h, h1, h2, hserved⟩ | ⟨h, hvalue, haddress⟩
    · simp [h, encoding, anyTarget]
    · simp [h, encoding, anyTarget, h1, h2, hserved]
    · simp only [h, encoding, anyTarget]
      simp [haddress, hvalue]
  have htake := (takeItem_heard head true anyTarget true (handOffer o) s items check).2 _ hpass
  have hnew : newOffer (if head.target = 0 then .all else if head.target = 1 then .zone else .unit)
      ((toClass o.cls).getD .street) ((toBool o.nextJob).getD false) o (countItem s) = new := by
    rw [toClass_getD o.cls hcls, toBool_getD o.nextJob hnext]
    rfl
  have hadmitted := offerAdmitted_iff head o (countItem s) hhead hcls hnext
  have hcounted : OfferAdmitted head o (countItem s) ↔ OfferAdmitted head o s :=
    ⟨fun ⟨a, b, c, d, e, f⟩ => ⟨a, b, c, d, e, f⟩, fun ⟨a, b, c, d, e, f⟩ => ⟨a, b, c, d, e, f⟩⟩
  rw [hcounted, hnew] at hadmitted
  refine ⟨fun admitted => ?_, fun not => ?_⟩
  · have hplace : takeItem head true anyTarget true (handOffer o) s = placeOffer new (countItem s) := by
      obtain ⟨-, -, -, ⟨hreceiver, -⟩, -⟩ := handOffer_frame o .unit (countItem s)
      have hhand : handOffer o (if head.target = 0 then .all else if head.target = 1 then .zone else .unit)
          (countItem s) = placeOffer new (countItem s) := by
        simp only [handOffer, receiveOffer, hnew, if_pos (hadmitted.mpr admitted)]
      rw [htake, hhand]
      have hwatch : (placeOffer new (countItem s)).receiver.watch = .full := by
        rw [← hhand]
        obtain ⟨-, -, -, ⟨hreceiver, -⟩, -⟩ := handOffer_frame o
          (if head.target = 0 then .all else if head.target = 1 then .zone else .unit) (countItem s)
        rw [hreceiver]
        exact admitted.watch
      rw [returnHeld_full _ hwatch, ite_self]
    rw [hplace]
    refine ⟨fun none room => ?_, fun n rest none full order => ?_,
      fun l v m none full order entries hlower before after => ?_, fun none full order nolower => ?_,
      fun x found hopen => ?_, fun x found hclosed => ?_⟩
    · rw [placeOffer_room new (countItem s) none room]
      rfl
    · rw [placeOffer_reuses new (countItem s) n rest none full order]
      rfl
    · have victim := evictable_eq cls (countItem s) l m v entries hlower before after
      rw [placeOffer_evicts new (countItem s) v none full order victim]
      have hstands : (countItem s).board.closeOrder.filter (fun m => !(m == v.number)) = s.board.closeOrder := by
        rw [show (countItem s).board.closeOrder = [] from order, order]
        rfl
      have hboard : (removeOffer v.number (countItem s)).board = { s.board with
          entries := s.board.entries.filter (fun x => x.number != v.number) } := by
        simp only [removeOffer, hstands]
        rfl
      simp only [presentOffer, countOverflow, unfocus, hboard]
      rfl
    · rw [placeOffer_overflows new (countItem s) none full order (evictable_none cls (countItem s) nolower)]
      rfl
    · rw [placeOffer_refreshes new (countItem s) x found hopen]
      rfl
    · rw [placeOffer_closed new (countItem s) x found hclosed]
      rfl
  · have hhand : handOffer o (if head.target = 0 then .all else if head.target = 1 then .zone else .unit)
        (countItem s) = countItem s := by
      simp only [handOffer, receiveOffer, hnew, if_neg (mt hadmitted.mp not)]
    rw [htake, hhand]
    refine ⟨fun h => ?_, fun h => ?_⟩
    · rcases h with h | h
      · rw [returnHeld_full (countItem s) h, ite_self]
        rfl
      · rw [if_neg (by by_cases h0 : head.target = 0 <;> by_cases h1 : head.target = 1 <;> simp [h0, h1]; omega)]
        rfl
    · have names : NamesThisUnit head s := by
        rcases target with h' | ⟨h', -⟩ | names
        · omega
        · omega
        · exact names
      rw [exec_page, takeItem_unit head unitOnly false _ s items check encoding names rfl]
      simp [h]

end Sys2Proof.Machine
end

section
/-! PROOFS. The arrival of a TEXT: what a placement of receipts does to the records, and the record stored, refused or
renewed. -/

namespace Sys2Proof.Machine

/-! ### The placement of receipts (R148) -/

/-- The records with the receipts of some numbers QUEUED. -/
def queuedReceipts (l : List Nat) (m : Message) : Message := if m.number ∈ l then { m with receipt := .queued } else m

@[simp] theorem queuedReceipts_nil : queuedReceipts [] = id := by
  funext m
  simp [queuedReceipts]

/-- What a placement of receipts does: some DUE records become QUEUED; it tells LINK at most. -/
structure ReceiptsPlaced (due : List Nat) (s t : State) : Prop where
  messages : ∃ l : List Nat, l ⊆ due ∧ t.inbox = { s.inbox with messages := s.inbox.messages.map (queuedReceipts l) }
  events : ∀ k, Pending k t → Pending k s ∨ k = .link

/-- The placing of an entry tells LINK at most, by the return to FULL watch. -/
theorem placeEntry_tellsLink (kind : EntryKind) (key : Nat) (content : EntryContent) (deadline : Option Nat) (s : State)
    (k : EventKind) (h : Pending k (placeEntry kind key content deadline s)) : Pending k s ∨ k = .link :=
  placeEntry_kept (P := fun t => Pending k t → Pending k s ∨ k = .link) (fun _ _ h => h)
    (fun t h hk => by
      unfold returnToFull at hk
      split at hk
      · exact h hk
      · rcases (mem_insertEvent ..).mp hk with rfl | hk
        · exact .inr rfl
        · exact h hk) kind key content deadline .inl h

theorem returnHeld_tellsLink (s : State) (k : EventKind) (h : Pending k (returnHeld s)) : Pending k s ∨ k = .link := by
  cases hw : s.receiver.watch with
  | full => rw [returnHeld_full s hw] at h; exact .inl h
  | sparse =>
    rw [returnHeld_eq_backToFull s hw] at h
    exact ((mem_insertEvent ..).mp h).symm

theorem placeReceipt_placed (m : Message) (s : State) : ReceiptsPlaced [m.number] s (placeReceipt m s) := by
  unfold placeReceipt
  split
  · refine ⟨⟨[m.number], .refl _, ?_⟩, fun k hk => ?_⟩
    · obtain ⟨-, -, -, -, hinbox, -⟩ := placeEntry_frame .receipt m.number (.code m.receiptCode) none
        (updateMessage m.number (fun m => { m with receipt := .queued }) s)
      rw [hinbox]
      simp [updateMessage, queuedReceipts]
    · exact placeEntry_tellsLink .receipt m.number (.code m.receiptCode) none
        (updateMessage m.number (fun m => { m with receipt := .queued }) s) k hk
  all_goals exact ⟨⟨[], List.nil_subset _, by simp⟩, fun _ => .inl⟩

theorem queuedReceipts_append (l k : List Nat) : queuedReceipts k ∘ queuedReceipts l = queuedReceipts (l ++ k) := by
  funext m
  simp only [queuedReceipts, Function.comp_apply, List.mem_append]
  by_cases hl : m.number ∈ l <;> by_cases hk : m.number ∈ k <;> simp [hl, hk]

theorem placeReceipts_placed (s : State) : ReceiptsPlaced ((dueReceipts s).map (·.number)) s (placeReceipts s) := by
  have each (l : List Message) (t : State) :
      ReceiptsPlaced (l.map (·.number)) t (l.foldl (fun s m => placeReceipt m s) t) := by
    induction l generalizing t with
    | nil => exact ⟨⟨[], .refl _, by simp⟩, fun _ => .inl⟩
    | cons m l ih =>
      obtain ⟨⟨n, hn, hfirst⟩, hevents⟩ := placeReceipt_placed m t
      obtain ⟨⟨k, hk, hrest⟩, hevents'⟩ := ih (placeReceipt m t)
      refine ⟨⟨n ++ k, List.append_subset.mpr ⟨fun x hx => ?_, fun x hx => ?_⟩, ?_⟩, fun x hx => ?_⟩
      · simp [List.mem_singleton.mp (hn hx)]
      · exact .tail _ (hk hx)
      · rw [List.foldl_cons, hrest, hfirst, ← queuedReceipts_append]
        simp
      · rcases hevents' x hx with h | h
        · exact hevents x h
        · exact .inr h
  exact each _ s

theorem mem_dueReceipts {m : Message} {s : State} : m ∈ dueReceipts s ↔ m ∈ s.inbox.messages ∧ m.receipt = .due := by
  simp only [dueReceipts, List.mem_append, List.mem_filter, beq_iff_eq]
  cases m.priority <;> simp

@[simp] theorem queuedReceipts_number (l : List Nat) (m : Message) : (queuedReceipts l m).number = m.number := by
  unfold queuedReceipts
  split <;> rfl

/-- Numbers of DUE records alone are placed. -/
theorem placeReceipts_inbox (s : State) : ∃ l : List Nat,
    (∀ n ∈ l, ∃ m ∈ s.inbox.messages, m.number = n ∧ m.receipt = .due) ∧
      (placeReceipts s).inbox = { s.inbox with messages := s.inbox.messages.map (queuedReceipts l) } := by
  obtain ⟨⟨l, hl, hinbox⟩, -⟩ := placeReceipts_placed s
  refine ⟨l, fun n hn => ?_, hinbox⟩
  obtain ⟨m, hm, rfl⟩ := List.mem_map.mp (hl hn)
  obtain ⟨hmem, hdue⟩ := mem_dueReceipts.mp hm
  exact ⟨m, hmem, rfl, hdue⟩

/-! ### The record stored (R146) -/

/-- What the storing of a record does: it is the youngest, its receipt placed perhaps where it is DUE. -/
structure Stored (kept : List Message) (m : Message) (s t : State) : Prop where
  youngest : ∃ m', t.inbox.messages.getLast? = some m' ∧ (m' = m ∨ m.receipt = .due ∧ m' = { m with receipt := .queued })
  numbers : t.inbox.messages.map (·.number) = kept.map (·.number) ++ [m.number]
  event : Pending .message t
  counts : t.inbox.fullCount = s.inbox.fullCount ∧ t.inbox.refused = s.inbox.refused
  rest : t.board = s.board ∧ t.meter = s.meter ∧ t.accounts = s.accounts ∧ t.emergency = s.emergency ∧ t.store = s.store

theorem storeMessage_stored (m : Message) (s : State) (fresh : ∀ y ∈ s.inbox.messages, y.number ≠ m.number) :
    Stored s.inbox.messages m s (storeMessage m s) := by
  obtain ⟨l, hl, hinbox⟩ := placeReceipts_inbox
    (raise .message { s with inbox := { s.inbox with messages := s.inbox.messages ++ [m] } })
  obtain ⟨-, ⟨-, -, hstore⟩, ⟨hmeter, haccounts, -⟩, hboard, hemergency⟩ := placeReceipts_frame
    (raise .message { s with inbox := { s.inbox with messages := s.inbox.messages ++ [m] } })
  refine ⟨⟨queuedReceipts l m, ?_, ?_⟩, ?_, ?_, ?_, hboard, hmeter, haccounts, hemergency, hstore⟩
  · rw [storeMessage, hinbox]
    simp
  · unfold queuedReceipts
    split
    · rename_i hmem
      obtain ⟨y, hy, hnumber, hdue⟩ := hl _ hmem
      rcases List.mem_append.mp hy with hy | hy
      · exact absurd hnumber (fresh y hy)
      · obtain rfl := List.mem_singleton.mp hy
        exact .inr ⟨hdue, rfl⟩
    · exact .inl rfl
  · rw [storeMessage, hinbox]
    simp [Function.comp_def]
  · exact (Told.placeReceipts _).events _ ((mem_insertEvent ..).mpr (.inl rfl))
  · rw [storeMessage, hinbox]
    exact ⟨rfl, rfl⟩

theorem Stored.congr {kept : List Message} {m : Message} {s u v : State} (h : Stored kept m s u) (told : Told u v)
    (inbox : v.inbox = u.inbox)
    (rest : v.board = u.board ∧ v.meter = u.meter ∧ v.accounts = u.accounts ∧ v.emergency = u.emergency ∧
      v.store = u.store) : Stored kept m s v where
  youngest := by rw [inbox]; exact h.youngest
  numbers := by rw [inbox]; exact h.numbers
  event := told.events _ h.event
  counts := by rw [inbox]; exact h.counts
  rest := by
    obtain ⟨hb, hm, ha, he, hs⟩ := rest
    obtain ⟨hb', hm', ha', he', hs'⟩ := h.rest
    exact ⟨hb.trans hb', hm.trans hm', ha.trans ha', he.trans he', hs.trans hs'⟩

/-! ### The arrival (R145, R146) -/

theorem exec_text (head : ItemHead) (x : TextFields) (s : State) (h : TextInRange x) :
    exec (.text head x) s = .next (takeItem head true anyTarget false (handText x) s) := by
  change Host.Outcome.next (takeItem head (textFieldsOk x) anyTarget false (handText x) s) = _
  rw [(textFieldsOk_iff x).mpr h]

theorem message_evictable_iff (m : Message) : m.evictable = true ↔
    m.read ≠ .unread ∧ m.priority = .normal ∧ (m.receipt = .none ∨ m.receipt = .sent) := by
  simp only [Message.evictable, Bool.and_eq_true, Bool.or_eq_true, beq_iff_eq, and_assoc]
  cases m.read <;> simp

theorem toPriority_getD (n : Nat) (h : n ≤ 1) :
    (toPriority n).getD .normal = if n = 0 then .normal else .urgent := by
  have : n = 0 ∨ n = 1 := by omega
  rcases this with rfl | rfl <;> rfl

/-- The record that a TEXT brings. -/
abbrev brought (head : ItemHead) (x : TextFields) (s : State) : Message :=
  newMessage (if head.target = 0 then .all else if head.target = 1 then .zone else .unit)
    ((toPriority x.priority).getD .normal) x s

section
variable {head : ItemHead} {x : TextFields} {s : State}

theorem target_of_taken (h : (ForThisUnit head s ∨ ForManyUnits head s) ∨ ForThisUnitInSparse head s) :
    head.target ≤ 2 := by
  rcases h with (⟨-, -, -, ⟨h, -⟩, -⟩ | ⟨-, -, -, h | ⟨h, -⟩⟩) | ⟨-, -, -, ⟨h, -⟩, -⟩ <;> omega

/-- A TEXT taken is handed to the inbox, and the watch may return to FULL. -/
theorem takeText_cases (h : (ForThisUnit head s ∨ ForManyUnits head s) ∨ ForThisUnitInSparse head s) :
    let received := receiveText (if head.target = 0 then .all else if head.target = 1 then .zone else .unit)
      ((toPriority x.priority).getD .normal) x (countItem s)
    takeItem head true anyTarget false (handText x) s = received ∨
      takeItem head true anyTarget false (handText x) s = returnHeld received := by
  have hle := target_of_taken h
  rcases h with (⟨heard, check, encoding, names, -⟩ | many) | ⟨heard, check, encoding, names, -⟩
  · right
    rw [takeItem_unit head anyTarget false _ s heard check encoding names rfl, names.1]
    rfl
  · left
    obtain ⟨g, -, hg, htake⟩ := takeItem_many head (handText x) s many
    obtain rfl := Option.some.inj (hg.symm.trans (toTarget_of_le _ hle))
    exact htake
  · right
    rw [takeItem_unit head anyTarget false _ s heard check encoding names rfl, names.1]
    rfl

theorem receiveText_room (g : Target) (p : Priority) (h : findMessage x.number s = none)
    (room : s.inbox.messages.length < 16) : receiveText g p x s = storeMessage (newMessage g p x s) s := by
  simp only [receiveText, h, Config.inboxSize, if_pos room]

theorem receiveText_evicts (g : Target) (p : Priority) (old : Message) (h : findMessage x.number s = none)
    (full : s.inbox.messages.length = 16) (victim : s.inbox.messages.find? Message.evictable = some old) :
    receiveText g p x s = storeMessage (newMessage g p x s) (removeMessage old.number s) := by
  simp only [receiveText, h, Config.inboxSize, if_neg (show ¬ s.inbox.messages.length < 16 by omega), victim]

theorem receiveText_refused (g : Target) (p : Priority) (h : findMessage x.number s = none)
    (full : s.inbox.messages.length = 16) (none : s.inbox.messages.find? Message.evictable = Option.none) :
    receiveText g p x s = refuseMessage s := by
  simp only [receiveText, h, Config.inboxSize, if_neg (show ¬ s.inbox.messages.length < 16 by omega), none]

theorem receiveText_duplicate (g : Target) (p : Priority) (m : Message) (h : findMessage x.number s = some m) :
    receiveText g p x s = placeReceipts (updateMessage x.number rearm s) := by
  simp only [receiveText, h]

end

theorem rearm_number (m : Message) : (rearm m).number = m.number := by
  unfold rearm
  split <;> rfl

theorem rearm_fresh {m : Message} (h : m.receipt = .sent ∨ m.receipt = .failed) :
    rearm m = { m with receipt := .due } := by
  rcases h with h | h <;> simp only [rearm, h]

theorem rearm_stands {m : Message} (h : m.receipt ≠ .sent) (h' : m.receipt ≠ .failed) : rearm m = m := by
  unfold rearm
  split
  · contradiction
  · contradiction
  all_goals rfl

/-- What a duplicate does to the record of its number and to the others. -/
structure Renewed (m : Message) (s t : State) : Prop where
  found : ∃ y, findMessage m.number t = some y ∧ y = { m with receipt := y.receipt } ∧
    (m.receipt = .sent ∨ m.receipt = .failed → y.receipt = .due ∨ y.receipt = .queued) ∧
    (m.receipt ≠ .sent → m.receipt ≠ .failed → y = m)
  others : ∀ z ∈ s.inbox.messages, z.number ≠ m.number → z ∈ t.inbox.messages
  size : t.inbox.messages.length = s.inbox.messages.length ∧ t.inbox.fullCount = s.inbox.fullCount

theorem renewed {m : Message} {s : State} (h : findMessage m.number s = some m)
    (distinct : (s.inbox.messages.map (·.number)).Nodup) (undue : ∀ y ∈ s.inbox.messages, y.receipt ≠ .due) :
    Renewed m s (placeReceipts (updateMessage m.number rearm s)) := by
  obtain ⟨l, hl, hinbox⟩ := placeReceipts_inbox (updateMessage m.number rearm s)
  have hmem := List.mem_of_find?_eq_some h
  have honly {y : Message} (hy : y ∈ s.inbox.messages) (hn : y.number = m.number) : y = m :=
    List.inj_on_of_nodup_map distinct hy hmem hn
  have hplaced (n : Nat) (hn : n ∈ l) : n = m.number ∧ (rearm m).receipt = .due := by
    obtain ⟨y, hy, rfl, hdue⟩ := hl n hn
    obtain ⟨z, hz, rfl⟩ := List.mem_map.mp hy
    by_cases hz' : z.number = m.number
    · obtain rfl := honly hz hz'
      rw [if_pos (by simp)] at hdue ⊢
      exact ⟨rearm_number z, hdue⟩
    · rw [if_neg (by simpa using hz')] at hdue
      exact absurd hdue (undue z hz)
  have hmessages : (placeReceipts (updateMessage m.number rearm s)).inbox.messages =
      s.inbox.messages.map fun y => queuedReceipts l (if y.number == m.number then rearm y else y) := by
    rw [hinbox]
    simp [updateMessage, Function.comp_def]
  refine ⟨⟨queuedReceipts l (rearm m), ?_, ?_, fun hfresh => ?_, fun hsent hfailed => ?_⟩, fun z hz hn => ?_, ?_, ?_⟩
  · have hsame : ((fun y : Message => y.number == m.number) ∘ fun y =>
        queuedReceipts l (if y.number == m.number then rearm y else y)) = fun y => y.number == m.number := by
      funext y
      by_cases hy : y.number = m.number <;> simp [hy, rearm_number]
    rw [findMessage, hmessages, List.find?_map, hsame,
      show s.inbox.messages.find? (fun y => y.number == m.number) = some m from h]
    simp
  · unfold queuedReceipts rearm
    (repeat' split) <;> rfl
  · rw [rearm_fresh hfresh, queuedReceipts]
    split
    · exact .inr rfl
    · exact .inl rfl
  · rw [rearm_stands hsent hfailed, queuedReceipts, if_neg]
    intro hin
    have hdue := (hplaced _ hin).2
    rw [rearm_stands hsent hfailed] at hdue
    exact undue m hmem hdue
  · rw [hmessages]
    refine List.mem_map.mpr ⟨z, hz, ?_⟩
    rw [if_neg (by simpa using hn), queuedReceipts, if_neg fun hin => hn (hplaced _ hin).1]
  · rw [hmessages, List.length_map]
  · rw [hinbox]
    rfl

/-- Settles O22. A TEXT taken comes to the inbox (`takeText_cases`): a new number is stored (`storeMessage_stored`),
over an evicted record where needed, or refused; one that stands is renewed (`renewed`). -/
theorem textIsStoredOrRefused : Obligations.TextIsStoredOrRefused := by
  intro head x s range inPlace taken evictable youngest refused
  rw [exec_text head x s range]
  have hprio : (toPriority x.priority).getD .normal = if x.priority = 0 then .normal else .urgent :=
    toPriority_getD x.priority range.2.2.1
  -- a stored record is the youngest that the statement describes
  have hyoungest {kept : List Message} {t : State} (htaken : taken)
      (h : Stored kept (brought head x (countItem s)) s t) : youngest kept t := by
    have hle := target_of_taken htaken
    obtain ⟨⟨m', hlast, hm'⟩, numbers, event, ⟨hfull, hrefused⟩, hrest⟩ := h
    have hunit : (brought head x (countItem s)).receipt = if head.target = 2 then .due else .none := by
      simp only [brought, newMessage]
      by_cases h0 : head.target = 0
      · simp [h0]
      · by_cases h1 : head.target = 1
        · simp [h1]
        · simp [show head.target = 2 by omega]
    refine ⟨m', hlast, numbers, ?_⟩
    rcases hm' with rfl | ⟨hdue, rfl⟩
    · exact ⟨rfl, rfl, rfl, hprio, rfl, rfl, rfl, rfl, rfl, rfl, fun hn => hunit.trans (if_neg hn),
        fun hn => .inl (hunit.trans (if_pos hn)), event, hfull, hrefused, hrest⟩
    · refine ⟨rfl, rfl, rfl, hprio, rfl, rfl, rfl, rfl, rfl, rfl, fun hn => ?_, fun _ => .inr rfl, event, hfull,
        hrefused, hrest⟩
      rw [hunit, if_neg hn] at hdue
      cases hdue
  have hstored {kept : List Message} (htaken : taken)
      (h : Stored kept (brought head x (countItem s)) s (receiveText (if head.target = 0 then .all
        else if head.target = 1 then .zone else .unit) ((toPriority x.priority).getD .normal) x (countItem s))) :
      ∃ t, Host.Outcome.next (takeItem head true anyTarget false (handText x) s) =
        (.next t : Host.Outcome State Fault Refusal) ∧ youngest kept t := by
    refine ⟨_, rfl, hyoungest htaken ?_⟩
    rcases takeText_cases (x := x) htaken with e | e <;> rw [e]
    · exact h
    · obtain ⟨-, ⟨-, -, hs⟩, ⟨hm, ha, -⟩, ⟨hb, hi, he⟩, -⟩ := returnHeld_frame (receiveText (if head.target = 0 then .all
        else if head.target = 1 then .zone else .unit) ((toPriority x.priority).getD .normal) x (countItem s))
      exact h.congr (.returnHeld _) hi ⟨hb, hm, ha, he, hs⟩
  have hfresh (h : findMessage x.number s = none) : ∀ y ∈ s.inbox.messages, y.number ≠ x.number := by
    simpa [findMessage] using h
  refine ⟨fun htaken none room => ?_, fun l old m htaken none entries full distinct hold before => ?_,
    fun none full noneEvictable => ?_, fun m htaken found distinct undue => ?_⟩
  · refine hstored htaken ?_
    rw [receiveText_room _ _ (s := countItem s) none room]
    exact { storeMessage_stored (brought head x (countItem s)) (countItem s) (hfresh none) with }
  · have victim : s.inbox.messages.find? Message.evictable = some old := by
      rw [entries, List.find?_append, List.find?_eq_none.mpr, Option.none_or, List.find?_cons_of_pos]
      · exact (message_evictable_iff old).mpr hold
      · exact fun y hy h => before y hy ((message_evictable_iff y).mp h)
    have hkept : (removeMessage old.number (countItem s)).inbox.messages = l ++ m := by
      have hmap : (l ++ old :: m).map (·.number) = l.map (·.number) ++ old.number :: m.map (·.number) := by simp
      rw [entries, hmap, List.nodup_middle, List.nodup_cons, List.mem_append, not_or] at distinct
      obtain ⟨⟨hl, hm⟩, -⟩ := distinct
      have hstays {k : List Message} (h : old.number ∉ k.map (·.number)) :
          k.filter (fun y => !(y.number == old.number)) = k :=
        List.filter_eq_self.mpr fun y hy => by
          simpa using fun hn : y.number = old.number => h (List.mem_map.mpr ⟨y, hy, hn⟩)
      change s.inbox.messages.filter _ = _
      rw [entries, List.filter_append, List.filter_cons_of_neg (by simp), hstays hl, hstays hm]
    refine hstored htaken ?_
    rw [receiveText_evicts _ _ (s := countItem s) old none full victim]
    have := storeMessage_stored (brought head x (countItem s)) (removeMessage old.number (countItem s)) fun y hy =>
      hfresh none y (List.mem_of_mem_filter hy)
    rw [hkept] at this
    exact { this with }
  · have noVictim : (countItem s).inbox.messages.find? Message.evictable = Option.none :=
      List.find?_eq_none.mpr fun y hy h => noneEvictable y hy ((message_evictable_iff y).mp h)
    have hrefused (g : Target) : handText x g (countItem s) = refused :=
      receiveText_refused g _ (s := countItem s) none full noVictim
    refine ⟨fun h => ?_, fun ⟨heard, check, encoding, names, watch⟩ => ⟨_, rfl, ?_⟩⟩
    · obtain ⟨g, -, htake⟩ := takeItem_inPlace head (handText x) s h fun ⟨_, _, _, _, watch⟩ => by
        rw [hrefused]; exact watch
      rw [htake, hrefused]
    · rw [takeItem_unit head anyTarget false _ s heard check encoding names rfl, hrefused]
      exact returnHeld_eq_backToFull refused watch
  · have hnumber : m.number = x.number := number_of_findMessage found
    have hrenewed : Renewed m s (placeReceipts (updateMessage x.number rearm (countItem s))) := by
      rw [← hnumber] at found ⊢
      exact { renewed (s := countItem s) found distinct undue with }
    obtain ⟨-, ⟨-, -, hstore⟩, ⟨hmeter, haccounts, -⟩, hboard, hemergency⟩ := placeReceipts_frame
      (updateMessage x.number rearm (countItem s))
    have hevents := (placeReceipts_placed (updateMessage x.number rearm (countItem s))).events .message
    have hduplicate := receiveText_duplicate (s := countItem s) (if head.target = 0 then .all
      else if head.target = 1 then .zone else .unit) ((toPriority x.priority).getD .normal) m found
    obtain ⟨⟨y, hfind, hy, hfresh, hstands⟩, others, hsize, hcount⟩ := hrenewed
    rw [hnumber] at hfind others
    rcases takeText_cases (x := x) htaken with e | e <;> rw [e, hduplicate]
    · exact ⟨_, y, rfl, hfind, hy, hfresh, hstands, others, hsize, hcount,
        fun h => (hevents h).resolve_right (by decide), hboard, hmeter, haccounts, hemergency, hstore⟩
    · obtain ⟨-, ⟨-, -, hs⟩, ⟨hm, ha, -⟩, ⟨hb, hi, he⟩, -⟩ := returnHeld_frame
        (placeReceipts (updateMessage x.number rearm (countItem s)))
      refine ⟨_, y, rfl, (findMessage_congr _ (congrArg Inbox.messages hi)).trans hfind, hy, hfresh, hstands,
        by rw [hi]; exact others, by rw [hi]; exact hsize, by rw [hi]; exact hcount, fun h => ?_, hb.trans hboard,
        hm.trans hmeter, ha.trans haccounts, he.trans hemergency, hs.trans hstore⟩
      exact (hevents ((returnHeld_tellsLink _ _ h).resolve_right (by decide))).resolve_right (by decide)

end Sys2Proof.Machine
end

section
/-! PROOFS. The remote reset: what the emptying of the queue tells the host and the trip log, and what the reset leaves
of the part. -/

namespace Sys2Proof.Machine

/-! ### The emptying of the queue (R21, R46) -/

/-- The results that a host may still fetch. -/
def lastEight (l : List HostResult) : List HostResult := l.drop (l.length - 8)

theorem lastEight_append (a b : List HostResult) : lastEight (lastEight a ++ b) = lastEight (a ++ b) := by
  simp only [lastEight]
  rw [← List.drop_append_of_le_length (Nat.sub_le a.length 8), List.drop_drop]
  congr 1
  simp only [List.length_drop, List.length_append]
  omega

/-- An entry that carries a message of the host. -/
def ofHost (e : Entry) : Bool := e.kind == .canned || e.kind == .freetext

/-- A record of the log as the emptying of some entries leaves it. -/
def unreportedBy (l : List Entry) (x : LogEntry) : LogEntry :=
  if l.any (fun e => e.kind == .tripReport && e.key == x.record.seq) then
    { x with record := { x.record with report := .unreported }, holdOff := none }
  else x

/-- What the emptying of some entries does: records return to UNREPORTED, host messages are reported FAILED. -/
structure EntriesEmptied (l : List Entry) (s t : State) : Prop where
  log : t.accounts = { s.accounts with log := s.accounts.log.map (unreportedBy l) }
  scheduler : t.scheduler = { s.scheduler with results := t.scheduler.results }
  results : s.scheduler.results.length ≤ 8 → t.scheduler.results =
    lastEight (s.scheduler.results ++ (l.filter ofHost).map fun e => ⟨e.key, e.kind, false⟩)
  link : t.link = { s.link with events := t.link.events }
  events : ∀ k, Pending k t ↔ Pending k s ∨ k = .uplinkResult ∧ ∃ e ∈ l, ofHost e = true

theorem unreportedBy_cons (e : Entry) (l : List Entry) : unreportedBy l ∘ unreportedBy [e] = unreportedBy (e :: l) := by
  funext x
  simp only [unreportedBy, Function.comp_apply, List.any_cons, List.any_nil, Bool.or_false]
  by_cases he : (e.kind == .tripReport && e.key == x.record.seq) = true <;> simp [he]

/-- The three effects that the emptying of one entry may have, by its origin. -/
theorem entriesEmptied_one (e : Entry) (s : State) : EntriesEmptied [e] s (emptyEntry s e) := by
  have hother (h : e.kind ≠ .tripReport) : s.accounts = { s.accounts with
      log := s.accounts.log.map (unreportedBy [e]) } := by
    have : unreportedBy [e] = id := by
      funext x
      simp [unreportedBy, h]
    simp [this]
  have hresults (h : s.scheduler.results.length ≤ 8) : s.scheduler.results = lastEight s.scheduler.results := by
    simp [lastEight, h]
  cases hk : e.kind with
  | tripReport =>
    simp only [emptyEntry, hk, EntryKind.origin]
    refine ⟨?_, rfl, fun h => ?_, rfl, by simp [ofHost, hk, tripReportEmptied, updateRecord]⟩
    · simp only [tripReportEmptied, updateRecord]
      congr 1
      apply List.map_congr_left
      intro x _
      by_cases hx : x.record.seq = e.key
      · simp [unreportedBy, hk, hx]
      · simp [unreportedBy, hk, hx, Ne.symm hx]
    · simp only [List.filter_cons, ofHost, hk]
      simpa using hresults h
  | canned | freetext =>
    simp only [emptyEntry, hk, EntryKind.origin]
    refine ⟨hother (by simp [hk]), rfl, fun h => ?_, rfl, fun k => ?_⟩
    · simp [addResult, raise, lastEight, ofHost, hk]
    · simp [Pending, addResult, ofHost, hk, or_comm]
  | _ =>
    simp only [emptyEntry, hk, EntryKind.origin]
    refine ⟨hother (by simp [hk]), rfl, fun h => ?_, rfl, by simp [ofHost, hk]⟩
    simpa [ofHost, hk] using hresults h

theorem entriesEmptied (l : List Entry) (s : State) : EntriesEmptied l s (l.foldl emptyEntry s) := by
  induction l generalizing s with
  | nil =>
    have : unreportedBy [] = id := by
      funext x
      simp [unreportedBy]
    exact ⟨by simp [this], rfl, fun h => by simp [lastEight, h], rfl, by simp⟩
  | cons e l ih =>
    have first := entriesEmptied_one e s
    have rest := ih (emptyEntry s e)
    refine ⟨?_, ?_, fun h => ?_, ?_, fun k => ?_⟩
    · rw [List.foldl_cons, rest.log, first.log, List.map_map, unreportedBy_cons]
    · rw [List.foldl_cons, rest.scheduler, first.scheduler]
    · have hfirst := first.results h
      have hle : (emptyEntry s e).scheduler.results.length ≤ 8 := by
        rw [hfirst, lastEight, List.length_drop]
        omega
      rw [List.foldl_cons, rest.results hle, hfirst, lastEight_append, List.append_assoc, ← List.map_append,
        ← List.filter_append]
      rfl
    · rw [List.foldl_cons, rest.link, first.link]
    · rw [List.foldl_cons, rest.events, first.events]
      simp only [List.exists_mem_cons_iff, List.mem_singleton, exists_eq_left]
      tauto

/-! ### The blocks after the reset (R21) -/

/-- Where nothing is expected, the return to FULL changes the watch alone. -/
theorem returnToFull_unaimed (s : State) (h : s.receiver.expected = none) :
    (returnToFull s).receiver = { s.receiver with watch := .full } := by
  unfold returnToFull
  split
  · rename_i hw
    rw [← hw]
  · simp [raise, reaim, h]

theorem loseZone_locator (s : State) : (loseZone s).locator = { s.locator with
    fix := none, zone := 0, record := none, condition := .lost, candidate := none } := by
  unfold loseZone
  dsimp only
  split <;> rfl

/-- ZONE is told exactly where the zone, the served set or the condition changes. -/
theorem loseZone_events (s : State) (k : EventKind) : Pending k (loseZone s) ↔ Pending k s ∨
    k = .zone ∧ (s.locator.zone ≠ 0 ∨ servedSet s ≠ [] ∨ s.locator.condition ≠ .lost) := by
  unfold loseZone
  dsimp only
  split
  · rename_i h
    simp only [Pending, raise_events, mem_insertEvent]
    tauto
  · rename_i h
    exact ⟨.inl, fun h' => h'.resolve_right fun h' => h h'.2⟩

theorem returnToFull_tellsLink (s : State) (k : EventKind) (h : Pending k (returnToFull s)) : Pending k s ∨ k = .link := by
  unfold returnToFull at h
  split at h
  · exact .inl h
  · exact ((mem_insertEvent ..).mp h).symm

/-- The receiver after the reset. -/
theorem remoteReset_receiver (s : State) (idle : s.emergency.state = .idle) :
    (remoteReset s).receiver =
      { (restartPark { s with receiver := { (loseSync s).receiver with watch := .full } }).receiver with
        voice := if s.receiver.voiceReq then .blocked else .idle } := by
  have hlost : (loseZone (clearedJobs (emptyQueue (loseSync s)))).receiver = (loseSync s).receiver := by
    simp [clearedJobs]
  have hfull := returnToFull_unaimed (loseZone (clearedJobs (emptyQueue (loseSync s))))
    (by rw [hlost, loseSync_eq, setSync_receiver]; rfl)
  rw [hlost] at hfull
  have hpanel : (returnToFull (loseZone (clearedJobs (emptyQueue (loseSync s))))).panel = s.panel := by simp [clearedJobs]
  have hnow : (returnToFull (loseZone (clearedJobs (emptyQueue (loseSync s))))).now = s.now := by simp [clearedJobs]
  have hpulse (u : State) : (pulseHost u).receiver = u.receiver := by
    obtain ⟨-, -, -, ⟨h, -⟩, -⟩ := pulseHost_frame u
    exact h
  have hreq : (loseSync s).receiver.voiceReq = s.receiver.voiceReq := by
    rw [loseSync_eq, setSync_receiver]; rfl
  rw [remoteReset_idle s idle, hpulse]
  simp only [blockVoice, setVoice, restartPark, hpanel, hnow, hfull]
  split <;> simp only [hreq]

/-- The receiver after a reset that found sync LOCKED, field by field. -/
structure ReceiverReset (s : State) (r : Receiver) : Prop where
  sync : r.sync = .search
  since : r.searchSince = s.now
  expected : r.expected = none
  slotMap : r.slotMap = none
  items : r.itemsOpen = false
  watch : r.watch = .full
  parked : r.parkedStatus = false
  park : s.panel.ignition = .off → r.parkSince = some s.now ∧ r.parkMarked = false
  voice : r.voice = if s.receiver.voiceReq then .blocked else .idle
  time : r.time = s.receiver.time

theorem receiverReset (s : State) (idle : s.emergency.state = .idle) (locked : s.receiver.sync = .locked) :
    ReceiverReset s (remoteReset s).receiver := by
  have hlost : (loseSync s).receiver = { (syncLost s).receiver with sync := .search } := setSync_receiver ..
  have hsince : (syncLost s).receiver.searchSince = s.now := by simp [syncLost, locked]
  rw [remoteReset_receiver s idle, hlost, restartPark]
  split
  · exact ⟨rfl, hsince, rfl, rfl, rfl, rfl, rfl, fun _ => ⟨rfl, rfl⟩, rfl, rfl⟩
  · rename_i on
    exact ⟨rfl, hsince, rfl, rfl, rfl, rfl, rfl, fun off => absurd off on, rfl, rfl⟩

/-- No events come but LINK, UPLINK_RESULT and, where R57 asks for it, ZONE. -/
theorem remoteReset_events (s : State) (idle : s.emergency.state = .idle) (k : EventKind)
    (h : Pending k (remoteReset s)) : Pending k s ∨ k = .link ∨ k = .uplinkResult ∨
      k = .zone ∧ (s.locator.zone ≠ 0 ∨ servedSet s ≠ [] ∨ s.locator.condition ≠ .lost) := by
  rw [remoteReset_idle s idle] at h
  have hpulse : Pending k (returnToFull (loseZone (clearedJobs (emptyQueue (loseSync s))))) := by
    obtain ⟨-, -, -, -, -, hlink⟩ := restartPark_frame (returnToFull (loseZone (clearedJobs (emptyQueue (loseSync s)))))
    have : (pulseHost (blockVoice (restartPark (returnToFull (loseZone (clearedJobs
        (emptyQueue (loseSync s)))))))).link.events = (restartPark (returnToFull (loseZone (clearedJobs
        (emptyQueue (loseSync s)))))).link.events := by
      unfold pulseHost
      split <;> rfl
    rwa [Pending, this, hlink] at h
  rcases returnToFull_tellsLink _ k hpulse with h | h
  · have hlocator : (clearedJobs (emptyQueue (loseSync s))).locator = s.locator := by simp [clearedJobs]
    rw [loseZone_events, servedSet_congr (congrArg Locator.zone hlocator) (congrArg Locator.record hlocator),
      hlocator] at h
    rcases h with h | h
    · rcases ((entriesEmptied _ (loseSync s)).events k).mp h with h | ⟨h, -⟩
      · rw [loseSync_eq, setSync] at h
        dsimp only at h
        split at h
        · exact .inl h
        · rcases (mem_insertEvent ..).mp h with h | h
          · exact .inr (.inl h)
          · exact .inl h
      · exact .inr (.inr (.inl h))
    · exact .inr (.inr (.inr h))
  · exact .inr (.inl h)

/-- The last steps of the reset: the return to FULL, the park timer, the voice handshake, the pulse. -/
def returnedAfterReset (u : State) : State := pulseHost (blockVoice (restartPark (returnToFull u)))

theorem toldByReturn (u : State) : Told u (returnedAfterReset u) :=
  ((Told.returnToFull u).trans (Told.restartPark _)).trans
    ((Told.pulseHost _).after (t := blockVoice (restartPark (returnToFull u))) rfl rfl)

/-- The link after the last steps: beside the events, the host-reset pulse. -/
theorem returnedAfterReset_link (u : State) : (returnedAfterReset u).link = { u.link with
    events := (returnedAfterReset u).link.events
    hostReset := if u.store.working.resetReachesHost then some u.now else u.link.hostReset } := by
  obtain ⟨⟨-, hnow, -⟩, ⟨-, -, hstore⟩, -⟩ := returnToFull_frame u
  obtain ⟨⟨-, hnow', -⟩, ⟨-, -, hstore'⟩, -, -, -, hlink'⟩ := restartPark_frame (returnToFull u)
  have hlink : (blockVoice (restartPark (returnToFull u))).link = { u.link with
      events := (returnToFull u).link.events } := by
    change (restartPark (returnToFull u)).link = _
    rw [hlink', returnToFull_eq]
  have hstore : (blockVoice (restartPark (returnToFull u))).store = u.store := hstore'.trans hstore
  have hnow : (blockVoice (restartPark (returnToFull u))).now = u.now := hnow'.trans hnow
  simp only [returnedAfterReset, pulseHost, hstore, hnow]
  split <;> simp only [hlink]

/-- ZONE is told where the zone, the served set or the condition changes. -/
theorem remoteReset_zone (s : State) (idle : s.emergency.state = .idle)
    (h : s.locator.zone ≠ 0 ∨ servedSet s ≠ [] ∨ s.locator.condition ≠ .lost) : Pending .zone (remoteReset s) := by
  have hlocator : (clearedJobs (emptyQueue (loseSync s))).locator = s.locator := by simp [clearedJobs]
  have hzone : Pending .zone (loseZone (clearedJobs (emptyQueue (loseSync s)))) := by
    rw [loseZone_events, servedSet_congr (congrArg Locator.zone hlocator) (congrArg Locator.record hlocator), hlocator]
    exact .inr ⟨rfl, h⟩
  rw [remoteReset_idle s idle]
  exact (toldByReturn _).events _ hzone

/-- Once sync is lost, nothing of the reset takes an event away. -/
theorem toldAfterLoss (s : State) (idle : s.emergency.state = .idle) : Told (loseSync s) (remoteReset s) := by
  rw [remoteReset_idle s idle]
  exact (((Told.emptyQueue (loseSync s)).trans (.of_eq (t := clearedJobs (emptyQueue (loseSync s))) rfl rfl)).trans
    (Told.loseZone _)).trans (toldByReturn _)

theorem toldAfterEmptying (s : State) (idle : s.emergency.state = .idle) :
    Told (emptyQueue (loseSync s)) (remoteReset s) := by
  rw [remoteReset_idle s idle]
  have cleared (u : State) : Told u (clearedJobs u) := .of_eq rfl rfl
  exact ((cleared _).trans (Told.loseZone _)).trans (toldByReturn _)

theorem loseSync_tells (s : State) (h : s.receiver.sync ≠ .search) : Pending .link (loseSync s) := by
  rw [loseSync_eq, setSync]
  dsimp only
  rw [if_neg (show ¬ (syncLost s).receiver.sync = .search from h)]
  exact (mem_insertEvent ..).mpr (.inl rfl)

/-- The scheduler and the accounts after the emptying of the queue. -/
theorem emptied_blocks (s : State) :
    (emptyQueue (loseSync s)).scheduler =
        { s.scheduler with
          queue := [], slotReq := none, regenerate := false, fill := none, parkMark := none
          results := (emptyQueue (loseSync s)).scheduler.results } ∧
      (s.scheduler.results.length ≤ 8 → (emptyQueue (loseSync s)).scheduler.results =
        lastEight (s.scheduler.results ++ (s.scheduler.queue.filter ofHost).map fun e => ⟨e.key, e.kind, false⟩)) ∧
      (emptyQueue (loseSync s)).accounts =
        { s.accounts with log := s.accounts.log.map (unreportedBy s.scheduler.queue) } ∧
      ((∃ e ∈ s.scheduler.queue, ofHost e = true) → Pending .uplinkResult (emptyQueue (loseSync s))) := by
  obtain ⟨-, -, ⟨-, haccounts, -⟩, -, hscheduler⟩ := loseSync_frame s
  have hemptied := entriesEmptied s.scheduler.queue (loseSync s)
  obtain ⟨hlog, hsame, hresults, -, hevents⟩ := hemptied
  rw [hscheduler] at hresults hsame
  rw [haccounts] at hlog
  simp only [emptyQueue, hscheduler]
  refine ⟨?_, hresults, hlog, fun h => (hevents .uplinkResult).mpr (.inr ⟨rfl, h⟩)⟩
  rw [hsame]

/-- The link after the reset: beside the events, the host-reset pulse. -/
theorem remoteReset_link (s : State) (idle : s.emergency.state = .idle) :
    (remoteReset s).link = { s.link with
      events := (remoteReset s).link.events
      hostReset := if s.store.working.resetReachesHost then some s.now else s.link.hostReset } := by
  have hlost : (loseSync s).link = { s.link with events := (loseSync s).link.events } := by
    rw [loseSync_eq, setSync]
    dsimp only
    split <;> rfl
  have hcleared : (loseZone (clearedJobs (emptyQueue (loseSync s)))).link = { s.link with
      events := (loseZone (clearedJobs (emptyQueue (loseSync s)))).link.events } := by
    have hzone (u : State) : (loseZone u).link = { u.link with events := (loseZone u).link.events } := by
      unfold loseZone
      dsimp only
      split <;> rfl
    have hempty : (clearedJobs (emptyQueue (loseSync s))).link = { (loseSync s).link with
        events := (clearedJobs (emptyQueue (loseSync s))).link.events } := (entriesEmptied _ (loseSync s)).link
    rw [hzone, hempty, hlost]
  have hreturned := returnedAfterReset_link (loseZone (clearedJobs (emptyQueue (loseSync s))))
  rw [hcleared] at hreturned
  have hstore : (loseZone (clearedJobs (emptyQueue (loseSync s)))).store.working = s.store.working := by
    simp [clearedJobs]
  have hnow : (loseZone (clearedJobs (emptyQueue (loseSync s)))).now = s.now := by simp [clearedJobs]
  rw [hstore, hnow] at hreturned
  rw [remoteReset_idle s idle]
  exact hreturned

/-- What the reset leaves of the blocks beside receiver and link. -/
theorem remoteReset_blocks (s : State) (idle : s.emergency.state = .idle) :
    (remoteReset s).scheduler = (emptyQueue (loseSync s)).scheduler ∧
      (remoteReset s).accounts = (emptyQueue (loseSync s)).accounts ∧
      (remoteReset s).board = resetBoard ∧ (remoteReset s).inbox = resetInbox ∧
      (remoteReset s).locator = { s.locator with
        fix := none, zone := 0, record := none, condition := .lost, candidate := none } ∧
      (remoteReset s).store = { s.store with level := 0 } ∧ (remoteReset s).nonvolatile = s.nonvolatile := by
  rw [remoteReset_idle s idle]
  refine ⟨by simp [clearedJobs], by simp [clearedJobs], by simp [clearedJobs], by simp [clearedJobs], ?_,
    by simp [clearedJobs], by simp [clearedJobs]⟩
  simp [loseZone_locator, clearedJobs]

/-- Settles O27. A REMOTE_RESET for this unit in IDLE is `remoteReset` of the block counted, in FULL watch afterwards. -/
theorem remoteResetClearsTheJobSide : Obligations.RemoteResetClearsTheJobSide := by
  intro head s
  refine ⟨fun taken idle => ?_, fun busy => ?_⟩
  · have hlocked : s.receiver.sync = .locked := by
      rcases taken with ⟨⟨-, h, -⟩, -⟩ | ⟨⟨-, h, -⟩, -⟩ <;> exact h
    have htake : exec (.remoteReset head) s = .next (remoteReset (countItem s)) := by
      change Host.Outcome.next (takeItem head true unitOnly false (fun _ => remoteReset) s) = _
      have hfull := (receiverReset (countItem s) idle hlocked).watch
      rcases taken with ⟨heard, check, encoding, names, -⟩ | ⟨heard, check, encoding, names, -⟩
      all_goals
        rw [takeItem_unit head unitOnly false _ s heard check encoding names rfl, returnHeld_full _ hfull]
    have hreceiver := receiverReset (countItem s) idle hlocked
    have hlink := remoteReset_link (countItem s) idle
    obtain ⟨hscheduler, haccounts, hboard, hinbox, hlocator, hstore, hnonvolatile⟩ :=
      remoteReset_blocks (countItem s) idle
    obtain ⟨hqueue, hresults, hlog, huplink⟩ := emptied_blocks (countItem s)
    rw [hqueue] at hscheduler
    rw [hlog] at haccounts
    obtain ⟨-, hpanel, hmeter, hwriter, hemergency⟩ := remoteReset_frame (countItem s)
    have htold := toldAfterLoss (countItem s) idle
    have hfromQueue := toldAfterEmptying (countItem s) idle
    refine ⟨_, htake, hreceiver.sync, hreceiver.since, hreceiver.expected,
      hreceiver.slotMap, hreceiver.items,
      htold.events _ (loseSync_tells _ (by simp [countItem, hlocked])), by rw [hscheduler], by rw [hscheduler],
      by rw [hscheduler], by rw [hscheduler], by rw [hscheduler]; rfl, by rw [hscheduler],
      remoteReset_zone (countItem s) idle, fun hzone hserved hcondition hnot h => ?zone,
      fun ⟨e, he, hkind⟩ => hfromQueue.events _ (huplink ⟨e, he, by simpa [ofHost] using hkind⟩),
      fun h => by rw [hscheduler]; exact hresults h,
      hboard, hinbox, by rw [hlocator], by rw [hlocator], by rw [hlocator], by rw [hlocator], by rw [hlocator],
      by rw [hlocator]; rfl, hstore, hreceiver.watch, hreceiver.parked, hreceiver.park,
      hreceiver.voice, by rw [hlink]; rfl, hreceiver.time, hmeter, haccounts,
      hemergency, hpanel, hwriter, hnonvolatile, by rw [hlink]; rfl,
      (Told.remoteReset (countItem s)).events⟩
    case zone =>
      rcases remoteReset_events (countItem s) idle .zone h with h | h | h | ⟨-, h | h | h⟩
      · exact hnot h
      · cases h
      · cases h
      · exact h hzone
      · exact h hserved
      · exact h hcondition
  · have hignored : remoteReset (countItem s) = countItem s := remoteReset_ignored _ busy
    change Host.Outcome.next (takeItem head true unitOnly false (fun _ => remoteReset) s) = _
    rw [takeItem_ignored head unitOnly false _ s true fun _ => hignored]
    rfl

end Sys2Proof.Machine
end

section
/-! PROOFS. The reports that answer the transmissions: what each report keeps of the receiver and the scheduler, and how
the entries of the queue fare beside each other. -/

namespace Sys2Proof.Machine

/-! ### What the loss of an attempt keeps, and what a report keeps -/

/-- What every work of the loss of an attempt keeps: entries come and go, offers close, receipts and records settle. -/
structure AttemptKept (P : State → Prop) : Prop where
  queue : ∀ q r b s, P s → P { s with scheduler := { s.scheduler with queue := q, slotReq := r, regenerate := b } }
  results : ∀ l s, P s → P { s with scheduler := { s.scheduler with results := l } }
  held : ∀ b s, P s → P { s with receiver := { s.receiver with sparseHeld := b } }
  full : ∀ s, P s → P (returnToFull s)
  board : ∀ b s, P s → P { s with board := b }
  inbox : ∀ i s, P s → P { s with inbox := i }
  accounts : ∀ a s, P s → P { s with accounts := a }
  raise : ∀ k s, P s → P (raise k s)

namespace AttemptKept

variable {P : State → Prop} (k : AttemptKept P)
include k

theorem blind : QueueBlind P := fun q s h => k.queue q s.scheduler.slotReq s.scheduler.regenerate _ (k.held false s h)

theorem placeEntry (kind : EntryKind) (key : Nat) (content : EntryContent) (deadline : Option Nat) {s : State} (h : P s) :
    P (placeEntry kind key content deadline s) := placeEntry_kept k.blind k.full kind key content deadline h

theorem generateStatus {s : State} (h : P s) : P (generateStatus s) := by
  unfold Machine.generateStatus
  split
  · exact k.placeEntry _ _ _ _ h
  · split
    · exact k.queue _ _ true _ h
    all_goals exact h

theorem closeOnly (n : Nat) (outcome : OfferOutcome) {s : State} (h : P s) : P (closeOnly n outcome s) :=
  k.raise .offerClosed { s with board := (Machine.closeOnly n outcome s).board } (k.board _ s h)

theorem closeOffer (n : Nat) (outcome : OfferOutcome) {s : State} (h : P s) : P (closeOffer n outcome s) := by
  unfold Machine.closeOffer
  split
  · exact h
  · split
    · exact foldl_keeps P _ (fun t n ht => k.closeOnly n .dropped ht) _ _ (k.generateStatus (k.closeOnly n outcome h))
    · exact k.closeOnly n outcome h

theorem claimEnds (n : Nat) (outcome : OfferOutcome) {s : State} (h : P s) : P (claimEnds n outcome s) := by
  unfold Machine.claimEnds
  split
  · exact h
  · split
    · exact k.closeOffer n outcome h
    · exact h

theorem dropEntry (kind : EntryKind) (key : Nat) {s : State} (h : P s) : P (dropEntry kind key s) :=
  k.queue _ _ s.scheduler.regenerate s h

theorem updateEntry (kind : EntryKind) (key : Nat) (f : Entry → Entry) {s : State} (h : P s) :
    P (updateEntry kind key f s) := k.queue _ s.scheduler.slotReq s.scheduler.regenerate s h

theorem placeReceipts {s : State} (h : P s) : P (placeReceipts s) :=
  foldl_keeps P _ (fun _ m ht => placeReceipt_kept k.blind k.full k.inbox m ht) _ s h

theorem addResult (ticket : Nat) (kind : EntryKind) (delivered : Bool) {s : State} (h : P s) :
    P (addResult ticket kind delivered s) := k.raise .uplinkResult _ (k.results _ s h)

theorem failed (e : Entry) {s : State} (h : P s) : P (failed e s) := by
  unfold Machine.failed
  split
  · exact k.claimEnds _ _ h
  · exact k.placeReceipts (k.raise _ _ (k.inbox _ _ h))
  · exact k.accounts _ _ h
  · exact k.addResult _ _ _ h
  · exact k.addResult _ _ _ h
  · exact k.queue _ _ false _ h
  · exact h
  · exact h

theorem attemptLost (e : Entry) {s : State} (h : P s) : P (attemptLost e s) := by
  have waits (n : Nat) : P (clearSlotReq e.kind e.key (Machine.updateEntry e.kind e.key (backToWaiting n) s)) :=
    k.queue _ _ s.scheduler.regenerate s h
  unfold Machine.attemptLost
  dsimp only
  split
  · exact k.updateEntry _ _ _ h
  · split
    · exact k.failed e (k.dropEntry _ _ h)
    · split
      · exact k.claimEnds _ _ (k.dropEntry _ _ (waits _))
      · split
        · exact k.queue _ _ false _ (waits _)
        · exact waits _

theorem waitOn (e : Entry) {s : State} (h : P s) : P (waitOn s e) := by
  unfold Machine.waitOn
  split
  · split
    · exact k.attemptLost e h
    · exact k.updateEntry _ _ _ h
  · exact h

theorem giveUpGrants {s : State} (h : P s) : P (giveUpGrants s) :=
  foldl_keeps P _ (fun t e ht => by
    split
    · exact k.attemptLost e ht
    · exact ht) _ s h

/-- A miss report: nothing is heard, and the fill record goes. -/
theorem missReport (fill : ∀ s, P s → P { s with scheduler := { s.scheduler with fill := none } }) {s : State}
    (h : P s) : P (missReport s) := by
  have lost := foldl_keeps P (reportEntry fun _ => false) (fun t e ht => by
    unfold reportEntry
    split
    iterate 2
      rw [if_neg (by cases e.sentAs <;> simp)]
      exact k.attemptLost e ht
    all_goals exact ht) s.scheduler.queue s h
  have filled {t : State} (ht : P t) : P (reportFill (fun _ => false) t) := by
    unfold reportFill
    split
    · exact ht
    · exact fill t ht
  exact foldl_keeps P Machine.waitOn (fun t e ht => k.waitOn e ht) _ _ (filled lost)

end AttemptKept

/-- What a report keeps beside: the effects of an item heard. -/
structure ReportKept (P : State → Prop) : Prop extends AttemptKept P where
  status : ∀ sent s, P s → P (statusHeard sent s)
  emergency : ∀ e s, P s → P { s with emergency := e }
  writer : ∀ w s, P s → P { s with writer := w }
  fill : ∀ s, P s → P { s with scheduler := { s.scheduler with fill := none } }

namespace ReportKept

variable {P : State → Prop} (k : ReportKept P)
include k

theorem claimHeard (n : Nat) {s : State} (h : P s) : P (claimHeard n s) := by
  unfold Machine.claimHeard
  split
  · exact h
  · split
    · dsimp only
      split
      · exact k.closeOffer _ _ (k.board _ _ h)
      · exact k.board _ _ h
    · exact h

theorem acknowledged (e : Entry) {s : State} (h : P s) : P (acknowledged e s) := by
  unfold Machine.acknowledged
  split
  · exact k.claimHeard _ h
  · exact k.placeReceipts (k.inbox _ _ h)
  · unfold tripReported
    split
    · exact h
    · exact k.writer _ _ (k.accounts _ _ h)
  · unfold reportHeard
    split
    · exact h
    all_goals exact k.emergency _ _ h
  · exact k.addResult _ _ _ h
  · exact k.addResult _ _ _ h
  · unfold placeRegeneration
    split
    · exact k.placeEntry _ _ _ _ (k.queue _ _ false _ (k.status _ _ h))
    · exact k.status _ _ h
  · exact h

theorem reportEntry (isHeard : SentAs → Bool) (e : Entry) {s : State} (h : P s) : P (reportEntry isHeard s e) := by
  have heard : P (entryHeard e s) := by
    unfold entryHeard
    split
    · exact k.updateEntry _ _ _ h
    · exact k.acknowledged e (k.dropEntry _ _ h)
    all_goals exact h
  unfold Machine.reportEntry
  split
  iterate 2
    split
    · exact heard
    · exact k.attemptLost e h
  all_goals exact h

theorem reportFill (isHeard : SentAs → Bool) {s : State} (h : P s) : P (reportFill isHeard s) := by
  unfold Machine.reportFill
  split
  · exact h
  · dsimp only
    split
    · exact k.status _ _ (k.fill _ h)
    · exact k.fill _ h

theorem report (isHeard : SentAs → Bool) {s : State} (h : P s) : P (report isHeard s) :=
  foldl_keeps P waitOn (fun _ e ht => k.waitOn e ht) _ _ (k.reportFill _
    (foldl_keeps P (Machine.reportEntry isHeard) (fun _ e ht => k.reportEntry isHeard e ht) _ _ h))

end ReportKept

/-! ### The receiver and the scheduler after a report -/

/-- What a report leaves: of the receiver it may return the watch to FULL and mark the parked status; the cycle's
contention stands, and no event goes. -/
structure Reported (s t : State) : Prop where
  receiver : t.receiver = { s.receiver with
    watch := t.receiver.watch, sparseHeld := t.receiver.sparseHeld, expected := t.receiver.expected
    span := t.receiver.span, parkedStatus := t.receiver.parkedStatus }
  full : s.receiver.watch = .full →
    t.receiver.watch = .full ∧ t.receiver.expected = s.receiver.expected ∧ t.receiver.span = s.receiver.span
  unaimed : s.receiver.expected = none → t.receiver.expected = none
  contention : t.scheduler.contentionUsed = s.scheduler.contentionUsed
  told : ∀ k, Pending k s → Pending k t

theorem Reported.refl (s : State) : Reported s s := ⟨rfl, fun h => ⟨h, rfl, rfl⟩, id, rfl, fun _ => id⟩

theorem Reported.returnToFull {s t : State} (h : Reported s t) : Reported s (returnToFull t) := by
  unfold Machine.returnToFull
  split
  · exact h
  · rename_i sparse
    obtain ⟨receiver, full, unaimed, contention, told⟩ := h
    refine ⟨?_, fun hf => ?_, fun hn => ?_, contention, fun k hk => (mem_insertEvent ..).mpr (.inr (told k hk))⟩
    · simp only [raise, reaim]
      split <;> (rw [receiver])
    · exact absurd ((full hf).1.symm.trans sparse) (by decide)
    · simp [raise, reaim, unaimed hn]

theorem reportKept_reported (s : State) : ReportKept (Reported s) where
  queue _ _ _ _ h := ⟨h.receiver, h.full, h.unaimed, h.contention, h.told⟩
  results _ _ h := ⟨h.receiver, h.full, h.unaimed, h.contention, h.told⟩
  held _ _ h := ⟨by dsimp only; rw [h.receiver], h.full, h.unaimed, h.contention, h.told⟩
  full _ h := h.returnToFull
  board _ _ h := ⟨h.receiver, h.full, h.unaimed, h.contention, h.told⟩
  inbox _ _ h := ⟨h.receiver, h.full, h.unaimed, h.contention, h.told⟩
  accounts _ _ h := ⟨h.receiver, h.full, h.unaimed, h.contention, h.told⟩
  raise _ _ h := ⟨h.receiver, h.full, h.unaimed, h.contention, fun j hj => (mem_insertEvent ..).mpr (.inr (h.told j hj))⟩
  status _ _ h := ⟨by dsimp only [statusHeard]; rw [h.receiver], h.full, h.unaimed, h.contention, h.told⟩
  emergency _ _ h := ⟨h.receiver, h.full, h.unaimed, h.contention, h.told⟩
  writer _ _ h := ⟨h.receiver, h.full, h.unaimed, h.contention, h.told⟩
  fill _ h := ⟨h.receiver, h.full, h.unaimed, h.contention, h.told⟩

/-- On an empty queue a report is the fill record's. -/
theorem report_empty (isHeard : SentAs → Bool) {s : State} (h : s.scheduler.queue = []) :
    report isHeard s = reportFill isHeard s := by
  simp only [report, h, List.foldl_nil]

end Sys2Proof.Machine
end

section
/-! PROOFS. Headers taken and headers missed: what each makes of the receiver. -/

namespace Sys2Proof.Machine

/-! ### A header missed (R10, R41) -/

/-- Nothing is heard at a miss, so the fill record leaves the receiver. -/
theorem missReport_empty {s : State} (h : s.scheduler.queue = []) : (missReport s).receiver = s.receiver := by
  rw [missReport, report_empty _ h, reportFill]
  split
  · rfl
  · rw [if_neg (by simp)]

theorem missReport_emergency (s : State) : (missReport s).emergency = s.emergency :=
  AttemptKept.missReport (P := fun t => t.emergency = s.emergency)
    { queue := fun _ _ _ _ h => h, results := fun _ _ h => h, held := fun _ _ h => h
      full := fun t h => by
        obtain ⟨-, -, -, ⟨-, -, he⟩, -⟩ := returnToFull_frame t
        exact he.trans h
      board := fun _ _ h => h, inbox := fun _ _ h => h, accounts := fun _ _ h => h, raise := fun _ _ h => h }
    (fun _ h => h) rfl

/-- What the miss of a header expected at an instant leaves, before the search is told from the coast. -/
structure MissTold (p : Nat) (s u : State) : Prop where
  receiver : u.receiver = { missed p s.receiver with
    watch := u.receiver.watch, sparseHeld := u.receiver.sparseHeld, expected := u.receiver.expected
    span := u.receiver.span, parkedStatus := u.receiver.parkedStatus }
  full : s.receiver.watch = .full → u.receiver.watch = .full
  empty : s.scheduler.queue = [] → u.receiver = missed p s.receiver
  store : u.store = s.store

theorem missTold_told (p : Nat) (s : State) : MissTold p s (missTold p s) := by
  have reported : Reported { s with receiver := missed p s.receiver }
      (missReport { s with receiver := missed p s.receiver }) := (reportKept_reported _).report _ (.refl _)
  obtain ⟨-, ⟨-, -, store⟩, -⟩ := missReport_frame { s with receiver := missed p s.receiver }
  exact ⟨reported.receiver, fun h => (reported.full h).1,
    fun h => missReport_empty (s := { s with receiver := missed p s.receiver }) h, store⟩

theorem settleMiss_locked {u : State} (h : u.receiver.sync = .locked) :
    settleMiss u = setSync .coast (expectNext u) := by rw [settleMiss, if_pos h]

theorem settleMiss_coast {u : State} (h : u.receiver.sync ≠ .locked) (few : u.receiver.misses < 4) :
    settleMiss u = expectNext u := by
  rw [settleMiss, if_neg h, if_neg (by simpa [Config.missesToSearch] using few)]

theorem settleMiss_search {u : State} (h : u.receiver.sync ≠ .locked) (many : 4 ≤ u.receiver.misses) :
    settleMiss u = enterSearch u := by
  rw [settleMiss, if_neg h, if_pos many]

/-- The search that the fourth miss in a row begins, before grants are given up. -/
def searched (u : State) : State :=
  setSync .search { u with receiver := { u.receiver with
    searchSince := u.now, expected := none, slotMap := none, windowOpen := false, stretches := 0 } }

theorem enterSearch_reported (u : State) : Reported (searched u) (enterSearch u) :=
  (reportKept_reported _).giveUpGrants (.refl _)

/-- What a miss makes of the receiver in every case. -/
def Receiver.afterMiss (r : Receiver) := (r.slotMap, r.windowOpen, r.itemsOpen, r.misses, r.cycle, r.time, r.voice)

theorem Reported.afterMiss {s t : State} (h : Reported s t) : t.receiver.afterMiss = s.receiver.afterMiss := by
  rw [h.receiver]; rfl

theorem missLeft {p : Nat} {s u : State} (told : MissTold p s u) :
    (settleMiss u).receiver.afterMiss = (missed p s.receiver).afterMiss := by
  have hreported : u.receiver.afterMiss = (missed p s.receiver).afterMiss := by rw [told.receiver]; rfl
  by_cases locked : u.receiver.sync = .locked
  · rw [settleMiss_locked locked, setSync_receiver]
    exact hreported
  · by_cases many : 4 ≤ u.receiver.misses
    · rw [settleMiss_search locked many, (enterSearch_reported u).afterMiss, searched, setSync_receiver, ← hreported]
      have hshut : u.receiver.slotMap = none ∧ u.receiver.windowOpen = false := by
        rw [told.receiver]
        exact ⟨rfl, rfl⟩
      simp only [Receiver.afterMiss, hshut]
    · rw [settleMiss_coast locked (by omega)]
      exact hreported

/-- The next header expected, in FULL watch and in SPARSE watch. -/
theorem expectNext_full {u : State} (h : u.receiver.watch = .full) :
    (expectNext u).receiver.expected = some (u.receiver.cycleStart + 1200) ∧ (expectNext u).receiver.span = 1 := by
  simp [expectNext, predictedSpan, h, Config.cycleMs]

theorem expectNext_sparse {u : State} (h : u.receiver.watch = .sparse) :
    1 ≤ (expectNext u).receiver.span ∧ (expectNext u).receiver.span ≤ 8 ∧
      (u.receiver.cycle.getD 0 + (expectNext u).receiver.span) % 8 = u.store.working.address % 8 ∧
      (expectNext u).receiver.expected = some (u.receiver.cycleStart + (expectNext u).receiver.span * 1200) := by
  obtain ⟨least, most, listens⟩ := cyclesToListened_spec (u.receiver.cycle.getD 0) u.store.working.address
  simp only [expectNext, predictedSpan, h]
  exact ⟨least, most, listens, trivial⟩

/-- What is expected after a miss that does not end the tracking. -/
structure ExpectsNext (p : Nat) (s t : State) : Prop where
  address : t.receiver.listenAddress = s.store.working.address
  full : s.receiver.watch = .full → t.receiver.expected = some (p + 1200) ∧ t.receiver.span = 1
  sparse : s.receiver.watch = .sparse → s.scheduler.queue = [] →
    1 ≤ t.receiver.span ∧ t.receiver.span ≤ 8 ∧
      (t.receiver.cycle.getD 0 + t.receiver.span) % 8 = s.store.working.address % 8 ∧
      t.receiver.expected = some (p + t.receiver.span * 1200)

theorem MissTold.expects {p : Nat} {s u : State} (told : MissTold p s u) : ExpectsNext p s (expectNext u) := by
  have hstart : u.receiver.cycleStart = p := by rw [told.receiver]; rfl
  refine ⟨congrArg (fun x => x.working.address) told.store, fun full => ?_, fun sparse empty => ?_⟩
  · have := expectNext_full (told.full full)
    rwa [hstart] at this
  · have := expectNext_sparse (u := u) (by rw [told.empty empty]; exact sparse)
    rwa [hstart, told.store] at this

theorem ExpectsNext.setSync {p : Nat} {s t : State} (h : ExpectsNext p s t) (y : Sync) : ExpectsNext p s (setSync y t) := by
  refine ⟨?_, ?_, ?_⟩ <;> rw [setSync_receiver]
  · exact h.address
  · exact h.full
  · exact h.sparse

/-- Where tracking goes at a miss. -/
theorem settleMiss_cases {p : Nat} {s u : State} (told : MissTold p s u) (tracking : s.receiver.sync ≠ .search) :
    (s.receiver.sync = .locked ∧ (settleMiss u).receiver.sync = .coast ∧ Pending .link (settleMiss u) ∧
        ExpectsNext p s (settleMiss u)) ∨
      (s.receiver.sync = .coast ∧ s.receiver.misses + 1 < 4 ∧ (settleMiss u).receiver.sync = .coast ∧
        ExpectsNext p s (settleMiss u)) ∨
      (s.receiver.sync = .coast ∧ 4 ≤ s.receiver.misses + 1 ∧ (settleMiss u).receiver.sync = .search ∧
        (settleMiss u).receiver.expected = none ∧ (settleMiss u).receiver.searchSince = u.now ∧
        Pending .link (settleMiss u)) := by
  have hsync : u.receiver.sync = s.receiver.sync := by rw [told.receiver]; rfl
  have hmisses : u.receiver.misses = s.receiver.misses + 1 := by rw [told.receiver]; rfl
  have htold (y : Sync) (v : State) (h : v.receiver.sync ≠ y) : Pending .link (setSync y v) := by
    rw [setSync]
    dsimp only
    rw [if_neg h]
    exact (mem_insertEvent ..).mpr (.inl rfl)
  cases hs : s.receiver.sync with
  | search => exact absurd hs tracking
  | locked =>
    left
    rw [hs] at hsync
    rw [settleMiss_locked hsync]
    exact ⟨rfl, by rw [setSync_receiver], htold _ _ (by rw [show (expectNext u).receiver.sync = _ from hsync]; decide),
      told.expects.setSync .coast⟩
  | coast =>
    right
    rw [hs] at hsync
    have hnot : u.receiver.sync ≠ .locked := by rw [hsync]; decide
    by_cases many : 4 ≤ s.receiver.misses + 1
    · right
      rw [settleMiss_search hnot (by omega)]
      have hsearched := enterSearch_reported u
      refine ⟨rfl, many, ?_, hsearched.unaimed (by rw [searched, setSync_receiver]), ?_,
        hsearched.told _ (htold _ _ (by simp [hsync]))⟩
      · rw [hsearched.receiver, searched, setSync_receiver]
      · rw [hsearched.receiver, searched, setSync_receiver]
    · left
      rw [settleMiss_coast hnot (by omega)]
      exact ⟨rfl, by omega, hsync, told.expects⟩

/-- Settles O14. The window's commands are in closed form; a miss is `settleMiss` of the report, whose three ways are
those of `settleMiss_cases`. -/
theorem headerIsAwaitedAndMissed : Obligations.HeaderIsAwaitedAndMissed := by
  refine ⟨fun s p on aimed => ⟨exec_windowOpen on aimed, exec_windowStretch on aimed⟩,
    fun s p on aimed opened last tracking => ?_⟩
  have hexec := exec_missedHeader on aimed opened last
  have haimed : (advanceTo (p + 130) s).receiver.expected = some p := aimed
  rw [missHeader_expected _ p haimed] at hexec
  have hmiss := missHeader_frame (advanceTo (p + 130) s)
  rw [missHeader_expected _ p haimed] at hmiss
  obtain ⟨⟨-, hnow, -, -, hnonvolatile⟩, ⟨hlocator, hpanel, hstore⟩, hmeter⟩ := hmiss
  have told : MissTold p s (missTold p (advanceTo (p + 130) s)) := { missTold_told p (advanceTo (p + 130) s) with }
  have hthen : (missTold p (advanceTo (p + 130) s)).now = max s.now (p + 130) := by
    obtain ⟨⟨-, h, -⟩, -⟩ := missReport_frame { advanceTo (p + 130) s with
      receiver := missed p (advanceTo (p + 130) s).receiver }
    exact h
  have hemergency : (settleMiss (missTold p (advanceTo (p + 130) s))).emergency = s.emergency := by
    obtain ⟨-, -, -, -, h⟩ := settleMiss_frame (missTold p (advanceTo (p + 130) s))
    exact h.trans (missReport_emergency _)
  have hleft := missLeft told
  simp only [Receiver.afterMiss, Prod.mk.injEq] at hleft
  obtain ⟨hslots, hwindow, hitems, hmisses, hcycle, htime, hvoice⟩ := hleft
  refine ⟨_, hexec, hnow, hslots, hwindow, hitems, hmisses, hcycle, fun locked => ?_, fun coast few => ?_,
    fun coast many => ?_, fun tracked => ?_, htime, hvoice, hmeter, hlocator, hpanel, hstore, hemergency, hnonvolatile⟩
  all_goals rcases settleMiss_cases told tracking with
    ⟨hwas, hsync, hlink, hnext⟩ | ⟨hwas, hfew, hsync, hnext⟩ | ⟨hwas, hmany, hsync, hnone, hsince, hlink⟩
  · exact ⟨hsync, hlink⟩
  · simp [locked] at hwas
  · simp [locked] at hwas
  · exact hsync
  · exact hsync
  · omega
  · simp [coast] at hwas
  · omega
  · exact ⟨hsync, hnone, hsince.trans (hthen.trans hnow.symm), hlink⟩
  · exact ⟨hnext.address, hnext.full, hnext.sparse⟩
  · exact ⟨hnext.address, hnext.full, hnext.sparse⟩
  · rw [hsync] at tracked
    cases tracked

/-! ### A header taken (R3, R8) -/

/-- The state of a good header taken, before the report. -/
def headerLocked (g : GoodHeader) (s : State) : State := setSync .locked (headerTaken g s)

theorem headerLocked_receiver (g : GoodHeader) (s : State) :
    (headerLocked g s).receiver = { headed g s with sync := .locked } := setSync_receiver ..

theorem takeHeader_reported (g : GoodHeader) (s : State) : Reported (headerLocked g s) (takeHeader g s) :=
  (reportKept_reported _).report _ (.refl _)

/-- On an empty queue a header's report leaves of the receiver all but the parked status. -/
theorem reportFill_receiver (isHeard : SentAs → Bool) (s : State) : (reportFill isHeard s).receiver =
    { s.receiver with parkedStatus := (reportFill isHeard s).receiver.parkedStatus } := by
  unfold reportFill
  split
  · rfl
  · dsimp only
    split <;> rfl

theorem headerLocked_scheduler (g : GoodHeader) (s : State) :
    (headerLocked g s).scheduler = (headerTaken g s).scheduler := by
  obtain ⟨-, -, -, -, h⟩ := setSync_frame .locked (headerTaken g s)
  exact h

/-- What a header taken makes of the receiver, whatever the report does. -/
def Receiver.afterHeader (r : Receiver) :=
  (r.sync, r.cycleStart, r.windowOpen, r.misses, r.lastStretch, r.cycle, r.heard, r.listenAddress, r.cycleListened,
    r.nextSlot, r.itemCount, r.persistence, r.statusInterval, r.offersPaused, r.time, r.voice, r.slotMap, r.itemsOpen)

theorem takeHeader_receiver (g : GoodHeader) (s : State) :
    (takeHeader g s).receiver.afterHeader = { headed g s with sync := .locked }.afterHeader := by
  rw [(takeHeader_reported g s).receiver, headerLocked_receiver]
  rfl

theorem headerListened_iff (g : GoodHeader) (s : State) : headerListened g s = true ↔
    g.cycle % 8 = (if s.receiver.sync = .search then s.store.working.address else s.receiver.listenAddress) % 8 := by
  simp [headerListened, listened]

/-- Settles O11. The header taken makes the receiver `headed`, and the report leaves it but for the watch and the parked
status; on the empty queue of SPARSE watch it leaves the watch too. -/
theorem goodHeaderIsTaken : Obligations.GoodHeaderIsTaken := by
  intro h s on good searching address
  obtain ⟨slots, hslots, hexec⟩ := exec_cycleHeader_taken on good searching
  have hreported := takeHeader_reported (goodOf h slots) s
  have hreceiver := takeHeader_receiver (goodOf h slots) s
  simp only [Receiver.afterHeader, Prod.mk.injEq] at hreceiver
  obtain ⟨hsync, hstart, hwindow, hmisses, hstretch, hcycle, hheard, haddress, hlistened, hnext, hcount, hpersistence,
    hinterval, hpaused, htime, hvoice, hmap, hitems⟩ := hreceiver
  obtain ⟨⟨-, hnow, -, -, hnonvolatile⟩, ⟨hlocator, hpanel, hstore⟩, hmeter⟩ := takeHeader_frame (goodOf h slots) s
  refine ⟨_, hexec, hnow, hsync, fun change => ?link, hstart, hwindow, hmisses, hstretch, hcycle, hheard, haddress, ?listens,
    fun full => ?full, fun sparse empty => ?sparse, hnext, hcount, ?persistence, ?interval, hpaused, htime, hvoice, ?contention, hmeter, hlocator,
    hpanel, hstore, hnonvolatile⟩
  case listens =>
    rw [hlistened]
    exact headerListened_iff (goodOf h slots) s
  case persistence =>
    rw [hpersistence]
    change correctedPersistence h.persistence = _
    unfold correctedPersistence
    (repeat' split) <;> omega
  case interval =>
    rw [hinterval]
    change correctedInterval h.statusInterval = _
    unfold correctedInterval
    (repeat' split) <;> omega
  case contention =>
    rw [hreported.contention, headerLocked_scheduler]
    rfl
  case link =>
    refine hreported.told _ ?_
    rw [headerLocked, setSync]
    dsimp only
    rw [if_neg (show ¬ (headerTaken (goodOf h slots) s).receiver.sync = .locked from change)]
    exact (mem_insertEvent ..).mpr (.inl rfl)
  case full =>
    obtain ⟨hwatch, hexpected, hspan⟩ := hreported.full (by rw [headerLocked_receiver]; exact full)
    rw [headerLocked_receiver] at hexpected hspan
    refine ⟨hwatch, ?_, ?_, ⟨slots, ?_, hslots⟩, ?_⟩
    · rw [hexpected]
      simp [headed, anchored, predictedSpan, full, Config.cycleMs]
    · rw [hspan]
      simp [headed, anchored, predictedSpan, full]
    · rw [hmap]
      simp [headed, anchored, installedMap, full, goodOf]
    · rw [hitems]
      simp [headed, anchored, installedMap, full]
  case sparse =>
    have hfill : (takeHeader (goodOf h slots) s).receiver = { headed (goodOf h slots) s with
        sync := .locked, parkedStatus := (takeHeader (goodOf h slots) s).receiver.parkedStatus } := by
      have hempty : (headerLocked (goodOf h slots) s).scheduler.queue = [] := by
        rw [headerLocked_scheduler]; exact empty
      have : takeHeader (goodOf h slots) s = reportFill (inHeardList
          (((goodOf h slots).cycle + (Config.cycleNumbers - 1)) % Config.cycleNumbers) (goodOf h slots).heard)
          (headerLocked (goodOf h slots) s) := report_empty _ hempty
      rw [this, reportFill_receiver, headerLocked_receiver]
    obtain ⟨least, most, listens⟩ := cyclesToListened_spec h.cycle s.store.working.address
    have hspan : (takeHeader (goodOf h slots) s).receiver.span = cyclesToListened h.cycle s.store.working.address := by
      rw [hfill]
      simp [headed, anchored, predictedSpan, sparse, goodOf]
    have hmapped : installedMap (goodOf h slots) s =
        if h.cycle % 8 = address % 8 then some slots else none := by
      simp only [installedMap, sparse, headerListened_iff]
      rfl
    refine ⟨by rw [hfill]; exact sparse, ?_, ?_, ?_, ?_, fun listened => ⟨⟨slots, ?_, hslots⟩, ?_⟩,
      fun unlistened => ⟨?_, ?_⟩⟩
    · rw [hspan]; exact least
    · rw [hspan]; exact most
    · rw [hspan]; exact listens
    · rw [hspan, hfill]
      simp [headed, anchored, predictedSpan, sparse, goodOf, Config.cycleMs]
    · rw [hmap]
      exact hmapped.trans (if_pos listened)
    · rw [hitems]
      exact congrArg Option.isSome (hmapped.trans (if_pos listened))
    · rw [hmap]
      exact hmapped.trans (if_neg unlistened)
    · rw [hitems]
      exact congrArg Option.isSome (hmapped.trans (if_neg unlistened))

end Sys2Proof.Machine
end

section
/-! PROOFS. The reports that answer the transmissions: how one entry of the queue fares while the others are answered. -/

namespace Sys2Proof.Machine

/-! ### One entry among the others -/

/-- An entry stands in the queue, and no other of its kind and key. -/
def Alone (x : Entry) (s : State) : Prop :=
  x ∈ s.scheduler.queue ∧ ∀ y ∈ s.scheduler.queue, y.kind = x.kind → y.key = x.key → y = x

/-- No entry of a kind and key stands in the queue. -/
def Absent (kind : EntryKind) (key : Nat) (s : State) : Prop :=
  ∀ y ∈ s.scheduler.queue, ¬(y.kind = kind ∧ y.key = key)

/-- The queue gains entries alone: RECEIPTs and STATUSes of which none stood. -/
structure Adds (s t : State) : Prop where
  keeps : ∀ e ∈ s.scheduler.queue, e ∈ t.scheduler.queue
  news : ∀ e ∈ t.scheduler.queue,
    e ∈ s.scheduler.queue ∨ (e.kind = .receipt ∨ e.kind = .status) ∧ Absent e.kind e.key s

namespace Adds

theorem of_queue {s t : State} (h : t.scheduler.queue = s.scheduler.queue) : Adds s t :=
  ⟨fun _ he => h ▸ he, fun _ he => .inl (h ▸ he)⟩

theorem of_scheduler {s t : State} (h : t.scheduler = s.scheduler) : Adds s t := of_queue (by rw [h])

theorem refl (s : State) : Adds s s := of_queue rfl

theorem trans {s t u : State} (a : Adds s t) (b : Adds t u) : Adds s u where
  keeps e he := b.keeps e (a.keeps e he)
  news e he := (b.news e he).elim (a.news e) fun ⟨hk, hnone⟩ => .inr ⟨hk, fun y hy => hnone y (a.keeps y hy)⟩

/-- What is added to a state with the same queue. -/
theorem after {s t u : State} (h : Adds t u) (queue : t.scheduler.queue = s.scheduler.queue) : Adds s u :=
  (of_queue queue).trans h

theorem placeEntry (kind : EntryKind) (key : Nat) (content : EntryContent) (deadline : Option Nat) (s : State)
    (h : kind = .receipt ∨ kind = .status) : Adds s (placeEntry kind key content deadline s) := by
  rcases placeEntry_cases kind key content deadline s with ⟨hplaced, hs, -⟩ | ⟨-, hs⟩
  · have hnone : Absent kind key s := by
      unfold placementOf at hplaced
      split at hplaced
      · cases hplaced
      · rename_i hany
        intro y hy hsame
        exact hany (List.any_eq_true.mpr ⟨y, hy, by simp [Entry.is, hsame]⟩)
    refine ⟨fun e he => ?_, fun e he => ?_⟩
    · rw [hs]
      exact (mem_insertEntry ..).mpr (.inr he)
    · rw [hs] at he
      rcases (mem_insertEntry ..).mp he with rfl | he
      · exact .inr ⟨h, hnone⟩
      · exact .inl he
  · rw [hs]
    exact refl s

theorem generateStatus (s : State) : Adds s (generateStatus s) := by
  unfold Machine.generateStatus
  split
  · exact placeEntry _ _ _ _ _ (.inr rfl)
  · split
    · exact of_queue rfl
    all_goals exact refl s

theorem closeOffer (n : Nat) (outcome : OfferOutcome) (s : State) : Adds s (closeOffer n outcome s) := by
  unfold Machine.closeOffer
  split
  · exact refl s
  · split
    · obtain ⟨-, -, -, ⟨-, hs⟩, -⟩ := refilter_frame (Machine.generateStatus (closeOnly n outcome s))
      exact ((generateStatus (closeOnly n outcome s)).after (s := s) rfl).trans (of_scheduler hs)
    · exact of_queue rfl

theorem claimEnds (n : Nat) (outcome : OfferOutcome) (s : State) : Adds s (claimEnds n outcome s) := by
  unfold Machine.claimEnds
  split
  · exact refl s
  · split
    · exact closeOffer ..
    · exact refl s

theorem claimHeard (n : Nat) (s : State) : Adds s (claimHeard n s) := by
  unfold Machine.claimHeard
  split
  · exact refl s
  · split
    · dsimp only
      split
      · exact (closeOffer ..).after rfl
      · exact of_queue rfl
    · exact refl s

theorem placeReceipt (m : Message) (s : State) : Adds s (placeReceipt m s) := by
  unfold Machine.placeReceipt
  split
  · exact (placeEntry _ _ _ _ _ (.inl rfl)).after rfl
  all_goals exact refl s

theorem placeReceipts (s : State) : Adds s (placeReceipts s) :=
  foldl_keeps (Adds s) _ (fun t m ht => ht.trans (placeReceipt m t)) _ s (refl s)

theorem acknowledged (e : Entry) (s : State) : Adds s (acknowledged e s) := by
  unfold Machine.acknowledged
  split
  · exact claimHeard ..
  · exact (placeReceipts _).after rfl
  · unfold tripReported
    split <;> exact of_queue rfl
  · unfold reportHeard
    split <;> exact of_queue rfl
  · exact of_queue rfl
  · exact of_queue rfl
  · unfold placeRegeneration
    split
    · exact (placeEntry _ _ _ _ _ (.inr rfl)).after rfl
    · exact of_queue rfl
  · exact refl s

theorem failed (e : Entry) (s : State) : Adds s (failed e s) := by
  unfold Machine.failed
  split
  · exact claimEnds ..
  · exact (placeReceipts _).after rfl
  all_goals exact of_queue rfl

end Adds

/-- What happens beside an entry leaves it, and brings no entry of its kind and key where none stood. -/
structure Beside (kind : EntryKind) (key : Nat) (s t : State) : Prop where
  alone : ∀ x, x.kind = kind → x.key = key → Alone x s → Alone x t
  absent : kind ≠ .receipt → kind ≠ .status → Absent kind key s → Absent kind key t

namespace Beside

variable {kind : EntryKind} {key : Nat}

theorem refl (s : State) : Beside kind key s s := ⟨fun _ _ _ h => h, fun _ _ h => h⟩

theorem trans {s t u : State} (a : Beside kind key s t) (b : Beside kind key t u) : Beside kind key s u :=
  ⟨fun x hk hy h => b.alone x hk hy (a.alone x hk hy h), fun hr hs h => b.absent hr hs (a.absent hr hs h)⟩

theorem of_adds {s t : State} (h : Adds s t) : Beside kind key s t where
  alone x _ _ hx := ⟨h.keeps x hx.1, fun y hy hk hn => by
    rcases h.news y hy with hy | ⟨-, hnone⟩
    · exact hx.2 y hy hk hn
    · exact absurd ⟨hk.symm, hn.symm⟩ (hnone x hx.1)⟩
  absent hr hs hx y hy hsame := by
    rcases h.news y hy with hy | ⟨hk, -⟩
    · exact hx y hy hsame
    · rw [hsame.1] at hk
      exact hk.elim hr hs

theorem of_queue {s t : State} (h : t.scheduler.queue = s.scheduler.queue) : Beside kind key s t := of_adds (.of_queue h)

theorem dropEntry {k : EntryKind} {n : Nat} (other : ¬(k = kind ∧ n = key)) (s : State) :
    Beside kind key s (dropEntry k n s) where
  alone x hk hn hx := ⟨List.mem_filter.mpr ⟨hx.1, by
      simp only [Entry.is, Bool.not_eq_true', Bool.and_eq_false_iff, beq_eq_false_iff_ne]
      by_contra hsame
      simp only [not_or, not_not] at hsame
      exact other ⟨hsame.1.symm.trans hk, hsame.2.symm.trans hn⟩⟩,
    fun y hy => hx.2 y (List.mem_of_mem_filter hy)⟩
  absent _ _ hx y hy := hx y (List.mem_of_mem_filter hy)

theorem updateEntry {k : EntryKind} {n : Nat} {f : Entry → Entry} (other : ¬(k = kind ∧ n = key))
    (same : ∀ e, (f e).kind = e.kind ∧ (f e).key = e.key) (s : State) : Beside kind key s (updateEntry k n f s) := by
  have hstays (y : Entry) (hk : y.kind = kind) (hn : y.key = key) : (if y.is k n then f y else y) = y := by
    rw [if_neg]
    simp only [Entry.is, Bool.and_eq_true, beq_iff_eq]
    rintro ⟨h1, h2⟩
    exact other ⟨h1.symm.trans hk, h2.symm.trans hn⟩
  have hpair (y : Entry) : (if y.is k n then f y else y).kind = y.kind ∧ (if y.is k n then f y else y).key = y.key := by
    split
    · exact same y
    · exact ⟨rfl, rfl⟩
  refine ⟨fun x hk hn hx => ⟨List.mem_map.mpr ⟨x, hx.1, hstays x hk hn⟩, fun y hy h1 h2 => ?_⟩, fun _ _ hx y hy hsame => ?_⟩
  · obtain ⟨z, hz, rfl⟩ := List.mem_map.mp hy
    rw [(hpair z).1] at h1
    rw [(hpair z).2] at h2
    rw [hstays z (h1.trans hk) (h2.trans hn)]
    exact hx.2 z hz h1 h2
  · obtain ⟨z, hz, rfl⟩ := List.mem_map.mp hy
    exact hx z hz ⟨(hpair z).1.symm.trans hsame.1, (hpair z).2.symm.trans hsame.2⟩

theorem attemptLost {e : Entry} (other : ¬(e.kind = kind ∧ e.key = key)) (s : State) :
    Beside kind key s (attemptLost e s) := by
  have waits (n : Nat) :
      Beside kind key s (clearSlotReq e.kind e.key (Machine.updateEntry e.kind e.key (backToWaiting n) s)) :=
    (updateEntry (f := backToWaiting n) other (fun _ => ⟨rfl, rfl⟩) s).trans (of_queue rfl)
  unfold Machine.attemptLost
  dsimp only
  split
  · exact updateEntry other (by exact fun _ => ⟨rfl, rfl⟩) s
  · split
    · exact (dropEntry other s).trans (of_adds (.failed e _))
    · split
      · rename_i hclaim
        rw [hclaim.1] at other
        exact ((waits _).trans (dropEntry other _)).trans (of_adds (.claimEnds ..))
      · split
        · exact (waits _).trans (of_queue rfl)
        · exact waits _

theorem reportEntry (isHeard : SentAs → Bool) {e : Entry} (other : ¬(e.kind = kind ∧ e.key = key)) (s : State) :
    Beside kind key s (reportEntry isHeard s e) := by
  have heard : Beside kind key s (entryHeard e s) := by
    unfold entryHeard
    split
    · exact updateEntry other (by exact fun _ => ⟨rfl, rfl⟩) s
    · exact (dropEntry other s).trans (of_adds (.acknowledged e _))
    all_goals exact refl s
  unfold Machine.reportEntry
  split
  iterate 2
    split
    · exact heard
    · exact attemptLost other s
  all_goals exact refl s

theorem waitOn {e : Entry} (other : ¬(e.kind = kind ∧ e.key = key)) (s : State) : Beside kind key s (waitOn s e) := by
  unfold Machine.waitOn
  split
  · split
    · exact attemptLost other s
    · exact updateEntry other (by exact fun _ => ⟨rfl, rfl⟩) s
  · exact refl s

theorem reportFill (isHeard : SentAs → Bool) (s : State) : Beside kind key s (reportFill isHeard s) := by
  unfold Machine.reportFill
  split
  · exact refl s
  · dsimp only
    split <;> exact of_queue rfl

theorem foldl {α : Type} {g : State → α → State} {l : List α} (h : ∀ a ∈ l, ∀ s, Beside kind key s (g s a)) (s : State) :
    Beside kind key s (l.foldl g s) := by
  induction l generalizing s with
  | nil => exact refl s
  | cons a l ih => exact (h a (.head _) s).trans (ih (fun b hb => h b (.tail _ hb)) _)

end Beside

/-- What happens beside an entry keeps a property of it. -/
abbrev KeptBeside (kind : EntryKind) (key : Nat) (P : State → Prop) : Prop := ∀ s t, Beside kind key s t → P s → P t

theorem Alone.kept (x : Entry) : KeptBeside x.kind x.key (Alone x) := fun _ _ h => h.alone x rfl rfl

theorem Absent.kept {kind : EntryKind} {key : Nat} (hr : kind ≠ .receipt) (hs : kind ≠ .status) :
    KeptBeside kind key (Absent kind key) := fun _ _ h => h.absent hr hs

theorem Alone.kept' {x : Entry} {kind : EntryKind} {key : Nat} (hk : x.kind = kind) (hn : x.key = key) :
    KeptBeside kind key (Alone x) := fun _ _ h => h.alone x hk hn

/-- A report as one entry of a queue of distinct items meets it: its own answer, and then its own wait. -/
theorem report_meets (isHeard : SentAs → Bool) {s : State} {e : Entry} {P Q R : State → Prop}
    (distinct : (s.scheduler.queue.map fun e => (e.kind, e.key)).Nodup) (he : e ∈ s.scheduler.queue)
    (keptP : KeptBeside e.kind e.key P) (keptQ : KeptBeside e.kind e.key Q) (keptR : KeptBeside e.kind e.key R)
    (answer : ∀ u, P u → Q (reportEntry isHeard u e)) (wait : ∀ u, Q u → R (waitOn u e)) (start : P s) :
    R (report isHeard s) := by
  obtain ⟨l, m, hqueue⟩ := List.append_of_mem he
  rw [hqueue, List.map_append, List.map_cons, List.nodup_middle, List.nodup_cons, List.mem_append, not_or] at distinct
  obtain ⟨⟨hl, hm⟩, -⟩ := distinct
  have other {k : List Entry} (h : (e.kind, e.key) ∉ k.map fun e => (e.kind, e.key)) :
      ∀ a ∈ k, ¬(a.kind = e.kind ∧ a.key = e.key) := fun a ha hsame =>
    h (List.mem_map.mpr ⟨a, ha, by rw [hsame.1, hsame.2]⟩)
  have answered : Q (s.scheduler.queue.foldl (reportEntry isHeard) s) := by
    rw [hqueue, List.foldl_append, List.foldl_cons]
    exact keptQ _ _ (.foldl (fun a ha u => .reportEntry isHeard (other hm a ha) u) _) (answer _
      (keptP _ _ (.foldl (fun a ha u => .reportEntry isHeard (other hl a ha) u) s) start))
  have filled := keptQ _ _ (.reportFill isHeard _) answered
  change R (s.scheduler.queue.foldl waitOn _)
  rw [hqueue] at filled ⊢
  rw [List.foldl_append, List.foldl_cons]
  exact keptR _ _ (.foldl (fun a ha u => .waitOn (other hm a ha) u) _) (wait _
    (keptQ _ _ (.foldl (fun a ha u => .waitOn (other hl a ha) u) _) filled))

/-! ### An entry's own answer -/

theorem alone_of_distinct {s : State} {e : Entry}
    (distinct : (s.scheduler.queue.map fun e => (e.kind, e.key)).Nodup) (he : e ∈ s.scheduler.queue) : Alone e s :=
  ⟨he, fun _ hy hk hn => List.inj_on_of_nodup_map distinct hy he (by rw [hk, hn])⟩

theorem Alone.updateEntry {e : Entry} {s : State} (h : Alone e s) (f : Entry → Entry)
    (same : ∀ e, (f e).kind = e.kind ∧ (f e).key = e.key) : Alone (f e) (updateEntry e.kind e.key f s) := by
  refine ⟨List.mem_map.mpr ⟨e, h.1, if_pos (by simp [Entry.is])⟩, fun y hy hk hn => ?_⟩
  obtain ⟨z, hz, rfl⟩ := List.mem_map.mp hy
  by_cases hz' : z.is e.kind e.key = true
  · rw [if_pos hz'] at hk hn ⊢
    rw [(same z).1, (same e).1] at hk
    rw [(same z).2, (same e).2] at hn
    rw [h.2 z hz hk hn]
  · rw [if_neg hz'] at hk hn
    rw [(same e).1] at hk
    rw [(same e).2] at hn
    simp [Entry.is, hk, hn] at hz'

/-- An attempt lost that is neither the last, nor a CLAIM's, makes the entry wait again. -/
theorem Alone.attemptLost {e : Entry} {s : State} (h : Alone e s) (few : e.attempts + 1 < 5) (hclaim : e.kind ≠ .claim)
    (hemergency : e.kind ≠ .emergency) : Alone (backToWaiting (e.attempts + 1) e) (attemptLost e s) := by
  have again := h.updateEntry (backToWaiting (e.attempts + 1)) fun _ => ⟨rfl, rfl⟩
  simp only [Machine.attemptLost, if_neg hemergency, Config.maxAttempts, if_neg (show ¬ e.attempts + 1 ≥ 5 by omega),
    if_neg fun hc : e.kind = .claim ∧ _ => hclaim hc.1]
  split <;> exact again

/-- The EMERGENCY entry waits again, with attempts at most at five. -/
theorem Alone.attemptLost_emergency {e : Entry} {s : State} (h : Alone e s) (hemergency : e.kind = .emergency) :
    Alone (backToWaiting (min 5 (e.attempts + 1)) e) (Machine.attemptLost e s) := by
  simp only [Machine.attemptLost, if_pos hemergency]
  exact h.updateEntry (backToWaiting (min 5 (e.attempts + 1))) fun _ => ⟨rfl, rfl⟩

theorem absent_dropEntry (kind : EntryKind) (key : Nat) (s : State) : Absent kind key (dropEntry kind key s) := by
  intro y hy hsame
  have := (List.mem_filter.mp hy).2
  simp [Entry.is, hsame] at this

end Sys2Proof.Machine
end

section
/-! PROOFS. The header report and the miss report: what each kind's transmission comes to. -/

namespace Sys2Proof.Machine

/-! ### What a header hears (R34) -/

theorem inHeardList_iff (cycle : Nat) (heard : List HeardPair) (x : SentAs) (h : cycle ≤ 4095) :
    inHeardList ((cycle + (Config.cycleNumbers - 1)) % Config.cycleNumbers) heard x = true ↔
      x.cycle < 4096 ∧ cycle = (x.cycle + 1) % 4096 ∧ ⟨x.slot, x.address⟩ ∈ heard := by
  simp only [inHeardList, Config.cycleNumbers, Bool.and_eq_true, beq_iff_eq, List.contains_iff_mem]
  rw [← and_assoc]
  refine and_congr_left' ⟨fun h => ?_, fun h => ?_⟩ <;> omega

section
variable (isHeard : SentAs → Bool) (s : State) (e : Entry)

/-- The answer to an entry transmitted. -/
theorem reportEntry_sent (x : SentAs) (h : e.state = .sent) (hx : e.sentAs = some x) :
    reportEntry isHeard s e =
      if isHeard x then acknowledged e (dropEntry e.kind e.key s) else attemptLost e s := by
  simp [reportEntry, entryHeard, h, hx]

theorem reportEntry_requesting (x : SentAs) (h : e.state = .requesting) (hx : e.sentAs = some x) :
    reportEntry isHeard s e =
      if isHeard x then updateEntry e.kind e.key
        (fun x => { x with state := .awaitGrant, sentAs := none, grantWait := some 1 }) s
      else attemptLost e s := by
  simp [reportEntry, entryHeard, h, hx]

theorem reportEntry_unheard (x : SentAs) (h : e.state = .sent ∨ e.state = .requesting) (hx : e.sentAs = some x)
    (unheard : isHeard x = false) : reportEntry isHeard s e = attemptLost e s := by
  rcases h with h | h
  · rw [reportEntry_sent isHeard s e x h hx, if_neg (by simp [unheard])]
  · rw [reportEntry_requesting isHeard s e x h hx, if_neg (by simp [unheard])]

theorem reportEntry_other (h : e.state = .waiting ∨ e.state = .awaitGrant) : reportEntry isHeard s e = s := by
  rcases h with h | h <;> simp [reportEntry, h]

theorem waitOn_other (h : e.state ≠ .awaitGrant) : waitOn s e = s := by
  unfold waitOn
  split
  · contradiction
  · rfl

end

/-! ### The entries of a queue of distinct items -/

section
variable {isHeard : SentAs → Bool} {s : State} {e : Entry}
  (distinct : (s.scheduler.queue.map fun e => (e.kind, e.key)).Nodup) (he : e ∈ s.scheduler.queue)
include distinct he

/-- An entry that does not wait for a grant is after the report what its own answer makes of it. -/
theorem report_alone {x : Entry} (hk : x.kind = e.kind) (hn : x.key = e.key) (hgrant : e.state ≠ .awaitGrant)
    (answer : ∀ u, Alone e u → Alone x (reportEntry isHeard u e)) : Alone x (report isHeard s) :=
  report_meets isHeard distinct he (Alone.kept e) (Alone.kept' hk hn) (Alone.kept' hk hn) answer
    (fun u hu => by rwa [waitOn_other u e hgrant]) (alone_of_distinct distinct he)

theorem report_heard (x : SentAs) (hx : e.sentAs = some x) (hs : e.state = .sent) (heard : isHeard x = true)
    (hr : e.kind ≠ .receipt) (hstatus : e.kind ≠ .status) : Absent e.kind e.key (report isHeard s) := by
  refine report_meets isHeard distinct he (Alone.kept e) (Absent.kept hr hstatus) (Absent.kept hr hstatus)
    (fun u _ => ?_) (fun u hu => by rwa [waitOn_other u e (by simp [hs])]) (alone_of_distinct distinct he)
  rw [reportEntry_sent isHeard u e x hs hx, if_pos heard]
  exact (Beside.of_adds (.acknowledged e _)).absent hr hstatus (absent_dropEntry _ _ _)

theorem report_requested (x : SentAs) (hx : e.sentAs = some x) (hs : e.state = .requesting) (heard : isHeard x = true) :
    Alone { e with state := .awaitGrant, sentAs := none, grantWait := some 1 } (report isHeard s) := by
  refine report_alone distinct he rfl rfl (by simp [hs]) fun u hu => ?_
  rw [reportEntry_requesting isHeard u e x hs hx, if_pos heard]
  exact hu.updateEntry (fun x => { x with state := .awaitGrant, sentAs := none, grantWait := some 1 })
    fun _ => ⟨rfl, rfl⟩

theorem report_unheard (x : SentAs) (hx : e.sentAs = some x) (hs : e.state = .sent ∨ e.state = .requesting)
    (unheard : isHeard x = false) :
    (e.kind = .emergency → Alone (backToWaiting (min 5 (e.attempts + 1)) e) (report isHeard s)) ∧
      (e.kind ≠ .emergency → e.kind ≠ .claim → e.attempts + 1 < 5 →
        Alone (backToWaiting (e.attempts + 1) e) (report isHeard s)) := by
  have hgrant : e.state ≠ .awaitGrant := by rcases hs with hs | hs <;> simp [hs]
  refine ⟨fun hk => report_alone distinct he rfl rfl hgrant fun u hu => ?_,
    fun hk hclaim few => report_alone distinct he rfl rfl hgrant fun u hu => ?_⟩
  · rw [reportEntry_unheard isHeard u e x hs hx unheard]
    exact hu.attemptLost_emergency hk
  · rw [reportEntry_unheard isHeard u e x hs hx unheard]
    exact hu.attemptLost few hclaim hk

theorem report_waits (w : Nat) (hs : e.state = .awaitGrant) (hw : e.grantWait = some w) (long : e.kind.long = true) :
    (w < 6 → Alone { e with grantWait := some (w + 1) } (report isHeard s)) ∧
      (6 ≤ w → e.attempts + 1 < 5 → Alone (backToWaiting (e.attempts + 1) e) (report isHeard s)) := by
  have hclaim : e.kind ≠ .claim := fun h => by simp [h, EntryKind.long] at long
  have hemergency : e.kind ≠ .emergency := fun h => by simp [h, EntryKind.long] at long
  have meets {x : Entry} (hk : x.kind = e.kind) (hn : x.key = e.key) (wait : ∀ u, Alone e u → Alone x (waitOn u e)) :
      Alone x (report isHeard s) :=
    report_meets isHeard distinct he (Alone.kept e) (Alone.kept e) (Alone.kept' hk hn)
      (fun u hu => by rwa [reportEntry_other isHeard u e (.inr hs)]) wait (alone_of_distinct distinct he)
  refine ⟨fun low => meets rfl rfl fun u hu => ?_, fun high few => meets rfl rfl fun u hu => ?_⟩
  · have hwait : waitOn u e = updateEntry e.kind e.key (fun x => { x with grantWait := some (w + 1) }) u := by
      simp only [waitOn, hs, hw, Config.maxGrantWait, if_neg (show ¬ w ≥ 6 by omega)]
    rw [hwait]
    exact hu.updateEntry (fun x => { x with grantWait := some (w + 1) }) fun _ => ⟨rfl, rfl⟩
  · have hwait : waitOn u e = attemptLost e u := by
      simp only [waitOn, hs, hw, Config.maxGrantWait, if_pos (show w ≥ 6 by omega)]
    rw [hwait]
    exact hu.attemptLost few hclaim hemergency

theorem report_stands (hs : e.state = .waiting) : Alone e (report isHeard s) :=
  report_alone distinct he rfl rfl (by simp [hs]) fun u hu => by rwa [reportEntry_other isHeard u e (.inl hs)]

end

/-! ### The fill record (R35) -/

theorem reportKept_fill : ReportKept fun t => t.scheduler.fill = none where
  queue _ _ _ _ h := h
  results _ _ h := h
  held _ _ h := h
  full t h := by
    obtain ⟨-, -, -, -, hs⟩ := returnToFull_frame t
    rw [hs]; exact h
  board _ _ h := h
  inbox _ _ h := h
  accounts _ _ h := h
  raise _ _ h := h
  status _ _ h := h
  emergency _ _ h := h
  writer _ _ h := h
  fill _ _ := rfl

theorem reportFill_fill (isHeard : SentAs → Bool) (s : State) : (reportFill isHeard s).scheduler.fill = none := by
  unfold reportFill
  split
  · assumption
  · dsimp only
    split <;> rfl

theorem report_fill (isHeard : SentAs → Bool) (s : State) : (report isHeard s).scheduler.fill = none :=
  foldl_keeps (fun t => t.scheduler.fill = none) waitOn (fun _ e ht => reportKept_fill.waitOn e ht) _ _
    (reportFill_fill isHeard _)

/-! ### One entry alone -/

/-- On a queue of one entry, transmitted, and with no fill record, the report is that entry's answer. -/
theorem report_single {isHeard : SentAs → Bool} {s : State} {e : Entry} {x : SentAs} (queue : s.scheduler.queue = [e])
    (fill : s.scheduler.fill = none) (hs : e.state = .sent) (hx : e.sentAs = some x) :
    report isHeard s = if isHeard x then acknowledged e (dropEntry e.kind e.key s) else attemptLost e s := by
  have hanswer := reportEntry_sent isHeard s e x hs hx
  have hfill : (reportEntry isHeard s e).scheduler.fill = none := reportKept_fill.reportEntry isHeard e fill
  have hnone : reportFill isHeard (reportEntry isHeard s e) = reportEntry isHeard s e := by
    simp only [reportFill, hfill]
  simp only [report, queue, List.foldl_cons, List.foldl_nil, hnone]
  rw [waitOn_other _ e (by simp [hs]), hanswer]

theorem dropEntry_single {s : State} {e : Entry} (queue : s.scheduler.queue = [e]) :
    (dropEntry e.kind e.key s).scheduler.queue = [] := by
  simp [queue, Entry.is]

theorem updateEntry_single {s : State} {e : Entry} (queue : s.scheduler.queue = [e]) (f : Entry → Entry) :
    (updateEntry e.kind e.key f s).scheduler.queue = [f e] := by
  simp [updateEntry, queue, Entry.is]

/-! ### The effects of each kind (R36, R78, R82, R126, R127, R147, R161) -/

theorem findOffer_of_claiming {n : Nat} {s : State} {o : Offer} (h : findOffer n s = some o) (ho : o.state = .claiming)
    (outcome : OfferOutcome) : claimEnds n outcome s = closeOnly n outcome s := by
  simp only [claimEnds, h, if_pos ho]
  exact closeOffer_of_ne_awarded n outcome s o h (by simp [ho])

/-- The end of a claim leaves the queue. -/
theorem claimEnds_scheduler (n : Nat) (outcome : OfferOutcome) (s : State) :
    (claimEnds n outcome s).scheduler = s.scheduler := by
  cases h : findOffer n s with
  | none => simp only [claimEnds, h]
  | some o =>
    by_cases ho : o.state = .claiming
    · rw [findOffer_of_claiming h ho]
      rfl
    · simp only [claimEnds, h, if_neg ho]

/-- A CLAIM heard makes its entry await the award, or close where the answer is overdue. -/
theorem claimHeard_claiming {n : Nat} {s : State} {o : Offer} (h : findOffer n s = some o) (ho : o.state = .claiming) :
    claimHeard n s =
      if noAnswerMs o ≤ s.now then closeOnly n .noAnswer (updateOffer n (fun o => { o with state := .awaitingAward }) s)
      else updateOffer n (fun o => { o with state := .awaitingAward }) s := by
  have hfind : findOffer n (updateOffer n (fun o => { o with state := .awaitingAward }) s) =
      some { o with state := .awaitingAward } := findOffer_updateOffer h fun _ => rfl
  have hclose := closeOffer_of_ne_awarded n .noAnswer _ _ hfind (by simp)
  simp only [claimHeard, h, if_pos ho]
  rw [hclose]
  rfl

theorem claimHeard_scheduler (n : Nat) (s : State) : (claimHeard n s).scheduler = s.scheduler := by
  cases h : findOffer n s with
  | none => simp only [claimHeard, h]
  | some o =>
    by_cases ho : o.state = .claiming
    · rw [claimHeard_claiming h ho]
      split <;> rfl
    · simp only [claimHeard, h, if_neg ho]

/-- The record of a number after its receipt is settled and receipts are placed. -/
theorem findMessage_placeReceipts {n : Nat} {f : Message → Message} {s u : State} {m : Message}
    (number : ∀ m, (f m).number = m.number) (distinct : (s.inbox.messages.map (·.number)).Nodup)
    (h : findMessage n s = some m) (hu : u.inbox = (updateMessage n f s).inbox) :
    ∃ l, findMessage n (placeReceipts u) = some (queuedReceipts l (f m)) ∧ (n ∈ l → (f m).receipt = .due) := by
  obtain ⟨l, hl, hinbox⟩ := placeReceipts_inbox u
  have hn : m.number = n := number_of_findMessage h
  have hmem := List.mem_of_find?_eq_some h
  refine ⟨l, ?_, fun hin => ?_⟩
  · have hsame : ((fun y : Message => y.number == n) ∘ fun y => queuedReceipts l (if y.number == n then f y else y)) =
        fun y => y.number == n := by
      funext y
      by_cases hy : y.number = n <;> simp [hy, number]
    have hmessages : (placeReceipts u).inbox.messages =
        s.inbox.messages.map fun y => queuedReceipts l (if y.number == n then f y else y) := by
      rw [hinbox, hu]
      simp [updateMessage, Function.comp_def]
    rw [findMessage, hmessages, List.find?_map, hsame, show s.inbox.messages.find? (fun y => y.number == n) = some m from h]
    simp [hn]
  · obtain ⟨y, hy, hyn, hdue⟩ := hl n hin
    rw [hu] at hy
    obtain ⟨z, hz, rfl⟩ := List.mem_map.mp hy
    by_cases hz' : z.number = n
    · obtain rfl : z = m := List.inj_on_of_nodup_map distinct hz hmem (hz'.trans hn.symm)
      rw [if_pos (by simpa using hz')] at hdue
      exact hdue
    · rw [if_neg (by simpa using hz')] at hyn
      exact absurd hyn hz'

/-- A receipt settled: the outcome, or, where the driver has answered since, a receipt due again with his code. -/
theorem receipted {n : Nat} {outcome : ReceiptState} {s u : State} {m : Message} (houtcome : outcome ≠ .due)
    (distinct : (s.inbox.messages.map (·.number)).Nodup) (h : findMessage n s = some m)
    (hu : u.inbox = (updateMessage n (settleReceipt outcome) s).inbox) :
    (m.outstanding = false → findMessage n (placeReceipts u) = some { m with receipt := outcome }) ∧
      (∀ c, m.outstanding = true → m.chosen = some c → ∃ y, findMessage n (placeReceipts u) = some y ∧
        y = { m with receiptCode := c, outstanding := false, receipt := y.receipt } ∧
        (y.receipt = .due ∨ y.receipt = .queued)) := by
  obtain ⟨l, hfind, hdue⟩ := findMessage_placeReceipts (settleReceipt_number outcome) distinct h hu
  have hn : m.number = n := number_of_findMessage h
  refine ⟨fun hout => ?_, fun c hout hc => ⟨_, hfind, ?_⟩⟩
  · have hsettled : settleReceipt outcome m = { m with receipt := outcome } := by simp [settleReceipt, hout]
    rw [hsettled] at hfind hdue
    rw [hfind, queuedReceipts, if_neg fun hin => houtcome (hdue (hn ▸ hin))]
  · have hsettled : settleReceipt outcome m =
        { m with receipt := .due, receiptCode := c, outstanding := false } := by simp [settleReceipt, hout, hc]
    rw [hsettled, queuedReceipts]
    split
    · exact ⟨rfl, .inr rfl⟩
    · exact ⟨rfl, .inl rfl⟩

end Sys2Proof.Machine
end

section
/-! PROOFS. The header report and the miss report, as the rules state them. -/

namespace Sys2Proof.Machine

/-! ### The state that a header's report meets -/

/-- What a header leaves for its report to meet. -/
structure HeaderMeets (s u : State) : Prop where
  now : u.now = s.now
  board : u.board = s.board
  inbox : u.inbox = s.inbox
  accounts : u.accounts = s.accounts
  emergency : u.emergency = s.emergency
  parked : u.receiver.parkedStatus = s.receiver.parkedStatus
  queue : u.scheduler.queue = s.scheduler.queue
  regenerate : u.scheduler.regenerate = s.scheduler.regenerate
  fill : u.scheduler.fill = s.scheduler.fill
  parkMark : u.scheduler.parkMark = s.scheduler.parkMark
  statusSince : u.scheduler.statusSince = s.scheduler.statusSince
  results : u.scheduler.results = s.scheduler.results

theorem headerMeets (g : GoodHeader) (s : State) : HeaderMeets s (headerLocked g s) := by
  obtain ⟨⟨-, hnow, -⟩, -, ⟨-, haccounts, -⟩, ⟨hboard, hinbox, hemergency⟩, hscheduler⟩ :=
    setSync_frame .locked (headerTaken g s)
  constructor
  · exact hnow
  · exact hboard
  · exact hinbox
  · exact haccounts
  · exact hemergency
  · rw [headerLocked_receiver]; rfl
  all_goals
    rw [headerLocked, hscheduler]
    rfl

/-- A header taken is the report, by its own heard list, on the state that it meets. -/
theorem takeHeader_report {h : HeaderBlock} {s : State} (good : HeaderGood h s.store.working.fleetCode)
    (slots : List SlotUse) : ∃ isHeard : SentAs → Bool,
      (∀ x, isHeard x = true ↔ x.cycle < 4096 ∧ h.cycle = (x.cycle + 1) % 4096 ∧ ⟨x.slot, x.address⟩ ∈ h.heard) ∧
      takeHeader (goodOf h slots) s = report isHeard (headerLocked (goodOf h slots) s) :=
  ⟨_, fun x => inHeardList_iff h.cycle h.heard x good.cycle, rfl⟩

/-! ### An attempt lost -/

section
variable {e : Entry} {u : State}

theorem attemptLost_last (hk : e.kind ≠ .emergency) (h : 5 ≤ e.attempts + 1) :
    attemptLost e u = failed e (dropEntry e.kind e.key u) := by
  simp only [attemptLost, if_neg hk, Config.maxAttempts, if_pos (show e.attempts + 1 ≥ 5 from h)]

theorem attemptLost_expired (hk : e.kind = .claim) (few : e.attempts + 1 < 5) (passed : deadlinePassed e u = true) :
    attemptLost e u = expireClaim e.key (clearSlotReq e.kind e.key
      (updateEntry e.kind e.key (backToWaiting (e.attempts + 1)) u)) := by
  have hpassed : deadlinePassed e (clearSlotReq e.kind e.key
      (updateEntry e.kind e.key (backToWaiting (e.attempts + 1)) u)) = true := passed
  simp only [attemptLost, if_neg (show e.kind ≠ .emergency by simp [hk]), Config.maxAttempts,
    if_neg (show ¬ e.attempts + 1 ≥ 5 by omega)]
  rw [if_pos ⟨hk, hpassed⟩]

/-- The entry waits again; a STATUS gives up its regeneration. -/
theorem attemptLost_again (hk : e.kind ≠ .emergency) (few : e.attempts + 1 < 5)
    (stands : ¬(e.kind = .claim ∧ deadlinePassed e u = true)) :
    attemptLost e u = { updateEntry e.kind e.key (backToWaiting (e.attempts + 1)) u with
      scheduler := { (clearSlotReq e.kind e.key (updateEntry e.kind e.key (backToWaiting (e.attempts + 1)) u)).scheduler with
        regenerate := if e.kind = .status then false else u.scheduler.regenerate } } := by
  have hstands : ¬(e.kind = .claim ∧ deadlinePassed e (clearSlotReq e.kind e.key
      (updateEntry e.kind e.key (backToWaiting (e.attempts + 1)) u)) = true) := stands
  simp only [attemptLost, if_neg hk, Config.maxAttempts, if_neg (show ¬ e.attempts + 1 ≥ 5 by omega)]
  rw [if_neg hstands]
  split <;> rfl

end

/-! ### The answer to the one entry of a queue, by its kind -/

section
variable {s u : State} {e : Entry} (meets : HeaderMeets s u) (queue : s.scheduler.queue = [e])
include meets queue

/-- The queue without its one entry. -/
theorem dropped_queue : (dropEntry e.kind e.key u).scheduler.queue = [] := dropEntry_single (meets.queue.trans queue)

theorem again_single (hk : e.kind ≠ .emergency) (few : e.attempts + 1 < 5)
    (stands : ¬(e.kind = .claim ∧ deadlinePassed e u = true)) :
    (attemptLost e u).scheduler.queue = [backToWaiting (e.attempts + 1) e] ∧ (attemptLost e u).board = s.board ∧
      (attemptLost e u).inbox = s.inbox ∧ (attemptLost e u).accounts = s.accounts := by
  rw [attemptLost_again hk few stands]
  exact ⟨updateEntry_single (meets.queue.trans queue) _, meets.board, meets.inbox, meets.accounts⟩

omit queue in
theorem emergency_unheard : (attemptLost e u).emergency = s.emergency := by
  obtain ⟨-, -, -, -, h⟩ := attemptLost_frame e u
  exact h.trans meets.emergency

theorem heard_empty (hr : e.kind ≠ .receipt) (hs : e.kind ≠ .status) :
    (acknowledged e (dropEntry e.kind e.key u)).scheduler.queue = [] := by
  have hdrop := dropped_queue meets queue
  unfold acknowledged
  split
  · rw [claimHeard_scheduler]; exact hdrop
  · contradiction
  · unfold tripReported
    split <;> exact hdrop
  · unfold reportHeard
    split <;> exact hdrop
  · exact hdrop
  · exact hdrop
  · contradiction
  · exact hdrop

omit queue in
theorem claim_heard {o : Offer} (hk : e.kind = .claim) (h : findOffer e.key s = some o) (ho : o.state = .claiming) :
    ∃ o', findOffer e.key (acknowledged e (dropEntry e.kind e.key u)) = some o' ∧
      (s.now < (o.expiry + 15) * 1000 → o' = { o with state := .awaitingAward }) ∧
      ((o.expiry + 15) * 1000 ≤ s.now → o' = { o with state := .closed, outcome := some .noAnswer } ∧
        Pending .offerClosed (acknowledged e (dropEntry e.kind e.key u))) := by
  have hfind : findOffer e.key (dropEntry e.kind e.key u) = some o := (findOffer_congr _ meets.board).trans h
  have hawaits : findOffer e.key (updateOffer e.key (fun o => { o with state := .awaitingAward })
      (dropEntry e.kind e.key u)) = some { o with state := .awaitingAward } := findOffer_updateOffer hfind fun _ => rfl
  have hack : acknowledged e (dropEntry e.kind e.key u) = claimHeard e.key (dropEntry e.kind e.key u) := by
    simp only [acknowledged, hk]
  rw [hack, claimHeard_claiming hfind ho, show (dropEntry e.kind e.key u).now = s.now from meets.now]
  by_cases hlate : noAnswerMs o ≤ s.now
  · rw [if_pos hlate]
    have hlate : (o.expiry + 15) * 1000 ≤ s.now := hlate
    refine ⟨_, findOffer_closeOnly hawaits, fun h => ?_, fun _ => ⟨rfl, (mem_insertEvent ..).mpr (.inl rfl)⟩⟩
    omega
  · rw [if_neg hlate]
    have hlate : ¬ (o.expiry + 15) * 1000 ≤ s.now := hlate
    exact ⟨_, hawaits, fun _ => rfl, fun h => absurd h hlate⟩

/-- The deadline passed, the claim ends EXPIRED. -/
theorem claim_expired {d : Nat} (hk : e.kind = .claim) (few : e.attempts + 1 < 5) (hd : e.deadline = some d)
    (passed : d * 1000 ≤ s.now) : (attemptLost e u).scheduler.queue = [] ∧
      ∀ o, findOffer e.key s = some o → o.state = .claiming →
        (attemptLost e u).board = closedOn e.key .expired s.board ∧ Pending .offerClosed (attemptLost e u) := by
  have hpassed : deadlinePassed e u = true := by simp [deadlinePassed, hd, meets.now, passed]
  rw [attemptLost_expired hk few hpassed, expireClaim]
  refine ⟨?_, fun o h ho => ?_⟩
  · rw [claimEnds_scheduler, dropEntry_queue]
    change (updateEntry e.kind e.key _ u).scheduler.queue.filter _ = _
    rw [updateEntry_single (meets.queue.trans queue)]
    simp [Entry.is, backToWaiting, hk]
  · have hfind : findOffer e.key (dropEntry .claim e.key (clearSlotReq e.kind e.key
        (updateEntry e.kind e.key (backToWaiting (e.attempts + 1)) u))) = some o :=
      (findOffer_congr _ meets.board).trans h
    rw [findOffer_of_claiming hfind ho]
    refine ⟨?_, (mem_insertEvent ..).mpr (.inl rfl)⟩
    rw [closeOnly_board, ← meets.board]
    rfl

theorem claim_fails (hk : e.kind = .claim) (last : 5 ≤ e.attempts + 1) : (attemptLost e u).scheduler.queue = [] ∧
      ∀ o, findOffer e.key s = some o → o.state = .claiming →
        (attemptLost e u).board = closedOn e.key .claimFailed s.board ∧ Pending .offerClosed (attemptLost e u) := by
  rw [attemptLost_last (by simp [hk]) last]
  have hfailed : failed e (dropEntry e.kind e.key u) = claimEnds e.key .claimFailed (dropEntry e.kind e.key u) := by
    simp only [failed, hk]
  rw [hfailed]
  refine ⟨?_, fun o h ho => ?_⟩
  · rw [claimEnds_scheduler]
    exact dropped_queue meets queue
  · have hfind : findOffer e.key (dropEntry e.kind e.key u) = some o := (findOffer_congr _ meets.board).trans h
    rw [findOffer_of_claiming hfind ho]
    refine ⟨?_, (mem_insertEvent ..).mpr (.inl rfl)⟩
    rw [closeOnly_board, ← meets.board]
    rfl

/-- A STATUS heard restarts the status interval, marks the parked status, and is placed anew where one was due. -/
theorem status_heard {x : SentAs} (hk : e.kind = .status) (hx : e.sentAs = some x) :
    let t := acknowledged e (dropEntry e.kind e.key u)
    t.scheduler.statusSince = s.now ∧ t.scheduler.regenerate = false ∧
      (t.receiver.parkedStatus = true ↔ s.receiver.parkedStatus = true ∨
        ∃ m, s.scheduler.parkMark = some m ∧ m < x.instant) ∧
      (s.scheduler.regenerate = false → t.scheduler.queue = []) ∧
      (s.scheduler.regenerate = true → t.scheduler.queue =
        [{ kind := .status, key := 0, content := .none, state := .waiting, attempts := 0, deadline := none
           placed := s.now, sentAs := none, grantWait := none }]) := by
  intro t
  have hdrop := dropped_queue meets queue
  have ht : t = placeRegeneration (statusHeard (some x) (dropEntry e.kind e.key u)) := by
    simp only [t, acknowledged, hk, hx]
  have hnow : (statusHeard (some x) (dropEntry e.kind e.key u)).scheduler.statusSince = s.now := meets.now
  have hregenerate : (statusHeard (some x) (dropEntry e.kind e.key u)).scheduler.regenerate = s.scheduler.regenerate :=
    meets.regenerate
  have hqueue : (statusHeard (some x) (dropEntry e.kind e.key u)).scheduler.queue = [] := hdrop
  have hparked : (statusHeard (some x) (dropEntry e.kind e.key u)).receiver.parkedStatus = true ↔
      s.receiver.parkedStatus = true ∨ ∃ m, s.scheduler.parkMark = some m ∧ m < x.instant := by
    have hmark : (dropEntry e.kind e.key u).scheduler.parkMark = s.scheduler.parkMark := meets.parkMark
    have hbefore : (dropEntry e.kind e.key u).receiver.parkedStatus = s.receiver.parkedStatus := meets.parked
    simp only [statusHeard, Bool.or_eq_true, hmark, hbefore]
    cases s.scheduler.parkMark <;> simp
  rw [ht]
  cases hr : s.scheduler.regenerate with
  | false =>
    have hplace : placeRegeneration (statusHeard (some x) (dropEntry e.kind e.key u)) =
        statusHeard (some x) (dropEntry e.kind e.key u) := by
      rw [placeRegeneration, if_neg (by rw [hregenerate, hr]; decide)]
    rw [hplace]
    exact ⟨hnow, hregenerate.trans hr, hparked, fun _ => hqueue, fun h => absurd h (by decide)⟩
  | true =>
    have hplace : placeRegeneration (statusHeard (some x) (dropEntry e.kind e.key u)) =
        placeEntry .status 0 .none none { statusHeard (some x) (dropEntry e.kind e.key u) with
          scheduler := { (statusHeard (some x) (dropEntry e.kind e.key u)).scheduler with regenerate := false } } := by
      rw [placeRegeneration, if_pos (by rw [hregenerate, hr])]
    rw [hplace]
    generalize hv : ({ statusHeard (some x) (dropEntry e.kind e.key u) with
      scheduler := { (statusHeard (some x) (dropEntry e.kind e.key u)).scheduler with regenerate := false } } : State) = v
    have hempty : v.scheduler.queue = [] := by rw [← hv]; exact hqueue
    have hthen : v.now = s.now := by rw [← hv]; exact meets.now
    have hplaced : placementOf .status 0 v = .placed :=
      placementOf_placed _ _ _ (by simp [hempty]) (by rw [hempty]; decide)
    have hscheduler : (placeEntry .status 0 .none none v).scheduler =
        { v.scheduler with queue := [newEntry .status 0 .none none v] } := by
      rcases placeEntry_cases .status 0 .none none v with ⟨-, h, -⟩ | ⟨h, -⟩
      · rw [h, hempty]; rfl
      · exact absurd hplaced h
    have hparkedStays : (placeEntry .status 0 .none none v).receiver.parkedStatus = v.receiver.parkedStatus :=
      placeEntry_kept (P := fun t => t.receiver.parkedStatus = v.receiver.parkedStatus) (fun _ _ h => h)
        (fun t h => by rw [returnToFull_eq]; exact h) _ _ _ _ rfl
    rw [hscheduler, hparkedStays]
    refine ⟨?_, ?_, ?_, fun h => absurd h (by decide), fun _ => ?_⟩
    · rw [← hv]; exact hnow
    · rw [← hv]
    · rw [← hv]; exact hparked
    · simp only [newEntry, hthen]

/-- A STATUS unheard gives up its regeneration. -/
theorem status_unheard (hk : e.kind = .status) : (attemptLost e u).scheduler.regenerate = false ∧
    (attemptLost e u).scheduler.statusSince = s.scheduler.statusSince ∧
    (5 ≤ e.attempts + 1 → (attemptLost e u).scheduler.queue = []) := by
  by_cases last : 5 ≤ e.attempts + 1
  · have hfailed : failed e (dropEntry e.kind e.key u) = { dropEntry e.kind e.key u with
        scheduler := { (dropEntry e.kind e.key u).scheduler with regenerate := false } } := by simp only [failed, hk]
    rw [attemptLost_last (by simp [hk]) last, hfailed]
    exact ⟨rfl, meets.statusSince, fun _ => dropped_queue meets queue⟩
  · rw [attemptLost_again (by simp [hk]) (by omega) (by simp [hk])]
    exact ⟨if_pos hk, meets.statusSince, fun h => absurd h last⟩

omit queue in
/-- A RECEIPT answered settles the record of its number. -/
theorem receipt_settles {outcome : ReceiptState} {v : State} {m : Message} (houtcome : outcome ≠ .due)
    (distinct : (s.inbox.messages.map (·.number)).Nodup) (h : findMessage e.key s = some m)
    (hv : v.inbox = (updateMessage e.key (settleReceipt outcome) (dropEntry e.kind e.key u)).inbox) :
    (m.outstanding = false → findMessage e.key (placeReceipts v) = some { m with receipt := outcome }) ∧
      (∀ c, m.outstanding = true → m.chosen = some c → ∃ y, findMessage e.key (placeReceipts v) = some y ∧
        y = { m with receiptCode := c, outstanding := false, receipt := y.receipt } ∧
        (y.receipt = .due ∨ y.receipt = .queued)) := by
  have hinbox : (dropEntry e.kind e.key u).inbox = s.inbox := meets.inbox
  refine receipted (s := dropEntry e.kind e.key u) houtcome (by rw [hinbox]; exact distinct) ?_ hv
  exact (findMessage_congr _ (congrArg Inbox.messages hinbox)).trans h

omit queue in
theorem receipt_heard {m : Message} (hk : e.kind = .receipt)
    (distinct : (s.inbox.messages.map (·.number)).Nodup) (h : findMessage e.key s = some m) :
    let t := acknowledged e (dropEntry e.kind e.key u)
    (m.outstanding = false → findMessage e.key t = some { m with receipt := .sent }) ∧
      (∀ c, m.outstanding = true → m.chosen = some c → ∃ y, findMessage e.key t = some y ∧
        y = { m with receiptCode := c, outstanding := false, receipt := y.receipt } ∧
        (y.receipt = .due ∨ y.receipt = .queued)) := by
  intro t
  have ht : t = placeReceipts (updateMessage e.key (settleReceipt .sent) (dropEntry e.kind e.key u)) := by
    simp only [t, acknowledged, hk, receiptHeard]
  rw [ht]
  exact receipt_settles meets (by decide) distinct h rfl

omit queue in
theorem receipt_fails (hk : e.kind = .receipt) (last : 5 ≤ e.attempts + 1) :
    (∀ m, (s.inbox.messages.map (·.number)).Nodup → findMessage e.key s = some m →
      (m.outstanding = false → findMessage e.key (attemptLost e u) = some { m with receipt := .failed }) ∧
        (∀ c, m.outstanding = true → m.chosen = some c → ∃ y, findMessage e.key (attemptLost e u) = some y ∧
          y = { m with receiptCode := c, outstanding := false, receipt := y.receipt } ∧
          (y.receipt = .due ∨ y.receipt = .queued))) ∧
      Pending .uplinkResult (attemptLost e u) := by
  have ht : attemptLost e u = placeReceipts (raise .uplinkResult
      (updateMessage e.key (settleReceipt .failed) (dropEntry e.kind e.key u))) := by
    rw [attemptLost_last (by simp [hk]) last]
    simp only [failed, hk, receiptFailed]
  rw [ht]
  exact ⟨fun m distinct h => receipt_settles meets (by decide) distinct h rfl,
    (Told.placeReceipts _).events _ ((mem_insertEvent ..).mpr (.inl rfl))⟩

omit queue in
theorem trip_heard {r : LogEntry} (hk : e.kind = .tripReport) (h : findRecord e.key s = some r) :
    let t := acknowledged e (dropEntry e.kind e.key u)
    t.accounts = { s.accounts with
        log := s.accounts.log.map fun y => if y.record.seq == e.key then
          { y with record := { y.record with report := .reported }, holdOff := none } else y } ∧
      r.position ∈ t.writer.reportsDirty := by
  intro t
  have hfind : findRecord e.key (dropEntry e.kind e.key u) = some r := by
    have haccounts : (dropEntry e.kind e.key u).accounts = s.accounts := meets.accounts
    rw [findRecord, haccounts]
    exact h
  have hack (v : State) : acknowledged e v = tripReported e.key v := by simp only [acknowledged, hk]
  have ht : t = markReport r.position (updateRecord e.key
      (fun e => { e with record := { e.record with report := .reported }, holdOff := none })
      (dropEntry e.kind e.key u)) := by
    simp only [t, hack, tripReported, hfind]
  rw [ht, ← meets.accounts]
  refine ⟨rfl, ?_⟩
  simp [markReport]

theorem trip_fails (hk : e.kind = .tripReport) (last : 5 ≤ e.attempts + 1) :
    (attemptLost e u).scheduler.queue = [] ∧ (attemptLost e u).accounts = { s.accounts with
      log := s.accounts.log.map fun y => if y.record.seq == e.key then
        { y with record := { y.record with report := .unreported }, holdOff := some (s.now + 60000) } else y } := by
  have ht : attemptLost e u = tripReportFailed e.key (dropEntry e.kind e.key u) := by
    rw [attemptLost_last (by simp [hk]) last]
    simp only [failed, hk]
  rw [ht, ← meets.accounts, ← meets.now]
  exact ⟨dropped_queue meets queue, rfl⟩

omit queue in
theorem emergency_heard (hk : e.kind = .emergency) (on : s.emergency.state ≠ .idle) :
    (acknowledged e (dropEntry e.kind e.key u)).emergency = { s.emergency with reportSince := some s.now } := by
  have hstate : (dropEntry e.kind e.key u).emergency = s.emergency := meets.emergency
  have hnow : (dropEntry e.kind e.key u).now = s.now := meets.now
  have hack (v : State) : acknowledged e v = reportHeard v := by simp only [acknowledged, hk]
  rw [hack, reportHeard, hstate]
  split
  · contradiction
  all_goals rw [hnow]

omit queue in
/-- A host message answered joins the results. -/
theorem host_heard (hk : e.kind = .canned ∨ e.kind = .freetext) :
    let t := acknowledged e (dropEntry e.kind e.key u)
    let l := s.scheduler.results ++ [⟨e.key, e.kind, true⟩]
    t.scheduler.results = l.drop (l.length - 8) ∧ Pending .uplinkResult t := by
  intro t l
  have ht : t = addResult e.key e.kind true (dropEntry e.kind e.key u) := by
    rcases hk with hk | hk <;> simp only [t, acknowledged, hk]
  rw [ht]
  simp only [l, ← meets.results]
  exact ⟨rfl, (mem_insertEvent ..).mpr (.inl rfl)⟩

theorem host_fails (hk : e.kind = .canned ∨ e.kind = .freetext) (last : 5 ≤ e.attempts + 1) :
    let l := s.scheduler.results ++ [⟨e.key, e.kind, false⟩]
    (attemptLost e u).scheduler.queue = [] ∧ (attemptLost e u).scheduler.results = l.drop (l.length - 8) ∧
      Pending .uplinkResult (attemptLost e u) := by
  intro l
  have ht : attemptLost e u = addResult e.key e.kind false (dropEntry e.kind e.key u) := by
    rw [attemptLost_last (by rcases hk with hk | hk <;> simp [hk]) last]
    rcases hk with hk | hk <;> simp only [failed, hk]
  rw [ht]
  simp only [l, ← meets.results]
  exact ⟨dropped_queue meets queue, rfl, (mem_insertEvent ..).mpr (.inl rfl)⟩

theorem decline_fails (hk : e.kind = .decline) (last : 5 ≤ e.attempts + 1) :
    (attemptLost e u).scheduler.queue = [] ∧ (attemptLost e u).board = s.board := by
  have ht : attemptLost e u = dropEntry e.kind e.key u := by
    rw [attemptLost_last (by simp [hk]) last]
    simp only [failed, hk]
  rw [ht]
  exact ⟨dropped_queue meets queue, meets.board⟩

end

/-! ### The miss report and what follows it -/

/-- Two properties of the scheduler that the loss of an attempt keeps. -/
theorem attemptKept_fill : AttemptKept fun t => t.scheduler.fill = none := reportKept_fill.toAttemptKept

theorem attemptKept_statusSince (n : Nat) : AttemptKept fun t => t.scheduler.statusSince = n where
  queue _ _ _ _ h := h
  results _ _ h := h
  held _ _ h := h
  full t h := by
    obtain ⟨-, -, -, -, hs⟩ := returnToFull_frame t
    rw [hs]; exact h
  board _ _ h := h
  inbox _ _ h := h
  accounts _ _ h := h
  raise _ _ h := h

/-- The steps of tracking after a miss keep what the loss of an attempt keeps and what reads no receiver. -/
theorem settleMiss_keeps {P : State → Prop} (k : AttemptKept P) (receiver : ∀ r s, P s → P { s with receiver := r })
    {u : State} (h : P u) : P (settleMiss u) := by
  have told (y : Sync) {v : State} (hv : P v) : P (setSync y v) := by
    unfold setSync
    dsimp only
    split
    · exact receiver _ _ hv
    · exact k.raise _ _ (receiver _ _ hv)
  unfold settleMiss
  split
  · exact told _ (receiver _ _ h)
  · split
    · exact k.giveUpGrants (told _ (receiver _ _ h))
    · exact receiver _ _ h

/-- An entry that waits is not among the grants given up. -/
theorem Alone.giveUpGrants {x : Entry} {s : State} (h : Alone x s) (waits : x.state = .waiting) :
    Alone x (giveUpGrants s) := by
  refine (Beside.foldl (kind := x.kind) (key := x.key) (fun a ha u => ?_) s).alone x rfl rfl h
  by_cases hsame : a.kind = x.kind ∧ a.key = x.key
  · obtain rfl := h.2 a ha hsame.1 hsame.2
    rw [if_neg (by simp [waits])]
    exact .refl u
  · split
    · exact .attemptLost hsame u
    · exact .refl u

theorem Alone.settleMiss {x : Entry} {s : State} (h : Alone x s) (waits : x.state = .waiting) :
    Alone x (settleMiss s) := by
  have told (y : Sync) {v : State} (hv : Alone x v) : Alone x (setSync y v) := by
    obtain ⟨-, -, -, -, hs⟩ := setSync_frame y v
    rw [Alone, hs]
    exact hv
  unfold Machine.settleMiss
  split
  · exact told _ h
  · split
    · exact Alone.giveUpGrants (told _ h) waits
    · exact h

/-! ### The three parts of the obligation -/

/-- A good header's report, entry by entry of a queue of distinct items. -/
theorem header_reports (h : HeaderBlock) (s : State) (on : s.powered = true)
    (good : HeaderGood h s.store.working.fleetCode) (searching : s.receiver.sync = .search ∨ s.receiver.windowOpen = true) :
    ∃ (isHeard : SentAs → Bool) (u : State), exec (.cycleHeader h) s = .next (report isHeard u) ∧ HeaderMeets s u ∧
      ∀ x, isHeard x = true ↔ x.cycle < 4096 ∧ h.cycle = (x.cycle + 1) % 4096 ∧ ⟨x.slot, x.address⟩ ∈ h.heard := by
  obtain ⟨slots, -, hexec⟩ := exec_cycleHeader_taken on good searching
  obtain ⟨isHeard, hheard, htake⟩ := takeHeader_report good slots
  exact ⟨isHeard, _, htake ▸ hexec, headerMeets _ s, hheard⟩

/-- The fill record's answer, on an empty queue. -/
theorem reportFill_some {isHeard : SentAs → Bool} {u : State} {f : SentAs} (h : u.scheduler.fill = some f) :
    reportFill isHeard u = if isHeard f then statusHeard (some f) { u with scheduler := { u.scheduler with fill := none } }
      else { u with scheduler := { u.scheduler with fill := none } } := by
  simp only [reportFill, h]

/-- Settles O13. The header's and the miss's report are `report` on the state that they meet; `report_heard` and its
like follow one entry of any queue, and the lemmas by kind give the answer of a queue's only entry. -/
theorem reportsAnswerTransmissions : Obligations.ReportsAnswerTransmissions := by
  unfold Obligations.ReportsAnswerTransmissions
  intro again distinct
  refine ⟨?all, ?one, ?miss⟩
  case all =>
    intro h s on good searching heard
    obtain ⟨isHeard, u, hexec, meets, hheard⟩ := header_reports h s on good searching
    refine ⟨_, hexec, report_fill _ _, fun hdistinct e he => ?_, fun f empty hf => ?_⟩
    · rw [← meets.queue] at he
      have hdistinct : (u.scheduler.queue.map fun e => (e.kind, e.key)).Nodup := by rw [meets.queue]; exact hdistinct
      refine ⟨fun x hx hs hh hr hstatus => ?_, fun x hx hs hh => ?_, fun x hx hs hh => ?_, fun w hs hw long => ?_,
        fun hs => (report_stands hdistinct he hs).1⟩
      · exact report_heard hdistinct he x hx hs ((hheard x).mpr hh) hr hstatus
      · exact (report_requested hdistinct he x hx hs ((hheard x).mpr hh)).1
      · obtain ⟨hemergency, hother⟩ :=
          report_unheard hdistinct he x hx hs (Bool.eq_false_iff.mpr fun h => hh ((hheard x).mp h))
        exact ⟨fun hk => (hemergency hk).1, fun hk hc few => (hother hk hc few).1⟩
      · obtain ⟨hlow, hhigh⟩ := report_waits (isHeard := isHeard) hdistinct he w hs hw long
        exact ⟨fun h => (hlow h).1, fun h few => (hhigh h few).1⟩
    · rw [← meets.fill] at hf
      have hempty : u.scheduler.queue = [] := meets.queue.trans empty
      rw [report_empty isHeard hempty, reportFill_some hf]
      by_cases hh : isHeard f = true
      · rw [if_pos hh]
        refine ⟨hempty, fun _ => meets.now, fun hnot => absurd ((hheard f).mp hh) hnot, ?_⟩
        simp only [statusHeard, Bool.or_eq_true, meets.parked, meets.parkMark]
        rw [and_iff_right ((hheard f).mp hh)]
        cases s.scheduler.parkMark <;> simp
      · rw [if_neg hh]
        refine ⟨hempty, fun hyes => absurd ((hheard f).mpr hyes) hh, fun _ => meets.statusSince, ?_⟩
        rw [meets.parked]
        exact ⟨.inl, fun hor => hor.resolve_right fun hyes => hh ((hheard f).mpr hyes.1)⟩
  case one =>
    intro h s e x on good searching queue fill sent hx heard fails results receipted
    obtain ⟨isHeard, u, hexec, meets, hheard⟩ := header_reports h s on good searching
    have hsingle := report_single (isHeard := isHeard) (meets.queue.trans queue) (meets.fill.trans fill) sent hx
    have hyes (hh : heard) : report isHeard u = acknowledged e (dropEntry e.kind e.key u) := by
      rw [hsingle, if_pos ((hheard x).mpr hh)]
    have hno (hh : ¬ heard) : report isHeard u = attemptLost e u := by
      rw [hsingle, if_neg fun h => hh ((hheard x).mp h)]
    refine ⟨_, hexec, fun hh hr hs => by rw [hyes hh]; exact heard_empty meets queue hr hs,
      fun hk => ⟨fun hh o ho hc => by rw [hyes hh]; exact claim_heard meets hk ho hc, fun hh few undue => ?_,
        fun d hh few hd hpast => by rw [hno hh]; exact claim_expired meets queue hk few hd hpast,
        fun ⟨hh, hlast⟩ => by rw [hno hh]; exact claim_fails meets queue hk hlast⟩,
      fun hk => ⟨fun hh => by rw [hyes hh]; exact status_heard meets queue hk hx, fun hh => ?_,
        fun ⟨hh, hlast⟩ => by rw [hno hh]; exact (status_unheard meets queue hk).2.2 hlast⟩,
      fun hk => ⟨fun hh m hm hf => by rw [hyes hh]; exact receipt_heard meets hk hm hf,
        fun ⟨hh, hlast⟩ => by rw [hno hh]; exact receipt_fails meets hk hlast⟩,
      fun hk r hr => ⟨fun hh => by rw [hyes hh]; exact trip_heard meets hk hr,
        fun ⟨hh, hlast⟩ => by rw [hno hh]; exact trip_fails meets queue hk hlast⟩,
      fun hk hon => ⟨fun hh => by rw [hyes hh]; exact emergency_heard meets hk hon,
        fun hh => by rw [hno hh]; exact emergency_unheard meets⟩,
      fun hk => ⟨fun hh => by rw [hyes hh]; exact host_heard meets hk,
        fun ⟨hh, hlast⟩ => by rw [hno hh]; exact host_fails meets queue hk hlast⟩,
      fun hk ⟨hh, hlast⟩ => by rw [hno hh]; exact decline_fails meets queue hk hlast,
      fun hh hclaim hemergency few => ?_⟩
    · rw [hno hh]
      have stands : deadlinePassed e u = false := by
        unfold deadlinePassed
        split
        · rfl
        · rename_i d hd
          have := undue d hd
          simp only [meets.now, decide_eq_false_iff_not]
          omega
      obtain ⟨hqueue, hboard, -⟩ := again_single meets queue (by simp [hk]) few (by simp [stands])
      exact ⟨hqueue, hboard⟩
    · rw [hno hh]
      obtain ⟨hregenerate, hsince, -⟩ := status_unheard meets queue hk
      exact ⟨hregenerate, hsince⟩
    · rw [hno hh]
      obtain ⟨hqueue, hboard, hinbox, haccounts⟩ := again_single meets queue hemergency few fun hc => hclaim hc.1
      exact ⟨hqueue, hboard, hinbox, haccounts, emergency_unheard meets⟩
  case miss =>
    intro s p on aimed opened last hdistinct
    have hexec := exec_missedHeader on aimed opened last
    rw [missHeader_expected (advanceTo (p + 130) s) p aimed] at hexec
    obtain ⟨⟨-, hnow, -⟩, -⟩ := missHeader_frame (advanceTo (p + 130) s)
    rw [missHeader_expected (advanceTo (p + 130) s) p aimed] at hnow
    refine ⟨_, hexec, hnow, ?_, ?_, fun e he hsent hs => ?_⟩
    · exact settleMiss_keeps attemptKept_fill (fun _ _ h => h) (report_fill _ _)
    · refine settleMiss_keeps (attemptKept_statusSince _) (fun _ _ h => h) ?_
      exact (attemptKept_statusSince s.scheduler.statusSince).missReport (fun _ h => h)
        (s := { advanceTo (p + 130) s with receiver := missed p (advanceTo (p + 130) s).receiver }) rfl
    · obtain ⟨x, hx⟩ := Option.ne_none_iff_exists'.mp hsent
      have hreport := report_unheard (isHeard := fun _ => false)
        (s := { advanceTo (p + 130) s with receiver := missed p (advanceTo (p + 130) s).receiver }) hdistinct he x hx hs rfl
      have settles {y : Entry} (hy : Alone y (missReport { advanceTo (p + 130) s with
          receiver := missed p (advanceTo (p + 130) s).receiver })) (waits : y.state = .waiting) :
          y ∈ (settleMiss (missTold p (advanceTo (p + 130) s))).scheduler.queue :=
        (Alone.settleMiss (s := missTold p (advanceTo (p + 130) s)) hy waits).1
      exact ⟨fun hk => settles (hreport.1 hk) rfl, fun hk hc few => settles (hreport.2 hk hc few) rfl⟩

end Sys2Proof.Machine
end

section
/-! PROOFS. The uplink slots: which entry a slot carries, what its transmission makes of the queue, and the beacon. -/

namespace Sys2Proof.Machine

/-! ### The slot that begins -/

/-- The state at the begin of a slot: the clock at the slot's instant, and the slot after it the next one. -/
def slotBegun (slot : Nat) (s : State) : State :=
  { s with now := max s.now (s.receiver.cycleStart + (150 + 100 * slot)),
           receiver := { s.receiver with nextSlot := slot + 1 } }

theorem exec_slotStart_mapped {slot : Fin 10} {s : State} {l : List SlotUse} (draw : Fin 16) (powered : s.powered = true)
    (mapped : s.receiver.slotMap = some l) (next : s.receiver.nextSlot ≤ slot.val) :
    exec (.slotStart slot draw) s =
      .next (useSlot slot.val draw.val (l.getD slot.val .idle) (slotBegun slot.val s)) := by
  have due : slotDue slot.val s = some (s.receiver.cycleStart + (150 + 100 * slot.val)) := by
    simp [slotDue, dueWhen, powered, mapped, next]
  have begun : beginSlot slot.val draw.val (advanceTo (s.receiver.cycleStart + (150 + 100 * slot.val)) s) =
      useSlot slot.val draw.val (l.getD slot.val .idle) (slotBegun slot.val s) := by
    simp only [beginSlot, advanceTo, mapped, slotBegun]
  exact congrArg Host.Outcome.next ((atInstant_due due _ s).trans begun)

theorem mayTransmit_iff {s : State} : mayTransmit s = true ↔ MayTransmit s := by
  simp [mayTransmit, voiceGrant, addressSet, and_assoc]

theorem exec_slotStart_used {slot : Fin 10} {s : State} {l : List SlotUse} {use : SlotUse} (draw : Fin 16)
    (powered : s.powered = true) (mapped : s.receiver.slotMap = some l) (next : s.receiver.nextSlot ≤ slot.val)
    (used : l[slot.val]? = some use) :
    exec (.slotStart slot draw) s = .next (useSlot slot.val draw.val use (slotBegun slot.val s)) := by
  rw [exec_slotStart_mapped draw powered mapped next, List.getD_eq_getElem?_getD, used, Option.getD_some]

theorem useSlot_closed {s : State} (closed : ¬ MayTransmit s) (slot draw : Nat) (use : SlotUse) :
    useSlot slot draw use s = s :=
  if_neg (mt mayTransmit_iff.mp closed)

theorem useSlot_contention {s : State} (may : MayTransmit s) (slot draw : Nat) :
    useSlot slot draw .contention s = contendSlot slot draw s :=
  if_pos (mayTransmit_iff.mpr may)

theorem useSlot_emergContention {s : State} (may : MayTransmit s) (slot draw : Nat) :
    useSlot slot draw .emergContention s = useEmergContention slot s :=
  if_pos (mayTransmit_iff.mpr may)

theorem useSlot_grant {s : State} (may : MayTransmit s) (slot draw a : Nat) :
    useSlot slot draw (.grant a) s = if a = s.store.working.address then useGrant slot s else s :=
  if_pos (mayTransmit_iff.mpr may)

theorem useSlot_idle (s : State) (slot draw : Nat) : useSlot slot draw .idle s = s :=
  ite_self s

theorem contendSlot_used {s : State} (used : s.scheduler.contentionUsed = true) (slot draw : Nat) :
    contendSlot slot draw s = s :=
  if_pos used

theorem useEmergContention_used {s : State} (used : s.scheduler.contentionUsed = true) (slot : Nat) :
    useEmergContention slot s = s :=
  if_pos used

theorem waitingEmergency_eq_none {s : State} :
    waitingEmergency s = none ↔ ∀ e ∈ s.scheduler.queue, ¬(e.kind = .emergency ∧ e.state = .waiting) := by
  simp [waitingEmergency]

theorem awaitingGrant_eq_none {s : State} :
    awaitingGrant s = none ↔ ∀ e ∈ s.scheduler.queue, ¬(e.kind.long = true ∧ e.state = .awaitGrant) := by
  simp [awaitingGrant]

theorem waitingShort_eq_none {s : State} :
    waitingShort s = none ↔ ∀ e ∈ s.scheduler.queue, ¬(e.kind.long = false ∧ e.state = .waiting) := by
  simp [waitingShort]

theorem contentionCandidate_eq_none {s : State} :
    contentionCandidate s = none ↔
      ∀ e ∈ s.scheduler.queue, ¬(e.state = .waiting ∧ (e.kind.long = false ∨ s.scheduler.slotReq = none)) := by
  simp [contentionCandidate]

theorem useEmergContention_none {s : State} (none : waitingEmergency s = none) (slot : Nat) :
    useEmergContention slot s = s := by
  simp only [useEmergContention, none, ite_self]

/-- Settles O28. -/
theorem closedSlotGoesUnused : Obligations.ClosedSlotGoesUnused := by
  intro slot draw s powered
  refine ⟨fun l mapped next closed => ?_, fun unmapped => ?_⟩
  · suffices useSlot slot.val draw.val (l.getD slot.val .idle) (slotBegun slot.val s) = slotBegun slot.val s by
      rw [exec_slotStart_mapped draw powered mapped next, this]
      rfl
    by_cases may : MayTransmit s
    · have open' : MayTransmit (slotBegun slot.val s) := may
      obtain ⟨locked, notGranted, notPending, low, high⟩ := may
      rw [List.getD_eq_getElem?_getD]
      rcases closed with h | h | h | h | h | idle | ⟨a, granted, other⟩ | ⟨contended, used⟩ | ⟨contended, none⟩
      · exact absurd locked h
      · exact absurd h notGranted
      · exact absurd h notPending
      · omega
      · omega
      · rw [idle]
        exact useSlot_idle _ _ _
      · rw [granted]
        exact (useSlot_grant open' _ _ a).trans (if_neg other)
      · rcases contended with h | h
        · rw [h]
          exact (useSlot_contention open' _ _).trans (contendSlot_used (s := slotBegun slot.val s) used _ _)
        · rw [h]
          exact (useSlot_emergContention open' _ _).trans (useEmergContention_used (s := slotBegun slot.val s) used _)
      · rw [contended]
        exact (useSlot_emergContention open' _ _).trans (useEmergContention_none (s := slotBegun slot.val s)
            (waitingEmergency_eq_none.mpr none) _)
    · exact useSlot_closed (s := slotBegun slot.val s) may _ _ _
  · exact congrArg Host.Outcome.next (atInstant_not_due (by simp [slotDue, dueWhen, unmapped]) _ s)

/-! ### The entry that goes -/

/-- The queue's first entry of a kind is found. -/
theorem find?_of_split {p : Entry → Bool} {queue before after : List Entry} {e : Entry}
    (split : queue = before ++ e :: after) (first : ∀ x ∈ before, p x = false) (he : p e = true) :
    queue.find? p = some e :=
  List.find?_eq_some_iff_append.mpr ⟨he, before, after, split, fun x hx => by simp [first x hx]⟩

/-- The entries of a queue but one, none of which is the same item. -/
abbrev Apart (e : Entry) (before after : List Entry) : Prop :=
  ∀ x ∈ before ++ after, ¬(x.kind = e.kind ∧ x.key = e.key)

theorem map_is_of_apart {e : Entry} {before after : List Entry} (apart : Apart e before after) (f : Entry → Entry) :
    (before ++ e :: after).map (fun x => if x.is e.kind e.key then f x else x) = before ++ f e :: after := by
  have stands : ∀ l : List Entry, (∀ x ∈ l, ¬(x.kind = e.kind ∧ x.key = e.key)) →
      l.map (fun x => if x.is e.kind e.key then f x else x) = l := fun l hl =>
    (List.map_congr_left fun x hx => if_neg (by simpa [Entry.is] using hl x hx)).trans (List.map_id l)
  rw [List.map_append, List.map_cons, stands before fun x hx => apart x (List.mem_append_left _ hx),
    stands after fun x hx => apart x (List.mem_append_right _ hx), if_pos (by simp [Entry.is])]

theorem updateEntry_split {s : State} {e : Entry} {before after : List Entry}
    (split : s.scheduler.queue = before ++ e :: after) (apart : Apart e before after) (f : Entry → Entry) :
    updateEntry e.kind e.key f s =
      { s with scheduler := { s.scheduler with queue := before ++ f e :: after } } := by
  simp only [updateEntry, split, map_is_of_apart apart]

/-- An entry on the air in a slot. -/
def gone (slot : Nat) (e : Entry) (s : State) : Entry :=
  { e with state := .sent, grantWait := none, sentAs := some (sentNow slot s) }

theorem sendEntry_short {s : State} {e : Entry} {before after : List Entry}
    (split : s.scheduler.queue = before ++ e :: after) (apart : Apart e before after) (short : e.kind.long = false)
    (slot : Nat) :
    sendEntry e slot s = { transmit (itemOf e s) s with scheduler := { s.scheduler with
      queue := before ++ gone slot e s :: after } } := by
  have sent := updateEntry_split (s := transmit (itemOf e s) s) split apart
    fun x => { x with state := .sent, sentAs := some (sentNow slot s), grantWait := none }
  simp only [sendEntry, short, sent, gone, Bool.false_eq_true, if_false]
  rfl

theorem sendEntry_long {s : State} {e : Entry} {before after : List Entry}
    (split : s.scheduler.queue = before ++ e :: after) (apart : Apart e before after) (long : e.kind.long = true)
    (slot : Nat) :
    sendEntry e slot s = { transmit (itemOf e s) s with scheduler := { s.scheduler with
      slotReq := none, queue := before ++ gone slot e s :: after } } := by
  have sent := updateEntry_split (s := transmit (itemOf e s) s) split apart
    fun x => { x with state := .sent, sentAs := some (sentNow slot s), grantWait := none }
  simp only [sendEntry, long, sent, gone, if_true]
  rfl

theorem sendSlotReq_split {s : State} {e : Entry} {before after : List Entry}
    (split : s.scheduler.queue = before ++ e :: after) (apart : Apart e before after) (slot : Nat) :
    sendSlotReq e slot s = { transmit .slotReq s with scheduler := { s.scheduler with
      slotReq := some (e.kind, e.key),
      queue := before ++ { e with state := .requesting, sentAs := some (sentNow slot s) } :: after } } := by
  have sent := updateEntry_split (s := transmit .slotReq s) split apart
    fun x => { x with state := .requesting, sentAs := some (sentNow slot s) }
  simp only [sendSlotReq, sent]
  rfl

theorem itemOf_emergency {e : Entry} (h : e.kind = .emergency) (s : State) : itemOf e s = emergencyItem s := by
  simp only [itemOf, h]

/-! ### Contention -/

theorem contendSlot_unused {s : State} (fresh : s.scheduler.contentionUsed = false) {e : Entry}
    (first : contentionCandidate s = some e) (slot draw : Nat) :
    contendSlot slot draw s =
      if e.kind = .emergency then useContention (sendEntry e slot s)
      else if draw < s.receiver.persistence then
        useContention (if e.kind.long then sendSlotReq e slot s else sendEntry e slot s)
      else s := by
  simp only [contendSlot, fresh, first, Bool.false_eq_true, if_false]

theorem contendSlot_none {s : State} (none : contentionCandidate s = none) (slot draw : Nat) :
    contendSlot slot draw s = s := by
  simp only [contendSlot, none, ite_self]

/-- Settles O29. -/
theorem emergencyGoesWithCertainty : Obligations.EmergencyGoesWithCertainty := by
  unfold Obligations.EmergencyGoesWithCertainty
  intro slot draw s l e rest powered mapped next contended may queue kind waiting alone
  have open' : MayTransmit (slotBegun slot.val s) := may
  have split : (slotBegun slot.val s).scheduler.queue = [] ++ e :: rest := queue
  have apart : Apart e [] rest := fun x hx same => alone x hx (same.1.trans kind)
  have short : e.kind.long = false := by rw [kind]; rfl
  have alarm : waitingEmergency (slotBegun slot.val s) = some e := find?_of_split split (by simp) (by simp [kind, waiting])
  have candidate : contentionCandidate (slotBegun slot.val s) = some e :=
    find?_of_split split (by simp) (by simp [short, waiting])
  refine ⟨fun fresh => ?_, fun used => ?_⟩
  · have goes : useContention (sendEntry e slot.val (slotBegun slot.val s)) = { slotBegun slot.val s with
        receiver := { s.receiver with
          nextSlot := slot.val + 1
          transmission := some ⟨s.store.working.address, emergencyItem (slotBegun slot.val s), (slotBegun slot.val s).now⟩ }
        scheduler := { s.scheduler with
          contentionUsed := true, queue := gone slot.val e (slotBegun slot.val s) :: rest } } := by
      rw [sendEntry_short split apart short, itemOf_emergency kind]
      rfl
    rcases contended with h | h
    · rw [exec_slotStart_used draw powered mapped next h, useSlot_contention open',
        contendSlot_unused (s := slotBegun slot.val s) fresh candidate, if_pos kind, goes]
      rfl
    · have first : useEmergContention slot.val (slotBegun slot.val s) =
          useContention (sendEntry e slot.val (slotBegun slot.val s)) := by
        have fresh' : (slotBegun slot.val s).scheduler.contentionUsed = false := fresh
        simp only [useEmergContention, fresh', alarm, Bool.false_eq_true, if_false]
      rw [exec_slotStart_used draw powered mapped next h, useSlot_emergContention open', first, goes]
      rfl
  · rcases contended with h | h
    · rw [exec_slotStart_used draw powered mapped next h, useSlot_contention open',
        contendSlot_used (s := slotBegun slot.val s) used]
      rfl
    · rw [exec_slotStart_used draw powered mapped next h, useSlot_emergContention open',
        useEmergContention_used (s := slotBegun slot.val s) used]
      rfl

/-- Settles O30. -/
theorem contentionFollowsThePersistence : Obligations.ContentionFollowsThePersistence := by
  unfold Obligations.ContentionFollowsThePersistence
  intro slot draw s l powered mapped next contended may fresh
  have open' : MayTransmit (slotBegun slot.val s) := may
  have used := (exec_slotStart_used draw powered mapped next contended).trans
    (congrArg Host.Outcome.next (useSlot_contention open' slot.val draw.val))
  refine ⟨fun none => ?_, fun before e after split before_not competes apart kind => ?_⟩
  · rw [used, contendSlot_none (s := slotBegun slot.val s) (contentionCandidate_eq_none.mpr none)]
    rfl
  · have split' : (slotBegun slot.val s).scheduler.queue = before ++ e :: after := split
    have candidate : contentionCandidate (slotBegun slot.val s) = some e :=
      find?_of_split split' (fun x hx => by
        simpa [slotBegun, Option.isSome_iff_ne_none] using before_not x hx) (by simpa [slotBegun] using competes)
    have contends := contendSlot_unused (s := slotBegun slot.val s) fresh candidate slot.val draw.val
    rw [if_neg kind] at contends
    have persistence : (slotBegun slot.val s).receiver.persistence = s.receiver.persistence := rfl
    rw [persistence] at contends
    refine ⟨fun below short => ?_, fun below long => ?_, fun above => ?_⟩
    · rw [used, contends, if_pos below, short, if_neg Bool.false_ne_true, sendEntry_short split' apart short]
      rfl
    · rw [used, contends, if_pos below, if_pos long, sendSlotReq_split split' apart]
      rfl
    · rw [used, contends, if_neg (Nat.not_lt.mpr above)]
      rfl

/-! ### Granted slots -/

theorem useGrant_alarm {s : State} {e : Entry} (alarm : waitingEmergency s = some e) (slot : Nat) :
    useGrant slot s = restartGrantWait (sendEntry e slot s) := by
  simp only [useGrant, alarm]

theorem useGrant_awaiting {s : State} {e : Entry} (calm : waitingEmergency s = none)
    (awaits : awaitingGrant s = some e) (slot : Nat) : useGrant slot s = sendEntry e slot s := by
  simp only [useGrant, calm, awaits]

theorem useGrant_short {s : State} {e : Entry} (calm : waitingEmergency s = none) (none : awaitingGrant s = none)
    (short : waitingShort s = some e) (slot : Nat) : useGrant slot s = sendEntry e slot s := by
  simp only [useGrant, calm, none, short]

/-- A granted slot with no entry for it carries a fill STATUS, in FULL watch alone. -/
theorem useGrant_fill {s : State} (none : ∀ x ∈ s.scheduler.queue,
    ¬(x.kind.long = true ∧ x.state = .awaitGrant) ∧ ¬(x.kind.long = false ∧ x.state = .waiting)) (slot : Nat) :
    useGrant slot s = if s.receiver.watch = .full then sendFill slot s else s := by
  have calm : waitingEmergency s = Option.none := waitingEmergency_eq_none.mpr fun x hx alarm =>
    (none x hx).2 ⟨by rw [alarm.1]; rfl, alarm.2⟩
  simp only [useGrant, calm, awaitingGrant_eq_none.mpr fun x hx => (none x hx).1,
    waitingShort_eq_none.mpr fun x hx => (none x hx).2]

theorem assignment_eq_some {s : State} {n : Nat} (h : assignment s = some n) :
    ∃ o ∈ s.board.entries, o.state = .awarded ∧ o.number = n := by
  obtain ⟨o, ho, hn⟩ := Option.map_eq_some_iff.mp h
  exact ⟨o, List.mem_of_find?_eq_some ho, by simpa using List.find?_some ho, hn⟩

theorem assignment_eq_none {s : State} (h : assignment s = none) : ∀ o ∈ s.board.entries, o.state ≠ .awarded := by
  simpa using Option.map_eq_none_iff.mp h

/-- Settles O31, one clause for each case of R30. -/
theorem grantCarriesOneItem : Obligations.GrantCarriesOneItem := by
  unfold Obligations.GrantCarriesOneItem
  intro slot draw s l powered mapped next granted may
  have open' : MayTransmit (slotBegun slot.val s) := may
  have used := (exec_slotStart_used draw powered mapped next granted).trans
    (congrArg Host.Outcome.next ((useSlot_grant open' slot.val draw.val _).trans (if_pos rfl)))
  refine ⟨fun before e after split apart => ⟨fun alarm first => ?_, fun awaits calm first => ?_,
    fun short calm first => ?_⟩, fun none => ⟨fun full => ?_, fun sparse => ?_⟩, ?_,
    fun n => assignment_eq_some, assignment_eq_none, fun e => ?_⟩
  · have split' : (slotBegun slot.val s).scheduler.queue = before ++ e :: after := split
    have short : e.kind.long = false := by rw [alarm.1]; rfl
    rw [used, useGrant_alarm (s := slotBegun slot.val s) 
      (find?_of_split split' (fun x hx => by simpa using first x hx) (by simpa using alarm)),
      sendEntry_short split' apart short, itemOf_emergency alarm.1]
    simp only [restartGrantWait, List.map_append, List.map_cons]
    rfl
  · have split' : (slotBegun slot.val s).scheduler.queue = before ++ e :: after := split
    rw [used, useGrant_awaiting (s := slotBegun slot.val s) (waitingEmergency_eq_none.mpr calm)
      (find?_of_split split' (fun x hx => by simpa using first x hx) (by simpa using awaits)),
      sendEntry_long split' apart awaits.1]
    rfl
  · have split' : (slotBegun slot.val s).scheduler.queue = before ++ e :: after := split
    rw [used, useGrant_short (s := slotBegun slot.val s) (waitingEmergency_eq_none.mpr fun x hx => (calm x hx).1)
      (awaitingGrant_eq_none.mpr fun x hx => (calm x hx).2)
      (find?_of_split split' (fun x hx => by simpa using first x hx) (by simpa using short)),
      sendEntry_short split' apart short.1]
    rfl
  · rw [used, useGrant_fill (s := slotBegun slot.val s) none]
    exact congrArg Host.Outcome.next (if_pos full)
  · rw [used, useGrant_fill (s := slotBegun slot.val s) none]
    exact congrArg Host.Outcome.next (if_neg (by simp [slotBegun, sparse]))
  · cases state : s.meter.state <;> cases a : assignment s <;> simp [statusItem, cabState, state, a]
  · refine ⟨fun h => ?_, fun h => ?_, fun h => ?_, fun h => ?_, fun c h hc => ?_, fun c h hc => ?_, fun x h hx => ?_,
      fun r h hr => ?_⟩ <;> simp only [itemOf, *]

/-! ### Beacons -/

theorem exec_emergencyBeacon_due {s : State} (powered : s.powered = true) (alarmed : s.emergency.state ≠ .idle)
    (search : s.receiver.sync = .search) (notPending : s.receiver.voice ≠ .pending)
    (notGranted : s.receiver.voice ≠ .granted) :
    exec .emergencyBeacon s = .next (sendBeacon (advanceTo (beaconInstant s) s)) :=
  congrArg Host.Outcome.next (atInstant_due (t := beaconInstant s)
    (by simp [beaconDue, dueWhen, beaconRuns, voiceGrant, powered, alarmed, search, notPending, notGranted]) _ s)

/-- What an EMERGENCY item says of the fare: the open trip's, without extras. -/
theorem currentFare_open {s : State} {x : Trip} (h : s.meter.state = .hired ∨ s.meter.state = .stopped)
    (trip : s.meter.trip = some x) : currentFare s = x.fare := by
  rcases h with h | h <;> simp [currentFare, openTripOf, h, trip, MeterState.onTrip]

theorem currentFare_closed {s : State} (h : s.meter.state = .off ∨ s.meter.state = .free) : currentFare s = 0 := by
  rcases h with h | h <;> simp [currentFare, openTripOf, h, MeterState.onTrip]

theorem sendBeacon_set {s : State} (low : 1 ≤ s.store.working.address) (high : s.store.working.address ≤ 4094) :
    sendBeacon s = transmit (emergencyItem s) { s with scheduler := { s.scheduler with lastBeacon := some s.now } } :=
  if_pos (by simp [addressSet, low, high])

theorem sendBeacon_unset {s : State} (unset : s.store.working.address = 0 ∨ 4094 < s.store.working.address) :
    sendBeacon s = { s with scheduler := { s.scheduler with lastBeacon := some s.now } } :=
  if_neg (by simp only [addressSet, Bool.and_eq_true, decide_eq_true_eq]; omega)

/-- Settles O34. -/
theorem beaconsWithoutASlot : Obligations.BeaconsWithoutASlot := by
  intro s
  refine ⟨fun powered alarmed search notPending notGranted => ?_, fun closed => ?_, currentFare s, currentFare_closed,
    fun x => currentFare_open, ?_⟩
  · have due := exec_emergencyBeacon_due powered alarmed search notPending notGranted
    refine ⟨fun low high => ?_, fun unset => ?_⟩
    · rw [due, sendBeacon_set (s := advanceTo (beaconInstant s) s) low high]
      rfl
    · rw [due, sendBeacon_unset (s := advanceTo (beaconInstant s) s) unset]
      rfl
  · refine congrArg Host.Outcome.next (atInstant_not_due ?_ _ s)
    rcases closed with h | h | h | h | h <;> simp [beaconDue, dueWhen, beaconRuns, voiceGrant, h]
  · have duress : (s.emergency.state == .covert) = decide (s.emergency.state = .covert) := rfl
    simp only [emergencyItem, reportedFix, secondsSince, duress]

/-! ### Claims, offers and the timers -/

/-- A due instant for a record found. -/
theorem claimDeadlineDue_waiting {n : Nat} {s : State} {e : Entry} (powered : s.powered = true)
    (found : findEntry .claim n s = some e) (waiting : e.state = .waiting) :
    claimDeadlineDue n s = e.deadline.map (· * 1000) := by
  simp only [claimDeadlineDue, found, powered, waiting, and_self, if_true]

theorem findEntry_dropEntry (k : EntryKind) (n : Nat) (s : State) : findEntry k n (dropEntry k n s) = none := by
  simp [findEntry, dropEntry, List.find?_filter]

/-- An open entry that is not the assignment closes at its instant with no other effect. -/
theorem closeOffer_advanced {n : Nat} {s : State} {o : Offer} (found : findOffer n s = some o)
    (state : o.state ≠ .awarded) (outcome : OfferOutcome) (t : Nat) :
    closeOffer n outcome (advanceTo t s) = raise .offerClosed { s with
      now := max s.now t, board := closedOn n outcome s.board } := by
  rw [closeOffer_of_ne_awarded n outcome (advanceTo t s) o found state]
  rfl

/-- The end of a claim transmits nothing and returns no watch. -/
theorem claimEnds_receiver (n : Nat) (outcome : OfferOutcome) (s : State) :
    (claimEnds n outcome s).receiver = s.receiver := by
  cases h : findOffer n s with
  | none => simp only [claimEnds, h]
  | some o =>
    by_cases ho : o.state = .claiming
    · rw [findOffer_of_claiming h ho]
      rfl
    · simp only [claimEnds, h, if_neg ho]

/-- Settles O32. -/
theorem claimsAndOffersRunOut : Obligations.ClaimsAndOffersRunOut := by
  intro n s powered
  refine ⟨fun e d found waiting deadline => ?_, fun e found notWaiting => ?_, fun o found =>
    ⟨fun state => ?_, fun state => ?_, fun state => ?_, fun state => ?_⟩⟩
  · have due : claimDeadlineDue n s = some (d * 1000) := by
      rw [claimDeadlineDue_waiting powered found waiting, deadline]
      rfl
    refine ⟨_, congrArg Host.Outcome.next (atInstant_due due (expireClaim n) s), ?_⟩
    obtain ⟨⟨-, now, -, -, nonvolatile⟩, ⟨-, -, store⟩, ⟨meter, accounts, -⟩, inbox, emergency⟩ :=
      claimEnds_frame n .expired (dropEntry .claim n (advanceTo (d * 1000) s))
    refine ⟨now, ?left, fun o ho claiming => ?closed, claimEnds_receiver _ _ _, meter, accounts, inbox, emergency,
      store, nonvolatile⟩
    case left =>
      rw [expireClaim, findEntry, claimEnds_scheduler]
      exact findEntry_dropEntry .claim n (advanceTo (d * 1000) s)
    case closed =>
      rw [expireClaim, findOffer_of_claiming (s := dropEntry .claim n (advanceTo (d * 1000) s)) ho claiming]
      exact ⟨rfl, (mem_insertEvent _ _ _).mpr (.inl rfl)⟩
  · exact congrArg Host.Outcome.next (atInstant_not_due (by simp [claimDeadlineDue, found, notWaiting]) _ s)
  · refine (congrArg Host.Outcome.next (atInstant_due (t := o.expiry * 1000) ?_ _ s)).trans
      (congrArg Host.Outcome.next (closeOffer_advanced found (by simp [state]) .expired _))
    simp [offerExpiryDue, dueWhen, found, powered, state]
  · exact congrArg Host.Outcome.next (atInstant_not_due (by simp [offerExpiryDue, dueWhen, found, state]) _ s)
  · refine (congrArg Host.Outcome.next (atInstant_due (t := (o.expiry + 15) * 1000) ?_ _ s)).trans
      (congrArg Host.Outcome.next (closeOffer_advanced found (by simp [state]) .noAnswer _))
    simp [noAnswerDue, noAnswerMs, dueWhen, found, powered, state]
  · exact congrArg Host.Outcome.next (atInstant_not_due (by simp [noAnswerDue, dueWhen, found, state]) _ s)

/-- What a placement leaves of the radio: all but the watch's own fields, the queue and the STATUS to come. -/
structure PlacingLeft (s t : State) : Prop where
  receiver : t.receiver = { s.receiver with
    watch := t.receiver.watch, expected := t.receiver.expected, span := t.receiver.span
    sparseHeld := t.receiver.sparseHeld }
  scheduler : t.scheduler = { s.scheduler with
    queue := t.scheduler.queue, regenerate := t.scheduler.regenerate }

namespace PlacingLeft

theorem refl (s : State) : PlacingLeft s s := ⟨rfl, rfl⟩

theorem trans {s t u : State} (a : PlacingLeft s t) (b : PlacingLeft t u) : PlacingLeft s u :=
  ⟨by rw [b.receiver, a.receiver], by rw [b.scheduler, a.scheduler]⟩

theorem returnToFull (s : State) : PlacingLeft s (returnToFull s) :=
  ⟨by rw [returnToFull_eq], by rw [returnToFull_eq]⟩

theorem placeEntry (kind : EntryKind) (key : Nat) (content : EntryContent) (deadline : Option Nat) (s : State) :
    PlacingLeft s (placeEntry kind key content deadline s) :=
  placeEntry_kept (fun _ _ h => ⟨by rw [h.receiver], by rw [h.scheduler]⟩) (fun u h => h.trans (returnToFull u))
    kind key content deadline (refl s)

theorem generateStatus (s : State) : PlacingLeft s (generateStatus s) := by
  unfold Machine.generateStatus
  split
  · exact placeEntry _ _ _ _ s
  · split
    · exact ⟨rfl, rfl⟩
    all_goals exact refl s

end PlacingLeft

/-- A placement that the cap and the items standing allow puts the new entry in the queue. -/
theorem placeEntry_placed {kind : EntryKind} {key : Nat} {s : State}
    (new : ∀ e ∈ s.scheduler.queue, ¬(e.kind = kind ∧ e.key = key))
    (room : s.scheduler.queue.countP (fun e => kind.sharesCap e.kind) < kind.cap) (content : EntryContent)
    (deadline : Option Nat) :
    (placeEntry kind key content deadline s).scheduler = { s.scheduler with
      queue := insertEntry (newEntry kind key content deadline s) s.scheduler.queue } := by
  rcases placeEntry_cases kind key content deadline s with ⟨-, scheduler, -⟩ | ⟨refused, -⟩
  · exact scheduler
  · exact absurd (placementOf_placed kind key s new room) refused

/-- The entry of a kind with a cap of its own, placed where none of its kind stands. -/
theorem placeEntry_lone {kind : EntryKind} {s : State} (own : ∀ k, kind.sharesCap k = true → k = kind)
    (cap : 0 < kind.cap) (none : ∀ e ∈ s.scheduler.queue, e.kind ≠ kind) (key : Nat) (content : EntryContent)
    (deadline : Option Nat) :
    newEntry kind key content deadline s ∈ (placeEntry kind key content deadline s).scheduler.queue := by
  have zero : s.scheduler.queue.countP (fun e => kind.sharesCap e.kind) = 0 :=
    List.countP_eq_zero.mpr fun e he same => none e he (own e.kind same)
  rw [placeEntry_placed (fun e he same => none e he same.1) (by rw [zero]; exact cap)]
  exact (mem_insertEntry _ _ _).mpr (.inl rfl)

theorem placeEntry_emergency {s : State} (none : ∀ e ∈ s.scheduler.queue, e.kind ≠ .emergency) :
    newEntry .emergency 0 .none Option.none s ∈ (placeEntry .emergency 0 .none Option.none s).scheduler.queue :=
  placeEntry_lone (fun k same => (by simpa [EntryKind.sharesCap] using same : EntryKind.emergency = k).symm)
    (by decide) none 0 .none Option.none

theorem reportDue_running {s : State} {i : Nat} (powered : s.powered = true) (since : s.emergency.reportSince = some i)
    (alarmed : s.emergency.state ≠ .idle) :
    reportDue s = some (i + if s.emergency.state = .acknowledged ∨
      s.emergency.state = .covert ∧ s.emergency.acknowledged = true then 30000 else 5000) := by
  cases state : s.emergency.state <;> cases acknowledged : s.emergency.acknowledged <;>
    simp [reportDue, reportInterval, powered, since, state, acknowledged] at alarmed ⊢

/-- A STATUS generated is generated of every state with the same queue. -/
theorem StatusGenerated.of_queue {s t u : State} (h : StatusGenerated u t)
    (queue : u.scheduler.queue = s.scheduler.queue) : StatusGenerated s t where
  placed := queue ▸ h.placed
  sent := queue ▸ h.sent

/-- The status timer restarted at this instant. -/
def statusRestarted (s : State) : State := { s with scheduler := { s.scheduler with statusSince := s.now } }

/-- The report timer stopped. -/
def reportStopped (s : State) : State := { s with emergency := { s.emergency with reportSince := none } }

/-- The 60 s mark taken, before its STATUS. -/
def parkMarkTaken (s : State) : State :=
  { s with receiver := { s.receiver with parkMarked := true },
           scheduler := { s.scheduler with parkMark := some s.now } }

theorem exec_statusTimerExpiry_due {s : State} (powered : s.powered = true) :
    exec .statusTimerExpiry s = .next (generateStatus (statusRestarted
      (advanceTo (s.scheduler.statusSince + s.receiver.statusInterval * 1000) s))) :=
  congrArg Host.Outcome.next (atInstant_due (by simp [statusTimerDue, dueWhen, powered]) _ s)

theorem exec_parkTimer60s_due {s : State} {p : Nat} (powered : s.powered = true)
    (since : s.receiver.parkSince = some p) (marked : s.receiver.parkMarked = false) :
    exec .parkTimer60s s = .next (markParked (advanceTo (p + 60000) s)) :=
  congrArg Host.Outcome.next (atInstant_due (by simp [parkMarkDue, powered, since, marked]) _ s)

/-- Settles O33. -/
theorem timersPlaceEntries : Obligations.TimersPlaceEntries := by
  refine ⟨fun s powered => ⟨?status, fun i since alarmed => ?report, fun stopped => ?none⟩,
    fun s p powered since marked => ?park⟩
  case status =>
    refine ⟨_, exec_statusTimerExpiry_due powered, ?_⟩
    obtain ⟨⟨-, now, -, -, nonvolatile⟩, ⟨locator, panel, store⟩, ⟨meter, accounts, -⟩, board, inbox, emergency⟩ :=
      generateStatus_frame (statusRestarted
        (advanceTo (s.scheduler.statusSince + s.receiver.statusInterval * 1000) s))
    have since := congrArg Scheduler.statusSince (PlacingLeft.generateStatus (statusRestarted
      (advanceTo (s.scheduler.statusSince + s.receiver.statusInterval * 1000) s))).scheduler
    exact ⟨now, since.trans now.symm, (statusGenerated_generateStatus _).of_queue rfl, board, meter, accounts,
      inbox, emergency, locator, panel, store, nonvolatile⟩
  case report =>
    refine ⟨_, congrArg Host.Outcome.next (atInstant_due (reportDue_running powered since alarmed) placeReport s), ?_⟩
    obtain ⟨⟨-, now, -, -, nonvolatile⟩, ⟨locator, panel, store⟩, ⟨meter, accounts, -⟩, board, inbox, emergency⟩ :=
      placeEntry_frame .emergency 0 .none none (reportStopped (advanceTo (i + if s.emergency.state = .acknowledged ∨
        s.emergency.state = .covert ∧ s.emergency.acknowledged = true then 30000 else 5000) s))
    exact ⟨now, emergency, fun none => ⟨_, placeEntry_emergency (s := reportStopped (advanceTo _ s)) none, rfl, rfl,
      rfl, now.symm⟩, board, meter, accounts, inbox, locator, panel, store, nonvolatile⟩
  case none =>
    refine congrArg Host.Outcome.next (atInstant_not_due ?_ _ s)
    rcases stopped with h | h <;> simp [reportDue, h]
  case park =>
    refine ⟨_, exec_parkTimer60s_due powered since marked, ?_⟩
    obtain ⟨⟨-, now, -, -, nonvolatile⟩, ⟨locator, panel, store⟩, ⟨meter, accounts, -⟩, board, inbox, emergency⟩ :=
      generateStatus_frame (parkMarkTaken (advanceTo (p + 60000) s))
    obtain ⟨receiver, scheduler⟩ := PlacingLeft.generateStatus (parkMarkTaken (advanceTo (p + 60000) s))
    exact ⟨now, congrArg Receiver.parkMarked receiver, (congrArg Receiver.parkSince receiver).trans since,
      (congrArg Scheduler.parkMark scheduler).trans (congrArg some now.symm),
      (statusGenerated_generateStatus _).of_queue rfl, (congrArg Receiver.parkedStatus receiver :),
      (congrArg Receiver.sync receiver :), locator, panel, board, meter, accounts, inbox, emergency, store, nonvolatile⟩

end Sys2Proof.Machine
end

section
/-! PROOFS. The requests that only report: each content written out, and its reply. -/

namespace Sys2Proof.Machine

theorem alertLine_iff (s : State) : alertLine s = true ↔
    s.store.working.alertMode = .follow ∧ (s.emergency.state = .active ∨ s.emergency.state = .acknowledged) ∨
      s.store.working.alertMode = .latched ∧ s.emergency.latch = true := by
  cases mode : s.store.working.alertMode <;> cases state : s.emergency.state <;>
    simp [alertLine, mode, state, EmState.open]

theorem open_eq (e : EmState) : e.open = (e == .active || e == .acknowledged) := by
  cases e <;> rfl

theorem uncalibrated_eq (s : State) : uncalibrated s =
    decide (s.store.working.metrology.pulseConstant = 0 ∨ s.store.working.metrology.tariffs.t1.valid = false) := by
  cases valid : s.store.working.metrology.tariffs.t1.valid <;>
    simp [uncalibrated, valid, beq_eq_decide]

theorem shownKey_eq (e : Entry) :
    e.shownKey = if e.kind = .status ∨ e.kind = .emergency then none else some e.key := by
  cases kind : e.kind <;> simp [Entry.shownKey, kind]

theorem shownQueue_eq (s : State) : shownQueue s =
    s.scheduler.queue.filter fun e => !(s.emergency.state == .covert && e.kind == .emergency) := by
  by_cases covert : s.emergency.state = .covert
  · simp [shownQueue, covert]
  · rw [shownQueue, if_neg covert]
    exact (List.filter_eq_self.mpr fun e _ => by simp [covert]).symm

theorem reportField_shownIdle {s : State} (h : s.emergency.state.open = false) :
    reportField s = [.count 0, .name 0, .num 30 0] := by
  simp [reportField, h]

theorem reportField_standing {s : State} (h : s.emergency.state.open = true)
    (standing : ∃ e ∈ s.scheduler.queue, e.kind = .emergency ∧ e.key = 0) :
    reportField s = [.count 1, .name 0, .num 30 0] := by
  have found : (findEntry .emergency 0 s).isSome = true := by
    simpa [findEntry, Entry.is, List.find?_isSome] using standing
  simp [reportField, h, found]

theorem reportField_timed {s : State} (h : s.emergency.state.open = true)
    (none : ∀ e ∈ s.scheduler.queue, ¬(e.kind = .emergency ∧ e.key = 0)) :
    ∃ n, reportField s = [.count 1, .name 1, .num 30 n] := by
  have missing : findEntry .emergency 0 s = Option.none := by
    simpa [findEntry, Entry.is] using none
  exact ⟨_, by simp [reportField, h, missing]; rfl⟩

/-- A request that only reports: its content is the answer's, also written in another form. -/
theorem exec_reading {c : Instr} {s t : State} {tag : Tag} {content written : List Field} (h : Listening s)
    (requested : exec c s = .next (request c s)) (serves : serveRequest c s = answer tag .ok content t)
    (same : content = written) : exec c s = .next (answer tag .ok written t) := by
  rw [requested, request_listening c s h, serves, same]

/-- Settles O35, one clause for each reading. -/
theorem readingsReportWhatStands : Obligations.ReadingsReportWhatStands := by
  unfold Obligations.ReadingsReportWhatStands
  intro s h told seconds alarmed trip k sums copy
  have open_alarmed : s.emergency.state.open = alarmed := open_eq _
  refine ⟨alertLine_iff s, ?link, ?zone, fun a low high fits => ?zones, ?panel, ⟨resumeLeft s, ?left, ?closed, ?meter⟩,
    ?totals, fun q e which number found => ?trip, fun n m low high found => ?message,
    ⟨reportField s, ?shownIdle, ?standing, ?timed, ?emergency⟩, fun q l selected => ?setting,
    ⟨beaconLeft s, ?beacon, ?uplink⟩, ?board, ?inbox, ?restart, ?identify⟩
  case link =>
    refine exec_reading h rfl rfl ?_
    simp only [linkContent, List.flatten_cons, List.flatten_nil, List.append_assoc, List.append_nil]
    rfl
  case zone =>
    refine exec_reading h rfl rfl ?_
    exact (List.append_nil _).symm
  case panel =>
    refine exec_reading h rfl rfl ?_
    exact (List.append_nil _).symm
  case inbox =>
    exact exec_reading (t := { s with inbox := { s.inbox with refused := false } }) (content := inboxContent s)
      h rfl rfl (List.append_nil _).symm
  case restart =>
    exact exec_reading (t := { s with panel := { s.panel with calibration := 0, calibrationSince := s.now } })
      (content := panelContent s) h rfl rfl (List.append_nil _).symm
  case identify =>
    exact exec_reading (t := { s with link := { s.link with earlyCount := 0 } }) (content := identity s) h rfl rfl rfl
  case zones =>
    have first : within 0 lastPosition a.first = true := by simp [within, lastPosition]; omega
    have count : within 1 8 a.count = true := by simp [within, low, high]
    refine exec_reading h rfl (content := zoneReadContent a s) ?_ ?_
    · show serveZoneRead a s = _
      rw [serveZoneRead, if_neg (by simp [first, count]), if_neg (by simp [lastPosition]; omega)]
    · rw [zoneReadContent, List.flatMap_def]
      rfl
  case left => by_cases stopped : s.meter.state = .stopped <;> simp [resumeLeft, stopped]
  case closed => exact fun stopped closed => by simp [resumeLeft, stopped, closed]
  case meter =>
    refine exec_reading h rfl rfl ?_
    simp only [meterContent, List.flatten_cons, List.flatten_nil, List.append_assoc, List.append_nil, uncalibrated_eq]
    rfl
  case totals =>
    refine exec_reading h rfl rfl ?_
    simp only [totalsContent, List.flatten_cons, List.flatten_nil, List.append_assoc, List.append_nil]
    rfl
  case trip =>
    refine exec_reading h rfl (content := tripReadContent e s) ?_ ?_
    · show serveTripRead q s = _
      rw [serveTripRead, if_neg (by simpa [within] using ⟨which, number⟩), found]
    · simp only [tripReadContent, List.flatten_cons, List.flatten_nil, List.append_nil]
  case message =>
    refine exec_reading h rfl (content := messageContent m s) ?_ (List.append_nil _).symm
    show serveInboxRead n s = _
    rw [serveInboxRead, if_neg (by simp [within, high]), if_neg (by omega), found]
  case shownIdle => exact fun idle => reportField_shownIdle (open_alarmed.trans idle)
  case standing => exact fun shown => reportField_standing (open_alarmed.trans shown)
  case timed => exact fun shown => reportField_timed (open_alarmed.trans shown)
  case emergency =>
    have code : (shownState s).code = (match s.emergency.state with
        | .idle => 0 | .active => 1 | .acknowledged => 2 | .covert => 0) := by
      cases state : s.emergency.state <;> simp [shownState, state, EmState.code]
    refine exec_reading h rfl rfl ?_
    simp only [emergencyContent, List.flatten_cons, List.flatten_nil, List.append_assoc, List.append_nil, open_alarmed,
      code]
    rfl
  case setting =>
    refine exec_reading h rfl (content := storeFields s ++ l) ?_ ?_
    · show serveSettingRead q s = _
      rw [serveSettingRead, selected]
    · simp only [List.flatten_cons, List.flatten_nil, List.append_nil]
  case beacon =>
    rw [beaconLeft, open_alarmed]
    by_cases shown : alarmed = true ∧ s.receiver.sync = .search <;> simp [shown]
  case uplink =>
    refine exec_reading (t := { s with scheduler := { s.scheduler with results := [] } }) (content := uplinkContent s)
      h rfl rfl ?_
    have row : entryRecord = fun e => List.flatten [
        [.name e.kind.code, .name e.kind.cls.code, .name e.state.code, .num 5 e.attempts],
        optNum 65535 (if e.kind = .status ∨ e.kind = .emergency then none else some e.key),
        optNum 4294967295 e.deadline,
        optField [.num 9 0, .num 4095 0] (fun x => [.num 9 x.slot, .num 4095 x.cycle]) e.sentAs,
        optNum 6 e.grantWait] := by
      funext e
      simp only [entryRecord, shownKey_eq, List.flatten_cons, List.flatten_nil, List.append_assoc, List.append_nil]
    rw [uplinkContent, shownQueue_eq, row]
    simp only [List.flatten_cons, List.flatten_nil, List.append_assoc, List.append_nil]
    rfl
  case board =>
    refine exec_reading (t := { s with board := { s.board with
      entries := s.board.entries.filter (fun o => o.state != .closed), closeOrder := [], overflow := 0 } })
      (content := boardContent s) h rfl rfl ?_
    have row : offerRecord s = fun o => List.flatten [
        [.num 65535 o.number, .name o.cls.code, .flag o.nextJob, .name o.target.code, .num 250 o.pickup,
          .num 4294967295 o.arrival, .num 4294967295 o.expiry, .num 65535 (o.expiry - s.now / 1000),
          .name o.state.code],
        optName (if o.state = .closed then o.outcome.map (·.code) else none),
        optName (o.origin.map (·.code)),
        optNum 4294967295 (if o.state = .awaitingAward then some (o.expiry + 15) else none),
        optField [.text []] (fun x => [.text x]) o.text,
        optNum 999999 o.estimate] := by
      funext o
      simp only [offerRecord, uptime, List.flatten_cons, List.flatten_nil, List.append_assoc, List.append_nil]
    rw [boardContent, row]
    simp only [List.flatten_cons, List.flatten_nil, List.append_assoc, List.append_nil]

end Sys2Proof.Machine
end

section
/-! PROOFS. The age of the newest fix, and the debounced inputs. -/

namespace Sys2Proof.Machine

/-! ### Old fixes -/

/-- A zone given up: what becomes LOST with a current zone changes it to none. -/
theorem makeLost_zone {s : State} (h : s.locator.zone ≠ 0) :
    makeLost s = changeZone none { s with locator := { s.locator with condition := .lost } } :=
  if_neg h

theorem makeLost_noZone {s : State} (h : s.locator.zone = 0) :
    makeLost s = raise .zone { s with locator := { s.locator with
      condition := .lost, record := none, candidate := none } } :=
  if_pos h

theorem makeLost_locator (s : State) : (makeLost s).locator =
    { s.locator with condition := .lost, zone := 0, record := none, candidate := none } := by
  by_cases h : s.locator.zone = 0
  · rw [makeLost_noZone h, ← h]
    rfl
  · rw [makeLost_zone h, changeZone_locator]
    rfl

theorem makeLost_event (s : State) : Pending .zone (makeLost s) := by
  by_cases h : s.locator.zone = 0
  · rw [makeLost_noZone h]
    exact (mem_insertEvent _ _ _).mpr (.inl rfl)
  · rw [makeLost_zone h]
    exact changeZone_events none _ _ (.inl rfl)

/-- A zone given up tests the board again with the served set empty. -/
theorem makeLost_retested {s : State} (h : s.locator.zone ≠ 0) (sound : BoardSound s) : Retested s (makeLost s) := by
  have lost : servedSet (makeLost s) = [] := by simp [servedSet, makeLost_locator]
  have served : servedSet s ≠ [] := List.ne_nil_of_mem ((mem_servedSet s _).mpr ⟨h, .inl rfl⟩)
  have told : BoardTold s (makeLost s) := by
    rw [makeLost_zone h]
    exact (changeZone_told none { s with locator := { s.locator with condition := .lost } }).congr
      (servedSet_congr rfl rfl) rfl rfl rfl rfl rfl rfl
  exact told.tested (by rw [lost]; exact served.symm) sound

theorem fixAgeDue_aged {s : State} {f : Fix} {condition : FixCondition} (age : Nat) (powered : s.powered = true)
    (fix : s.locator.fix = some f) (h : s.locator.condition = condition) :
    fixAgeDue condition age s = some (f.instant + age) := by
  simp [fixAgeDue, powered, fix, h]

theorem fixAgeDue_not {s : State} {condition : FixCondition} (age : Nat) (h : s.locator.condition ≠ condition) :
    fixAgeDue condition age s = none := by
  simp [fixAgeDue, h]

/-- Settles O37. -/
theorem oldFixesLoseTheZone : Obligations.OldFixesLoseTheZone := by
  intro s f powered fix
  refine ⟨fun fresh => ?_, fun stale => ?_, fun fresh => ?_, fun stale => ?_⟩
  · exact congrArg Host.Outcome.next (atInstant_due (fixAgeDue_aged 30000 powered fix fresh) makeStale s)
  · refine ⟨_, congrArg Host.Outcome.next (atInstant_due (fixAgeDue_aged 120000 powered fix stale) makeLost s), ?_⟩
    obtain ⟨⟨-, now, -, -, nonvolatile⟩, ⟨meter, accounts, -⟩, panel, inbox, emergency, store⟩ :=
      makeLost_frame (advanceTo (f.instant + 120000) s)
    refine ⟨now, makeLost_locator _, makeLost_event _, fun zone => ?generated, fun zone => ?board,
      fun zone sound => ?tested, meter, accounts, inbox, emergency, store, panel, nonvolatile⟩
    case generated =>
      rw [makeLost_zone (s := advanceTo _ s) zone]
      exact (changeZone_status none _).of_queue rfl
    case board =>
      rw [makeLost_noZone (s := advanceTo _ s) zone]
      rfl
    case tested =>
      have retested := makeLost_retested (s := advanceTo (f.instant + 120000) s) zone (sound.congr rfl)
      have lost : servedSet (makeLost (advanceTo (f.instant + 120000) s)) = [] := by simp [servedSet, makeLost_locator]
      refine ⟨retested.congr rfl rfl rfl rfl rfl rfl, fun o ho presented target => ?_⟩
      exact retested.dropped o ho presented fun admitted => admitted.2.elim target (by simp [lost])
  · exact congrArg Host.Outcome.next (atInstant_not_due (fixAgeDue_not 30000 fresh) makeStale s)
  · exact congrArg Host.Outcome.next (atInstant_not_due (fixAgeDue_not 120000 stale) makeLost s)

/-! ### Inputs -/

theorem panicDue_reached {s : State} {h : Nat} (powered : s.powered = true)
    (down : s.panel.keys.panic.state = .down) (unarmed : s.panel.panicArmed = false)
    (held : s.panel.keys.panic.holdSince = some h) : panicDue s = some (h + 1500) := by
  simp [panicDue, powered, down, unarmed, held]

theorem panicDue_unready {s : State} (h : ¬(s.panel.keys.panic.state = .down ∧ s.panel.panicArmed = false)) :
    panicDue s = none :=
  if_neg fun ready => h ⟨ready.2.1, by simpa using ready.2.2⟩

/-- The hold of PANIC arms before its release is recognised. -/
theorem armsFirst_iff {s : State} (powered : s.powered = true) : armsFirst s = true ↔
    s.panel.keys.panic.state = .down ∧ s.panel.panicArmed = false ∧
      ∃ h, s.panel.keys.panic.holdSince = some h ∧ h + 1500 ≤ s.panel.keys.panic.rawSince + 30 := by
  by_cases ready : s.panel.keys.panic.state = .down ∧ s.panel.panicArmed = false
  · have due : panicDue s = s.panel.keys.panic.holdSince.map (· + 1500) := by simp [panicDue, powered, ready]
    simp only [armsFirst, due, ready, true_and]
    cases held : s.panel.keys.panic.holdSince with
    | none => simp
    | some h =>
      have instant : recognised .panic s = s.panel.keys.panic.rawSince + 30 := rfl
      simp [instant]
  · simp only [armsFirst, panicDue_unready ready, Bool.false_eq_true, false_iff]
    exact fun arms => ready ⟨arms.1, arms.2.1⟩

theorem settleKey_eq (now : Nat) (x : KeyLine) : settleKey now x =
    { x with state := if x.raw then .heldAtStart else .up, holdSince := if x.raw then some now else x.holdSince } := by
  unfold settleKey
  split <;> rfl

theorem settleInput_ignition (s : State) : settleInput .ignition s = { s with
    panel := { s.panel with ignition := if s.panel.ignitionRaw then .on else .off }
    receiver := if s.panel.ignitionRaw then s.receiver else (startPark s).receiver } := by
  unfold settleInput
  dsimp only
  split <;> rfl

theorem releaseDue_pressed {k : Key} {s : State} (powered : s.powered = true) (up : (keyLine k s).raw = false)
    (pressed : (keyLine k s).state = .down ∨ (keyLine k s).state = .heldAtStart ∨ (keyLine k s).state = .stuck) :
    releaseDue k s = some ((keyLine k s).rawSince + 30) := by
  have : (keyLine k s).state.pressed = true := by rcases pressed with h | h | h <;> rw [h] <;> rfl
  simp [releaseDue, dueWhen, powered, up, this, recognised]

theorem exec_keyRelease_due {k : Key} {s : State} (powered : s.powered = true) (up : (keyLine k s).raw = false)
    (pressed : (keyLine k s).state = .down ∨ (keyLine k s).state = .heldAtStart ∨ (keyLine k s).state = .stuck) :
    exec (.keyRelease k) s = .next (endHold k (advanceTo ((keyLine k s).rawSince + 30) s)) :=
  congrArg Host.Outcome.next (atInstant_due (releaseDue_pressed powered up pressed) _ s)

theorem endHold_unarmed {k : Key} {s : State} (h : ¬(k = .panic ∧ armsFirst s = true)) : endHold k s = releaseKey k s :=
  if_neg h

theorem returnToFull_sparse {s : State} (h : s.receiver.watch = .sparse) :
    (returnToFull s).link.events = insertEvent .link s.link.events := by
  simp [returnToFull, h, raise]

theorem ignitionDue_changed {s : State} (powered : s.powered = true) (settled : s.panel.ignition ≠ .unsettled)
    (changed : s.panel.ignition ≠ toIgnition s.panel.ignitionRaw) :
    ignitionDue s = some (s.panel.ignitionSince + 30) := by
  simp [ignitionDue, dueWhen, powered, settled, changed, ignitionRecognised]

/-- The ignition line found on, before SPARSE watch returns to FULL. -/
def unparked (s : State) : State :=
  { s with
    panel := { s.panel with ignition := .on }
    receiver := { s.receiver with parkSince := none, parkMarked := false, parkedStatus := false, sparseHeld := false } }

theorem changeIgnition_on {s : State} (h : s.panel.ignitionRaw = true) :
    changeIgnition s = returnToFull (unparked s) := by
  simp only [changeIgnition, endPark, h, toIgnition, if_true, unparked]

theorem changeIgnition_off {s : State} (h : s.panel.ignitionRaw = false) :
    changeIgnition s = startPark { s with panel := { s.panel with ignition := .off } } := by
  simp only [changeIgnition, h, toIgnition, Bool.false_eq_true, if_false]

theorem armPanic_panel (s : State) : (armPanic s).panel = { s.panel with panicArmed := true } :=
  (arm_frame .panel { s with panel := { s.panel with panicArmed := true } }).2.1.2.1

theorem releaseKey_panic {s : State} {x : KeyLine} (line : keyLine .panic s = x) :
    releaseKey .panic s = { s with panel := { s.panel with
      panicArmed := false, keys := s.panel.keys.put .panic { x with state := .up, holdSince := none } } } := by
  subst line
  rfl

/-- Settles O39. -/
theorem inputsAreDebounced : Obligations.InputsAreDebounced := by
  unfold Obligations.InputsAreDebounced
  intro s withKey
  refine ⟨fun k level => rfl, fun level => rfl, fun powered => ⟨fun k => ?key, ?panic, ?ignition, ?pulse⟩⟩
  case key =>
    refine ⟨fun unsettled => ?_, fun up pressed other => ?_, fun h pressed held => ?_⟩
    · have due : firstLevelDue (.key k) s = some ((keyLine k s).rawSince + 30) := by
        simp [firstLevelDue, dueWhen, powered, unsettled, recognised]
      refine (congrArg Host.Outcome.next (atInstant_due due _ s)).trans ?_
      rw [settleInput, updateKey, settleKey_eq]
      rfl
    · rw [exec_keyRelease_due powered up pressed, endHold_unarmed fun h => other h.1, releaseKey, if_neg other]
      rfl
    · have due : stuckDue k s = some (h + 30000) := by simp [stuckDue, powered, pressed, held]
      exact congrArg Host.Outcome.next (atInstant_due due _ s)
  case panic =>
    intro x now arms released up pressed
    have release := exec_keyRelease_due (k := .panic) powered up pressed
    have armsFirst_arms : armsFirst (advanceTo (x.rawSince + 30) s) = true ↔ arms :=
      armsFirst_iff (s := advanceTo (x.rawSince + 30) s) powered
    refine ⟨fun calm => ?_, fun armed => ?_⟩
    · exact release.trans (congrArg Host.Outcome.next (endHold_unarmed fun h => calm (armsFirst_arms.mp h.2)))
    · obtain ⟨down, unarmed, h, held, reached⟩ := armed
      have due := panicDue_reached (s := advanceTo (x.rawSince + 30) s) powered down unarmed held
      have stands : advanceTo (h + 1500) (advanceTo (x.rawSince + 30) s) = advanceTo (x.rawSince + 30) s := by
        simp only [advanceTo, State.mk.injEq, and_true, true_and]
        omega
      have arming : exec .panicArming (advanceTo (x.rawSince + 30) s) =
          .next (armPanic (advanceTo (x.rawSince + 30) s)) := by
        refine (congrArg Host.Outcome.next (atInstant_due due _ _)).trans ?_
        rw [stands]
      have line : keyLine .panic (armPanic (advanceTo (x.rawSince + 30) s)) = x :=
        (congrArg (fun p : Panel => p.keys.panic) (armPanic_panel (advanceTo (x.rawSince + 30) s)) :)
      exact ⟨_, arming, release.trans (congrArg Host.Outcome.next
        ((if_pos ⟨rfl, armsFirst_arms.mpr ⟨down, unarmed, h, held, reached⟩⟩).trans (releaseKey_panic line)))⟩
  case ignition =>
    refine ⟨fun unsettled => ?_, fun on off => ?_, fun off on => ⟨fun full => ?_, fun sparse => ?_⟩⟩
    · have due : firstLevelDue .ignition s = some (s.panel.ignitionSince + 30) := by
        simp [firstLevelDue, dueWhen, powered, unsettled, ignitionRecognised]
      refine (congrArg Host.Outcome.next (atInstant_due due _ s)).trans ?_
      rw [settleInput_ignition]
      rfl
    · have due := ignitionDue_changed powered (by simp [on]) (by simp [on, off, toIgnition])
      exact (congrArg Host.Outcome.next (atInstant_due due _ s)).trans (congrArg Host.Outcome.next
        (changeIgnition_off (s := advanceTo _ s) off))
    · have due := ignitionDue_changed powered (by simp [off]) (by simp [on, off, toIgnition])
      exact (congrArg Host.Outcome.next (atInstant_due due _ s)).trans (congrArg Host.Outcome.next
        ((changeIgnition_on (s := advanceTo _ s) on).trans (returnToFull_full _ full)))
    · have due := ignitionDue_changed powered (by simp [off]) (by simp [on, off, toIgnition])
      refine ⟨_, (congrArg Host.Outcome.next (atInstant_due due _ s)).trans (congrArg Host.Outcome.next
        (changeIgnition_on (s := advanceTo _ s) on)), ?_⟩
      rw [returnToFull_eq, returnToFull_sparse (s := unparked (advanceTo (s.panel.ignitionSince + 30) s)) sparse]
      rfl
  case pulse => exact congrArg Host.Outcome.next (if_pos powered)

end Sys2Proof.Machine
end

section
/-! PROOFS. The offer board's requests, and the presses of the keys. -/

namespace Sys2Proof.Machine

/-! ### Taking an offer -/

/-- The board with an entry taken for a claim. -/
def claimedOn (n : Nat) (origin : ClaimOrigin) (b : Board) : Board :=
  { b with
    entries := b.entries.map fun x =>
      if x.number == n then { x with state := .claiming, origin := some origin } else x
    focus := if b.focus = some n then none else b.focus }

/-- The state with that board. -/
def boardClaimed (o : Offer) (origin : ClaimOrigin) (s : State) : State :=
  { s with board := claimedOn o.number origin s.board }

/-- The CLAIM of an offer placed on the board that shows it CLAIMING. -/
def claimPlaced (o : Offer) (origin : ClaimOrigin) (s : State) : State :=
  placeEntry .claim o.number .none (some o.expiry) (boardClaimed o origin s)

theorem takeClaim_early {o : Offer} {s : State} (early : s.now < o.expiry * 1000) (origin : ClaimOrigin) :
    takeClaim o origin s = claimPlaced o origin s :=
  if_neg (Nat.not_le.mpr early)

theorem claimPlaced_board (o : Offer) (origin : ClaimOrigin) (s : State) :
    (claimPlaced o origin s).board = claimedOn o.number origin s.board :=
  (placeEntry_frame ..).2.2.2.1

theorem findOffer_claimedOn {o : Offer} {s t : State} {origin : ClaimOrigin} (found : findOffer o.number s = some o)
    (board : t.board = claimedOn o.number origin s.board) :
    findOffer o.number t = some { o with state := .claiming, origin := some origin } := by
  have updated := findOffer_updateOffer (f := fun o => { o with state := .claiming, origin := some origin }) found
    fun _ => rfl
  rw [findOffer, board]
  exact updated

theorem takeClaim_late {o : Offer} {s : State} (found : findOffer o.number s = some o) (late : o.expiry * 1000 ≤ s.now)
    (origin : ClaimOrigin) :
    takeClaim o origin s = closeOnly o.number .expired (dropEntry .claim o.number (claimPlaced o origin s)) := by
  have claiming : findOffer o.number (dropEntry .claim o.number (claimPlaced o origin s)) =
      some { o with state := .claiming, origin := some origin } :=
    findOffer_claimedOn found (claimPlaced_board o origin s)
  exact (if_pos late).trans (findOffer_of_claiming claiming rfl .expired)

theorem placeEntry_claim {s : State} (none : ∀ e ∈ s.scheduler.queue, e.kind ≠ .claim) (key : Nat)
    (content : EntryContent) (deadline : Option Nat) :
    newEntry .claim key content deadline s ∈ (placeEntry .claim key content deadline s).scheduler.queue :=
  placeEntry_lone (fun k same => (by simpa [EntryKind.sharesCap] using same : EntryKind.claim = k).symm) (by decide)
    none key content deadline

/-- A placement returns the watch to FULL. -/
theorem placeEntry_watch {kind : EntryKind} {key : Nat} {s : State}
    (placed : placementOf kind key s = .placed) (content : EntryContent) (deadline : Option Nat) :
    (placeEntry kind key content deadline s).receiver.watch = .full := by
  rcases placeEntry_cases kind key content deadline s with ⟨-, -, watch⟩ | ⟨refused, -⟩
  · exact watch
  · exact absurd placed refused

theorem placementOf_claim {s : State} (none : ∀ e ∈ s.scheduler.queue, e.kind ≠ .claim) (key : Nat) :
    placementOf .claim key s = .placed := by
  have zero : s.scheduler.queue.countP (fun e => EntryKind.claim.sharesCap e.kind) = 0 :=
    List.countP_eq_zero.mpr fun e he same =>
      none e he (by simpa [EntryKind.sharesCap] using same : EntryKind.claim = e.kind).symm
  exact placementOf_placed .claim key s (fun e he same => none e he same.1) (by rw [zero]; decide)

/-- An offer taken: CLAIMING with its CLAIM placed, or, where its expiry has been reached, EXPIRED with none. -/
structure ClaimTaken (o : Offer) (origin : ClaimOrigin) (s u : State) : Prop where
  board : s.now < o.expiry * 1000 → u.board = claimedOn o.number origin s.board
  entry : s.now < o.expiry * 1000 → (∀ e ∈ s.scheduler.queue, e.kind ≠ .claim) →
    ∃ e ∈ u.scheduler.queue, e.kind = .claim ∧ e.key = o.number ∧ e.state = .waiting ∧ e.attempts = 0 ∧
      e.deadline = some o.expiry
  closed : o.expiry * 1000 ≤ s.now → u.board = closedOn o.number .expired (claimedOn o.number origin s.board)
  told : o.expiry * 1000 ≤ s.now → Pending .offerClosed u
  none : o.expiry * 1000 ≤ s.now → ∀ e ∈ u.scheduler.queue, ¬(e.kind = .claim ∧ e.key = o.number)
  watch : (∀ e ∈ s.scheduler.queue, e.kind ≠ .claim) → u.receiver.watch = .full
  core : SameCore s u
  inputs : SameInputs s u
  books : SameBooks s u
  inbox : u.inbox = s.inbox
  emergency : u.emergency = s.emergency

theorem claimTaken {o : Offer} {s : State} (found : findOffer o.number s = some o) (origin : ClaimOrigin) :
    ClaimTaken o origin s (takeClaim o origin s) := by
  have board := claimPlaced_board o origin s
  have watch (none : ∀ e ∈ s.scheduler.queue, e.kind ≠ .claim) : (claimPlaced o origin s).receiver.watch = .full :=
    placeEntry_watch (placementOf_claim (s := boardClaimed o origin s) none o.number) .none (some o.expiry)
  obtain ⟨core, inputs, books, -, inbox, emergency⟩ := placeEntry_frame .claim o.number .none (some o.expiry)
    (boardClaimed o origin s)
  rcases Nat.lt_or_ge s.now (o.expiry * 1000) with early | late
  · rw [takeClaim_early early]
    have absurdLate {P : Prop} (h : o.expiry * 1000 ≤ s.now) : P := absurd h (Nat.not_le.mpr early)
    exact ⟨fun _ => board, fun _ none => ⟨_, placeEntry_claim (s := boardClaimed o origin s) none o.number .none
      (some o.expiry), rfl, rfl, rfl, rfl, rfl⟩, absurdLate, absurdLate, absurdLate, watch, core, inputs, books, inbox, emergency⟩
  · rw [takeClaim_late found late]
    have absurdEarly {P : Prop} (h : s.now < o.expiry * 1000) : P := absurd h (Nat.not_lt.mpr late)
    refine ⟨absurdEarly, absurdEarly, fun _ => ?_, fun _ => (mem_insertEvent _ _ _).mpr (.inl rfl), fun _ e he => ?_,
      watch, core, inputs, books, inbox, emergency⟩
    · rw [closeOnly_board, ← board]
      rfl
    · exact fun claim => by simpa [Entry.is, claim] using (List.mem_filter.mp he).2

/-! ### The requests' answers -/

theorem claimOpen_iff {s : State} : claimOpen s = true ↔ ∃ o ∈ s.board.entries, o.state.claimOpen = true := by
  simp [claimOpen]

theorem exec_offerFocus {s : State} (h : Listening s) (n : Nat) :
    exec (.offerFocus (.fields n)) s = .next (serveOfferFocus n s) :=
  congrArg Host.Outcome.next (request_listening (.offerFocus (.fields n)) s h)

theorem exec_offerTake {s : State} (h : Listening s) (n : Nat) :
    exec (.offerTake (.fields n)) s = .next (serveOfferTake n s) :=
  congrArg Host.Outcome.next (request_listening (.offerTake (.fields n)) s h)

theorem exec_offerDismiss {s : State} (h : Listening s) (n : Nat) :
    exec (.offerDismiss (.fields n)) s = .next (serveOfferDismiss n s) :=
  congrArg Host.Outcome.next (request_listening (.offerDismiss (.fields n)) s h)

theorem exec_assignmentAbandon {s : State} (h : Listening s) :
    exec (.assignmentAbandon (.fields ())) s = .next (serveAssignmentAbandon s) :=
  congrArg Host.Outcome.next (request_listening (.assignmentAbandon (.fields ())) s h)

/-- A DECLINE finds room where one for the number stands or fewer than three DECLINEs do. -/
theorem placementOf_decline_iff {n : Nat} {s : State} : (placementOf .decline n s != .atCap) = true ↔
    (∃ e ∈ s.scheduler.queue, e.kind = .decline ∧ e.key = n) ∨
      s.scheduler.queue.countP (fun e => e.kind == .decline) < 3 := by
  have same : s.scheduler.queue.any (Entry.is .decline n) = true ↔
      ∃ e ∈ s.scheduler.queue, e.kind = .decline ∧ e.key = n := by
    simp [Entry.is]
  have count : standing .decline s = s.scheduler.queue.countP (fun e => e.kind == .decline) := by
    simp only [standing, EntryKind.sharesCap]
    congr 1
    funext e
    exact Bool.beq_comm
  have cap : EntryKind.decline.cap = 3 := rfl
  rw [placementOf, ← same, count, cap]
  split
  · simp [*]
  · split
    · simp [*]
    · simp [*]; omega

theorem filter_insertEntry {p : Entry → Bool} {new : Entry} (h : p new = false) (l : List Entry) :
    (insertEntry new l).filter p = l.filter p := by
  induction l with
  | nil => simp [insertEntry, h]
  | cons e es ih =>
    unfold insertEntry
    split
    · simp [h]
    · simp only [List.filter_cons, ih]

/-- A STATUS generated leaves the entries of the other kinds. -/
theorem generateStatus_others {p : Entry → Bool} (other : ∀ e, e.kind = .status → p e = false) (s : State) :
    (generateStatus s).scheduler.queue.filter p = s.scheduler.queue.filter p := by
  unfold generateStatus
  split
  · rcases placeEntry_cases .status 0 .none none s with ⟨-, scheduler, -⟩ | ⟨-, same⟩
    · rw [scheduler]
      exact filter_insertEntry (other _ rfl) _
    · rw [same]
  · split <;> rfl

theorem closeOffer_declines {n : Nat} {s : State} {o : Offer} (found : findOffer n s = some o)
    (awarded : o.state = .awarded) (outcome : OfferOutcome) :
    (closeOffer n outcome s).scheduler.queue.filter (fun e => e.kind == .decline) =
      s.scheduler.queue.filter fun e => e.kind == .decline := by
  obtain ⟨-, -, -, ⟨-, scheduler⟩, -⟩ := refilter_frame (generateStatus (closeOnly n outcome s))
  rw [closeOffer_awarded n outcome s o found awarded, scheduler]
  exact generateStatus_others (fun e status => by rw [status]; rfl) _

theorem StatusGenerated.placeEntry {s t : State} (h : StatusGenerated s t) (kind : EntryKind) (key : Nat)
    (content : EntryContent) (deadline : Option Nat) : StatusGenerated s (placeEntry kind key content deadline t) where
  placed none := by
    obtain ⟨e, he, status⟩ := h.placed none
    exact ⟨e, mem_placeEntry _ _ _ _ _ e he, status⟩
  sent e found key sent := by
    rcases placeEntry_cases kind _ content deadline t with ⟨-, scheduler, -⟩ | ⟨-, same⟩
    · rw [scheduler]
      exact h.sent e found key sent
    · rw [same]
      exact h.sent e found key sent

theorem serveAssignmentAbandon_assigned {n : Nat} {s : State} (assigned : assignment s = some n) :
    serveAssignmentAbandon s =
      answer .aabn .ok [.num 65535 n, .flag (placementOf .decline n (closeOffer n .abandoned s) != .atCap)]
        (autoDecline n (closeOffer n .abandoned s)) := by
  simp only [serveAssignmentAbandon, assigned]

/-- Settles O42. -/
theorem boardRequestsFollowTheirTables : Obligations.BoardRequestsFollowTheirTables := by
  refine ⟨fun n s h => ⟨fun high => ?high, fun zero => ?zero, fun low high => ?requests⟩, fun s h => ⟨fun none => ?idle,
    fun n o assigned found awarded => ?abandon⟩⟩
  case high =>
    refine ⟨(exec_offerFocus h n).trans ?_, (exec_offerTake h n).trans ?_, (exec_offerDismiss h n).trans ?_⟩
    · exact congrArg Host.Outcome.next (if_pos (by simp [within, high]))
    · exact congrArg Host.Outcome.next (if_pos (by simp [within]; omega))
    · exact congrArg Host.Outcome.next (if_pos (by simp [within]; omega))
  case zero =>
    subst zero
    exact ⟨exec_offerFocus h 0, exec_offerTake h 0, exec_offerDismiss h 0⟩
  case requests =>
    have fits0 : within 0 65535 n = true := by simp [within, high]
    have fits1 : within 1 65535 n = true := by simp [within, high, low]
    have focus := exec_offerFocus h n
    have take := exec_offerTake h n
    have dismiss := exec_offerDismiss h n
    rw [serveOfferFocus, if_neg (by simp [fits0]), if_neg (by omega)] at focus
    rw [serveOfferDismiss, if_neg (by simp [fits1])] at dismiss
    rw [serveOfferTake, if_neg (by simp [fits1])] at take
    intro alarmed open_
    have calm (no : ¬ alarmed) : s.emergency.state.open = false :=
      Bool.eq_false_iff.mpr (mt (emState_open_eq_true _).mp no)
    have free (no : ¬ open_) : claimOpen s = false := Bool.eq_false_iff.mpr (mt claimOpen_iff.mp no)
    refine ⟨fun none => ?_, fun o found state => ?_, fun o found state => ?_, fun alarm => ?_, fun no claim => ?_,
      fun no unclaimed => ⟨fun unset => ?_, fun set => ⟨fun none => ?_, fun o found state => ?_, fun o found state => ?_⟩⟩⟩
    · simp only [none] at focus dismiss
      exact ⟨focus, dismiss⟩
    · simp only [found, if_neg state] at focus dismiss
      exact ⟨focus, dismiss⟩
    · simp only [found, if_pos state] at focus dismiss
      rw [closeOffer_of_ne_awarded n .declined s o found (by simp [state])] at dismiss
      exact ⟨focus, dismiss⟩
    · rw [if_pos ((emState_open_eq_true _).mpr alarm)] at take
      exact take
    · rw [calm no, if_neg Bool.false_ne_true, if_pos (claimOpen_iff.mpr claim)] at take
      exact take
    all_goals
      rw [calm no, if_neg Bool.false_ne_true, free unclaimed, if_neg Bool.false_ne_true] at take
    · rw [if_pos unset] at take
      exact take
    all_goals rw [if_neg set] at take
    · simp only [none] at take
      exact take
    · simp only [found, if_neg state] at take
      exact take
    · simp only [found, if_pos state] at take
      obtain rfl := number_of_findOffer n s o found
      have taken := claimTaken found .host
      obtain ⟨-, now, -, -, nonvolatile⟩ := taken.core
      obtain ⟨locator, panel, store⟩ := taken.inputs
      obtain ⟨meter, accounts, -⟩ := taken.books
      exact ⟨_, take, ⟨fun early => ⟨taken.board early, taken.entry early⟩,
        fun late => ⟨taken.closed late, taken.told late, taken.none late⟩⟩, by rw [answer, now]; rfl,
        taken.watch, meter, accounts, taken.inbox, taken.emergency, store, locator, panel, nonvolatile⟩
  case idle =>
    rw [exec_assignmentAbandon h, serveAssignmentAbandon, none]
    rfl
  case abandon =>
    intro standing room
    have ended := assignmentEnded .abandoned found awarded
    have declines := closeOffer_declines found awarded .abandoned
    have count : (closeOffer n .abandoned s).scheduler.queue.countP (fun e => e.kind == .decline) =
        s.scheduler.queue.countP (fun e => e.kind == .decline) := by
      rw [List.countP_eq_length_filter, declines, List.countP_eq_length_filter]
    have mem (e : Entry) (kind : e.kind = .decline) :
        e ∈ (closeOffer n .abandoned s).scheduler.queue ↔ e ∈ s.scheduler.queue := by
      have := congrArg (e ∈ ·) declines
      simpa [kind] using this
    have abandoned := exec_assignmentAbandon h
    rw [serveAssignmentAbandon_assigned assigned] at abandoned
    obtain ⟨⟨-, now, -, -, nonvolatile⟩, ⟨locator, panel, store⟩, ⟨meter, accounts, -⟩, inbox, emergency⟩ :=
      closeOffer_frame n .abandoned s
    obtain ⟨⟨-, now', -, -, nonvolatile'⟩, ⟨locator', panel', store'⟩, ⟨meter', accounts', -⟩, board', inbox', emergency'⟩ :=
      placeEntry_frame .decline n .none none (closeOffer n .abandoned s)
    refine ⟨_, placementOf .decline n (closeOffer n .abandoned s) != .atCap, abandoned, (findOffer_congr n board').trans ended.entry,
      placeEntry_events _ _ _ _ _ _ ended.event, (ended.status.placeEntry .decline n .none none).congr rfl rfl, fun none few => ?_, ?_, ?_,
      meter'.trans meter, accounts'.trans accounts, inbox'.trans inbox, emergency'.trans emergency,
      store'.trans store, locator'.trans locator, panel'.trans panel, nonvolatile'.trans nonvolatile⟩
    · obtain ⟨e, he, kind, key, state⟩ := autoDecline_places n (closeOffer n .abandoned s)
        (fun e he same => none ⟨e, (mem e same.1).mp he, same⟩) (by rwa [count])
      exact ⟨e, he, kind, key, state⟩
    · rw [placementOf_decline_iff, count]
      exact or_congr_left (exists_congr fun e =>
        ⟨fun ⟨he, same⟩ => ⟨(mem e same.1).mp he, same⟩, fun ⟨he, same⟩ => ⟨(mem e same.1).mpr he, same⟩⟩)
    · have stamp : (autoDecline n (closeOffer n .abandoned s)).now = s.now := now'.trans now
      rw [answer, stamp]

end Sys2Proof.Machine
end

section
/-! PROOFS. The presses of the keys: how each is routed, and that a METER KEY acts as the press of its name. -/

namespace Sys2Proof.Machine

/-! ### The answers of the meter engine and the board -/

/-- The engine's answer to a key is its reason for a refusal. -/
theorem pressMeter_fst (k : MeterKey) (s : State) : (pressMeter k s).1 = meterRefusal k s := by
  have calibrated : uncalibrated s = true ↔
      s.store.working.metrology.pulseConstant = 0 ∨ s.store.working.metrology.tariffs.t1.valid = false := by
    simp [uncalibrated_eq]
  unfold pressMeter meterRefusal
  cases k <;> cases s.meter.state <;> dsimp only <;> try rfl
  case hire.free => simp only [calibrated]; split <;> [rfl; (split <;> rfl)]
  case hire.stopped => split <;> rfl
  all_goals
    cases s.meter.trip with
    | none => rfl
    | some x =>
      by_cases h : x.extrasCount < 9
      · simp [h, Nat.not_le.mpr h]
      · simp [h, Nat.not_lt.mp h]

/-- What the engine refuses it leaves as it is, and what it works it has not refused. -/
theorem pressMeter_cases (k : MeterKey) (s : State) : (pressMeter k s).2 = s ∨ (pressMeter k s).1 = none := by
  unfold pressMeter
  repeat' split
  all_goals first | exact .inl rfl | exact .inr rfl

/-- A key refused changes nothing. -/
theorem pressMeter_refused {k : MeterKey} {s : State} (h : meterRefusal k s ≠ none) : (pressMeter k s).2 = s :=
  (pressMeter_cases k s).resolve_right (by rwa [pressMeter_fst])

theorem serveMeterKey_refused {k : MeterKey} {n : Nat} {s : State} {r : Reason} (named : toMeterKey n = some k)
    (free : s.store.working.keysOnly = false) (refused : meterRefusal k s = some r) :
    serveMeterKey n s = answer .mkey .refused [.name r.code] s := by
  have same : (pressMeter k s).2 = s := pressMeter_refused (by simp [refused])
  rw [← pressMeter_fst] at refused
  have pair : pressMeter k s = (some r, s) := Prod.ext refused same
  simp only [serveMeterKey, named, free, Bool.false_eq_true, if_false, pair]

theorem serveMeterKey_worked {k : MeterKey} {n : Nat} {s : State} (named : toMeterKey n = some k)
    (free : s.store.working.keysOnly = false) (worked : meterRefusal k s = none) :
    serveMeterKey n s = answer .mkey .ok [.name (pressMeter k s).2.meter.state.code] (pressMeter k s).2 := by
  rw [← pressMeter_fst] at worked
  have pair : pressMeter k s = (none, (pressMeter k s).2) := Prod.ext worked rfl
  simp only [serveMeterKey, named, free, Bool.false_eq_true, if_false]
  rw [pair]

/-- An answer given after work that takes no time is stamped with the request's instant. -/
theorem answer_replied {s t : State} (tag : Tag) (r : Result) (content : List Field) (now : t.now = s.now) :
    answer tag r content t = replied s tag r content t := by
  simp only [answer, replied, now]

theorem exec_meterKey {s : State} (h : Listening s) (n : Nat) :
    exec (.meterKey (.fields n)) s = .next (serveMeterKey n s) :=
  congrArg Host.Outcome.next (request_listening (.meterKey (.fields n)) s h)

/-- The board's answer to ACCEPT is its reason for a refusal, and what it refuses it leaves as it is. -/
theorem acceptPress_refused {s : State} (h : acceptRefusal s ≠ none) : acceptPress s = (acceptRefusal s, s) := by
  unfold acceptRefusal at h ⊢
  unfold acceptPress
  simp only [emState_open_eq_true, claimOpen_iff]
  repeat' split
  all_goals simp_all

theorem acceptPress_taken {s : State} {o : Offer} (h : acceptRefusal s = none) (chosen : chosenOffer s = some o) :
    acceptPress s = (none, takeClaim o .key s) := by
  unfold acceptRefusal at h
  unfold acceptPress
  simp only [emState_open_eq_true, claimOpen_iff]
  repeat' split
  all_goals simp_all

/-- With no focus the earliest expiry is chosen, of equal ones the earlier in arrival order. -/
theorem chosenOffer_earliest {s : State} {l m : List Offer} {o : Offer} (focus : s.board.focus = none)
    (split : s.board.entries = l ++ o :: m) (presented : o.state = .presented)
    (before : ∀ x ∈ l, x.state = .presented → o.expiry < x.expiry)
    (after : ∀ x ∈ m, x.state = .presented → o.expiry ≤ x.expiry) : chosenOffer s = some o := by
  have shown : s.board.entries.filter (fun x => x.state == .presented) =
      l.filter (fun x => x.state == .presented) ++ o :: m.filter fun x => x.state == .presented := by
    simp [split, presented]
  simp only [chosenOffer, focus, shown]
  refine firstBy_eq (fun x hx => ?_) fun x hx => ?_
  · obtain ⟨hx, state⟩ := List.mem_filter.mp hx
    simpa [expiresBefore] using before x hx (by simpa using state)
  · obtain ⟨hx, state⟩ := List.mem_filter.mp hx
    simpa [expiresBefore] using after x hx (by simpa using state)

theorem chosenOffer_none {s : State} (focus : s.board.focus = none)
    (none : ∀ x ∈ s.board.entries, x.state ≠ .presented) : chosenOffer s = Option.none := by
  have shown : s.board.entries.filter (fun x => x.state == .presented) = [] := by simpa using none
  simp only [chosenOffer, focus, shown, firstBy]

/-! ### Presses -/

/-- The key recognised DOWN at its instant. -/
def keyPressed (k : Key) (s : State) : State :=
  updateKey k (downKey (max s.now ((keyLine k s).rawSince + 30)))
    { s with now := max s.now ((keyLine k s).rawSince + 30) }

theorem exec_keyPress_due {k : Key} {s : State} (powered : s.powered = true) (down : (keyLine k s).raw = true)
    (up : (keyLine k s).state = .up) : exec (.keyPress k) s = .next (routePress k (keyPressed k s)) :=
  congrArg Host.Outcome.next (atInstant_due (t := (keyLine k s).rawSince + 30)
    (by simp [pressDue, dueWhen, powered, down, up, recognised]) (pressKey k) s)

/-- Settles O40. -/
theorem keyPressesAreRouted : Obligations.KeyPressesAreRouted := by
  unfold Obligations.KeyPressesAreRouted
  intro s k powered down up now pressed recorded
  have press := exec_keyPress_due powered down up
  have meant : keyPressed k s = pressed := rfl
  rw [meant] at press
  refine ⟨fun m n named => ?meter, fun accept => ?accept, fun panic => ?panic⟩
  case meter =>
    have refusal : meterRefusal m pressed = meterRefusal m s := rfl
    have instant : (pressMeter m pressed).2.now = now := (pressMeter_frame m pressed).1.2.1
    have key : toMeterKey n = some m ∧ routePress k pressed = recordKey k (pressMeter m pressed) := by
      simp only [List.mem_cons, Prod.mk.injEq, List.not_mem_nil, or_false] at named
      rcases named with ⟨rfl, rfl, rfl⟩ | ⟨rfl, rfl, rfl⟩ | ⟨rfl, rfl, rfl⟩ | ⟨rfl, rfl, rfl⟩ <;> exact ⟨rfl, rfl⟩
    have route : recordKey k (pressMeter m pressed) = recorded (meterRefusal m s) (pressMeter m pressed).2 := by
      rw [recordKey, pressMeter_fst, uptime, instant]
      rfl
    refine ⟨(pressMeter m pressed).2, press.trans (congrArg Host.Outcome.next (key.2.trans route)),
      fun refused => pressMeter_refused (refusal ▸ refused), fun listening free => ?_⟩
    rw [exec_meterKey listening]
    cases answered : meterRefusal m s with
    | none =>
      refine ⟨[.name (pressMeter m pressed).2.meter.state.code],
        (congrArg Host.Outcome.next (serveMeterKey_worked (s := pressed) key.1 free answered)).trans
          (congrArg Host.Outcome.next (answer_replied _ _ _ instant))⟩
    | some r =>
      rw [pressMeter_refused (by rw [refusal, answered]; simp)]
      exact ⟨_, congrArg Host.Outcome.next (serveMeterKey_refused (s := pressed) key.1 free answered)⟩
  case accept =>
    subst accept
    have refusal : acceptRefusal pressed = acceptRefusal s := rfl
    have chosen_eq : chosenOffer pressed = chosenOffer s := rfl
    refine ⟨fun refused => ?_, fun n focus => ?_, fun focus => ⟨fun l o m split presented before after =>
      chosenOffer_earliest focus split presented before after, chosenOffer_none focus⟩, fun o taken chosen found => ?_⟩
    · rw [press, routePress, acceptPress_refused (refusal ▸ refused)]
      rfl
    · simp only [chosenOffer, focus]
    · have claimed : ClaimTaken o .key pressed (takeClaim o .key pressed) := claimTaken (s := pressed) found .key
      obtain ⟨-, instant, -, -, nonvolatile⟩ := claimed.core
      obtain ⟨locator, -, store⟩ := claimed.inputs
      obtain ⟨meter, accounts, -⟩ := claimed.books
      refine ⟨takeClaim o .key pressed, ?_, fun early => ⟨findOffer_claimedOn found (claimed.board early),
        claimed.entry early⟩, fun late => ⟨?_, claimed.none late, ?_, claimed.told late⟩, ?_, meter, accounts,
        claimed.inbox, claimed.emergency, store, locator, nonvolatile⟩
      · rw [press, routePress, acceptPress_taken (refusal ▸ taken) (chosen_eq.trans chosen), recordKey, uptime, instant]
        rfl
      · exact (findOffer_congr (s := closeOnly o.number .expired (boardClaimed o .key pressed)) o.number
          (claimed.closed late)).trans (findOffer_closeOnly (findOffer_claimedOn found rfl))
      · rw [claimed.closed late]
        rfl
      · rcases Nat.lt_or_ge now (o.expiry * 1000) with early | late
        · rw [claimed.board early]
          rfl
        · rw [claimed.closed late]
          by_cases focus : s.board.focus = some o.number <;> simp [claimedOn, pressed, focus]
  case panic =>
    subst panic
    exact press

end Sys2Proof.Machine
end

section
/-! PROOFS. The entry into ACTIVE: the suppression of the board, and what an arming leaves and makes. -/

namespace Sys2Proof.Machine

/-! ### Suppression of the board -/

/-- What the suppression makes of an entry, by which of the CLAIMs have been on the air. -/
def settledBy (transmitted : Nat → Bool) (o : Offer) : Offer :=
  match o.state with
  | .presented => { o with state := .closed, outcome := some .suppressed }
  | .claiming =>
      if transmitted o.number then { o with state := .awaitingAward }
      else { o with state := .closed, outcome := some .suppressed }
  | .awaitingAward | .awarded | .closed => o

theorem settledBy_presented {o : Offer} (h : o.state = .presented) (transmitted : Nat → Bool) :
    settledBy transmitted o = { o with state := .closed, outcome := some .suppressed } := by
  simp [settledBy, h]

theorem settledBy_claiming {o : Offer} (h : o.state = .claiming) (transmitted : Nat → Bool) :
    settledBy transmitted o = if transmitted o.number then { o with state := .awaitingAward }
      else { o with state := .closed, outcome := some .suppressed } := by
  simp [settledBy, h]

theorem settledBy_other {o : Offer} (h : o.state = .awaitingAward ∨ o.state = .awarded ∨ o.state = .closed)
    (transmitted : Nat → Bool) : settledBy transmitted o = o := by
  rcases h with h | h | h <;> simp [settledBy, h]

theorem settledBy_number (transmitted : Nat → Bool) (o : Offer) : (settledBy transmitted o).number = o.number := by
  unfold settledBy
  repeat' split
  all_goals rfl

/-- The entry closes at the suppression. -/
def closesAt (transmitted : Nat → Bool) (o : Offer) : Bool :=
  o.state != .closed && (settledBy transmitted o).state == .closed

/-- What the suppression of some entries makes of the board and its events. -/
structure Suppressed (transmitted : Nat → Bool) (finished l : List Offer) (u v : State) : Prop where
  entries : v.board.entries = finished ++ l.map (settledBy transmitted)
  order : v.board.closeOrder = u.board.closeOrder ++ (l.filter (closesAt transmitted)).map (·.number)
  overflow : v.board.overflow = u.board.overflow
  event : l.filter (closesAt transmitted) ≠ [] → Pending .offerClosed v

theorem map_number_unique {finished l : List Offer} {o : Offer} (distinct : ((finished ++ o :: l).map (·.number)).Nodup)
    (f : Offer → Offer) :
    (finished ++ o :: l).map (fun x => if x.number == o.number then f x else x) = finished ++ f o :: l := by
  have stands (k : List Offer) (hk : ∀ x ∈ k, x.number ≠ o.number) :
      k.map (fun x => if x.number == o.number then f x else x) = k :=
    (List.map_congr_left fun x hx => if_neg (by simpa using hk x hx)).trans (List.map_id k)
  rw [List.map_append, List.map_cons, List.nodup_append] at distinct
  obtain ⟨-, after, apart⟩ := distinct
  rw [List.map_append, List.map_cons, stands finished fun x hx => apart _ (List.mem_map_of_mem hx) _ (by simp),
    stands l fun x hx same => (List.nodup_cons.mp after).1 (same ▸ List.mem_map_of_mem hx), if_pos (by simp)]

theorem claimTransmitted_dropEntry {m n : Nat} (h : m ≠ n) (s : State) :
    claimTransmitted m (dropEntry .claim n s) = claimTransmitted m s := by
  have same : findEntry .claim m (dropEntry .claim n s) = findEntry .claim m s := by
    simp only [findEntry, dropEntry, List.find?_filter]
    congr 1
    funext e
    by_cases he : e.key = m <;> simp [Entry.is, he, h, beq_eq_decide]
  simp only [claimTransmitted, same]

/-- The suppression of one entry leaves what has been on the air of another's claim. -/
theorem claimTransmitted_suppressOne {o : Offer} {m : Nat} (h : m ≠ o.number) (s : State) :
    claimTransmitted m (suppressOne o s) = claimTransmitted m s := by
  have closed (t : State) : claimTransmitted m (closeOnly o.number .suppressed t) = claimTransmitted m t := rfl
  unfold suppressOne
  split
  · rfl
  · dsimp only
    split
    · exact claimTransmitted_dropEntry h s
    · exact claimTransmitted_dropEntry h s
  all_goals rfl

/-- The suppression of one entry settles it in its place. -/
theorem suppressOne_suppressed {o : Offer} {finished l : List Offer} {s : State} {transmitted : Nat → Bool}
    (entries : s.board.entries = finished ++ o :: l) (distinct : ((finished ++ o :: l).map (·.number)).Nodup)
    (air : claimTransmitted o.number s = transmitted o.number) :
    (suppressOne o s).board.entries = finished ++ settledBy transmitted o :: l ∧
    (suppressOne o s).board.closeOrder = s.board.closeOrder ++ (if closesAt transmitted o then [o.number] else []) ∧
    (suppressOne o s).board.overflow = s.board.overflow ∧
    (closesAt transmitted o = true ∨ Pending .offerClosed s → Pending .offerClosed (suppressOne o s)) := by
  have closed (t : State) (board : t.board = s.board) :
      (closeOnly o.number .suppressed t).board.entries =
        finished ++ { o with state := .closed, outcome := some .suppressed } :: l ∧
      (closeOnly o.number .suppressed t).board.closeOrder = s.board.closeOrder ++ [o.number] ∧
      (closeOnly o.number .suppressed t).board.overflow = s.board.overflow ∧
      Pending .offerClosed (closeOnly o.number .suppressed t) := by
    rw [closeOnly_board, board, entries, map_number_unique distinct]
    exact ⟨rfl, rfl, rfl, (mem_insertEvent _ _ _).mpr (.inl rfl)⟩
  cases state : o.state with
  | presented =>
    obtain ⟨hentries, order, overflow, event⟩ := closed s rfl
    have settled := settledBy_presented state transmitted
    have closes : closesAt transmitted o = true := by simp [closesAt, settled, state]
    simp only [suppressOne, state, settled, closes, if_true]
    exact ⟨hentries, order, overflow, fun _ => event⟩
  | claiming =>
    have settled := settledBy_claiming state transmitted
    cases sent : transmitted o.number with
    | true =>
      rw [sent, if_pos rfl] at settled
      have closes : closesAt transmitted o = false := by simp [closesAt, settled]
      simp only [suppressOne, state, air, sent, settled, closes, if_true, Bool.false_eq_true, if_false, List.append_nil,
        updateOffer, dropEntry, entries, map_number_unique distinct, false_or, true_and]
      exact id
    | false =>
      obtain ⟨hentries, order, overflow, event⟩ := closed (dropEntry .claim o.number s) rfl
      rw [sent, if_neg Bool.false_ne_true] at settled
      have closes : closesAt transmitted o = true := by simp [closesAt, settled, state]
      simp only [suppressOne, state, air, sent, settled, closes, if_true, Bool.false_eq_true, if_false]
      exact ⟨hentries, order, overflow, fun _ => event⟩
  | awaitingAward | awarded | closed =>
    have settled := settledBy_other (o := o) (by simp [state]) transmitted
    have closes : closesAt transmitted o = false := by simp [closesAt, settled, state]
    simp [suppressOne, state, settled, closes, entries]

theorem foldl_suppressOne {transmitted : Nat → Bool} (l : List Offer) : ∀ (finished : List Offer) (s : State),
    s.board.entries = finished ++ l → ((finished ++ l).map (·.number)).Nodup →
    (∀ o ∈ l, claimTransmitted o.number s = transmitted o.number) →
    Suppressed transmitted finished l s (l.foldl (fun s o => suppressOne o s) s) ∧
    (Pending .offerClosed s → Pending .offerClosed (l.foldl (fun s o => suppressOne o s) s)) := by
  induction l with
  | nil => exact fun finished s entries _ _ => ⟨⟨by simpa using entries, by simp, rfl, by simp⟩, id⟩
  | cons o l ih =>
    intro finished s entries distinct air
    obtain ⟨hentries, order, overflow, event⟩ := suppressOne_suppressed entries distinct (air o (by simp))
    have apart (x : Offer) (hx : x ∈ l) : x.number ≠ o.number := by
      rw [List.map_append, List.map_cons, List.nodup_append] at distinct
      exact fun same => (List.nodup_cons.mp distinct.2.1).1 (same ▸ List.mem_map_of_mem hx)
    obtain ⟨rest, kept⟩ := ih (finished ++ [settledBy transmitted o]) (suppressOne o s) (by simpa using hentries)
      (by simpa [settledBy_number] using distinct)
      fun x hx => (claimTransmitted_suppressOne (apart x hx) s).trans (air x (by simp [hx]))
    refine ⟨⟨by simpa using rest.entries, ?_, rest.overflow.trans overflow, fun some => ?_⟩, fun h => kept (event (.inr h))⟩
    · rw [List.foldl_cons, rest.order, order]
      cases closes : closesAt transmitted o <;> simp [closes]
    · cases closes : closesAt transmitted o with
      | true => exact kept (event (.inl closes))
      | false => exact rest.event (by simpa [closes] using some)

/-- The board's entries settle in arrival order. -/
theorem suppressBoard_suppressed {s : State} (sound : BoardSound s) :
    Suppressed (fun n => claimTransmitted n s) [] s.board.entries s (suppressBoard s) :=
  (foldl_suppressOne s.board.entries [] s rfl sound.distinct fun _ _ => rfl).1

/-! ### The claims and the queue -/

theorem suppressOne_queue (o : Offer) (s : State) :
    (suppressOne o s).scheduler.queue ⊆ s.scheduler.queue ∧
    (o.state = .claiming → ∀ e ∈ (suppressOne o s).scheduler.queue, ¬(e.kind = .claim ∧ e.key = o.number)) := by
  have dropped (e : Entry) (he : e ∈ (dropEntry .claim o.number s).scheduler.queue) :
      e ∈ s.scheduler.queue ∧ ¬(e.kind = .claim ∧ e.key = o.number) := by
    simpa [dropEntry, Entry.is, imp_iff_not_or] using he
  cases state : o.state with
  | claiming =>
    have queue : (suppressOne o s).scheduler.queue = (dropEntry .claim o.number s).scheduler.queue := by
      simp only [suppressOne, state]
      split <;> rfl
    rw [queue]
    exact ⟨fun e he => (dropped e he).1, fun _ e he => (dropped e he).2⟩
  | presented | awaitingAward | awarded | closed =>
    simp [suppressOne, state]

theorem foldl_suppressOne_queue (l : List Offer) : ∀ s : State,
    (l.foldl (fun s o => suppressOne o s) s).scheduler.queue ⊆ s.scheduler.queue ∧
    ∀ o ∈ l, o.state = .claiming →
      ∀ e ∈ (l.foldl (fun s o => suppressOne o s) s).scheduler.queue, ¬(e.kind = .claim ∧ e.key = o.number) := by
  induction l with
  | nil => exact fun s => ⟨fun _ => id, by simp⟩
  | cons o l ih =>
    intro s
    obtain ⟨sub, none⟩ := suppressOne_queue o s
    obtain ⟨rest, others⟩ := ih (suppressOne o s)
    refine ⟨fun e he => sub (rest he), fun x hx claiming e he => ?_⟩
    rcases List.mem_cons.mp hx with rfl | hx
    · exact none claiming e (rest he)
    · exact others x hx claiming e he

/-- No entry is left that competes: each is processed at its own turn, and none is set back. -/
theorem suppressOne_states {o x : Offer} {s : State} (hx : x ∈ (suppressOne o s).board.entries)
    (open' : x.state = .presented ∨ x.state = .claiming) :
    x ∈ s.board.entries ∧ ((o.state = .presented ∨ o.state = .claiming) → x.number ≠ o.number) := by
  have updated {f : Offer → Offer} {t : State} (board : t.board = s.board)
      (away : ∀ y, (f y).state ≠ .presented ∧ (f y).state ≠ .claiming)
      (hx : x ∈ (updateOffer o.number f t).board.entries) : x ∈ s.board.entries ∧ x.number ≠ o.number := by
    simp only [updateOffer, board, List.mem_map] at hx
    obtain ⟨y, hy, rfl⟩ := hx
    by_cases same : y.number = o.number
    · rw [if_pos (by simpa using same)] at open'
      exact absurd open' (by simp [away])
    · rw [if_neg (by simpa using same)] at open' ⊢
      exact ⟨hy, same⟩
  cases state : o.state with
  | presented =>
    simp only [suppressOne, state] at hx
    exact (updated (t := s) rfl (fun _ => by simp) hx).imp id fun h _ => h
  | claiming =>
    simp only [suppressOne, state] at hx
    split at hx
    · exact (updated (t := dropEntry .claim o.number s) rfl (fun _ => by simp) hx).imp id fun h _ => h
    · exact (updated (t := dropEntry .claim o.number s) rfl (fun _ => by simp) hx).imp id fun h _ => h
  | awaitingAward | awarded | closed =>
    simp only [suppressOne, state] at hx
    simp [hx]

theorem foldl_suppressOne_states (l : List Offer) : ∀ (s : State) (x : Offer),
    x ∈ (l.foldl (fun s o => suppressOne o s) s).board.entries → x.state = .presented ∨ x.state = .claiming →
    x ∈ s.board.entries ∧ ∀ o ∈ l, o.state = .presented ∨ o.state = .claiming → x.number ≠ o.number := by
  induction l with
  | nil => exact fun s x hx _ => ⟨hx, by simp⟩
  | cons o l ih =>
    intro s x hx open'
    obtain ⟨mem, apart⟩ := ih (suppressOne o s) x hx open'
    obtain ⟨mem, first⟩ := suppressOne_states mem open'
    exact ⟨mem, List.forall_mem_cons.mpr ⟨first, apart⟩⟩

theorem suppressBoard_states {s : State} {x : Offer} (hx : x ∈ (suppressBoard s).board.entries) :
    x.state ≠ .presented ∧ x.state ≠ .claiming := by
  refine not_or.mp fun open' => ?_
  obtain ⟨mem, apart⟩ := foldl_suppressOne_states s.board.entries s x hx open'
  exact apart x mem open' rfl

/-- In a queue of distinct items the CLAIM found is the only one of its number. -/
theorem claimTransmitted_iff {n : Nat} {s : State} (distinct : (s.scheduler.queue.map fun e => (e.kind, e.key)).Nodup) :
    claimTransmitted n s = true ↔
      ∃ e ∈ s.scheduler.queue, e.kind = .claim ∧ e.key = n ∧ (e.state = .sent ∨ 1 ≤ e.attempts) := by
  cases found : findEntry .claim n s with
  | none =>
    have none : ∀ e ∈ s.scheduler.queue, e.kind = .claim → e.key ≠ n := by simpa [findEntry, Entry.is] using found
    simp only [claimTransmitted, found, Bool.false_eq_true, false_iff]
    exact fun ⟨e, he, kind, key, _⟩ => none e he kind key
  | some e =>
    have mem := List.mem_of_find?_eq_some found
    have item : e.kind = .claim ∧ e.key = n := by simpa [Entry.is] using List.find?_some found
    simp only [claimTransmitted, found, Bool.or_eq_true, beq_iff_eq, decide_eq_true_eq]
    refine ⟨fun air => ⟨e, mem, item.1, item.2, air⟩, fun ⟨x, hx, kind, key, air⟩ => ?_⟩
    obtain rfl := List.inj_on_of_nodup_map distinct hx mem (by simp [kind, key, item])
    exact air

/-! ### The entry into ACTIVE -/

/-- The entry into ACTIVE up to the placing of the EMERGENCY entry. -/
def alarmPlaced (s : State) : State :=
  placeEntry .emergency 0 .none none (returnToFull (voiceAtActive (suppressBoard s)))

theorem activeEntered_eq (s : State) :
    activeEntered s = setMark .active (flagTrip (raise .emergency (latchIfLatched (alarmPlaced s)))) := rfl

theorem alarmPlaced_frame (s : State) : SameCore s (alarmPlaced s) ∧ SameInputs s (alarmPlaced s) ∧
    SameBooks s (alarmPlaced s) ∧ (alarmPlaced s).board = (suppressBoard s).board ∧
    (alarmPlaced s).inbox = s.inbox ∧ (alarmPlaced s).emergency = s.emergency := by
  simp [alarmPlaced, SameCore, SameInputs, SameBooks]

theorem voiceAtActive_voice (s : State) : (voiceAtActive s).receiver.voice =
    if s.receiver.voice = .granted ∨ s.receiver.voice = .pending then .held else s.receiver.voice := by
  cases voice : s.receiver.voice <;> simp [voiceAtActive, setVoice, voice]

theorem alarmPlaced_voice (s : State) : (alarmPlaced s).receiver.voice =
    if s.receiver.voice = .granted ∨ s.receiver.voice = .pending then .held else s.receiver.voice := by
  have receiver : (suppressBoard s).receiver = s.receiver := (suppressBoard_frame s).2.2.2.1
  rw [alarmPlaced, (placeEntry_voice ..).1, returnToFull_eq, ← receiver]
  exact voiceAtActive_voice (suppressBoard s)

theorem alarmPlaced_watch (s : State) : (alarmPlaced s).receiver.watch = .full :=
  (placeEntry_full _ _ _ _ (returnToFull_watch _)).2

theorem mem_alarmPlaced {s : State} {e : Entry} (he : e ∈ (alarmPlaced s).scheduler.queue) :
    e ∈ (suppressBoard s).scheduler.queue ∨ e.kind = .emergency := by
  have queue : (returnToFull (voiceAtActive (suppressBoard s))).scheduler = (suppressBoard s).scheduler := by simp
  rcases placeEntry_cases .emergency 0 .none none (returnToFull (voiceAtActive (suppressBoard s))) with
    ⟨-, scheduler, -⟩ | ⟨-, same⟩
  · rw [alarmPlaced, scheduler, queue] at he
    exact ((mem_insertEntry _ _ _).mp he).symm.imp id fun h => by rw [h]; rfl
  · rw [alarmPlaced, same, queue] at he
    exact .inl he

theorem alarmPlaced_entry {s : State} (none : ∀ e ∈ s.scheduler.queue, e.kind ≠ .emergency) :
    ∃ e ∈ (alarmPlaced s).scheduler.queue, e.kind = .emergency ∧ e.state = .waiting ∧ e.attempts = 0 := by
  have queue : (returnToFull (voiceAtActive (suppressBoard s))).scheduler = (suppressBoard s).scheduler := by simp
  exact ⟨_, placeEntry_emergency fun e he => none e ((foldl_suppressOne_queue _ s).1 (queue ▸ he)), rfl, rfl, rfl⟩

theorem latchIfLatched_latch (s : State) : (latchIfLatched s).emergency =
    { s.emergency with latch := s.emergency.latch || s.store.working.alertMode == .latched } := by
  by_cases latched : s.store.working.alertMode = .latched
  · simp [latchIfLatched, latched]
  · rw [latchIfLatched, if_neg latched, beq_eq_false_iff_ne.mpr latched, Bool.or_false]

/-- A trip in progress is flagged, and the checkpoint marked. -/
theorem flagTrip_open {s : State} {x : Trip} (h : s.meter.state.onTrip = true) (trip : s.meter.trip = some x) :
    (flagTrip s).meter.trip = some { x with flags := { x.flags with emergency := true } } ∧
    (flagTrip s).writer.checkpointDirty = true := by
  rw [flagTrip, if_pos h, markTrip]
  split <;> exact ⟨by simp [updateTrip, markCheckpoint, setCheckpointCount, trip], rfl⟩

theorem flagTrip_state (s : State) : (flagTrip s).meter.state = s.meter.state := by
  unfold flagTrip markTrip
  repeat' split
  all_goals rfl

theorem activeEntered_radio (s : State) : SameRadio (alarmPlaced s) (activeEntered s) ∧
    (activeEntered s).board = (suppressBoard s).board ∧
    (activeEntered s).link.events = insertEvent .emergency (alarmPlaced s).link.events := by
  obtain ⟨-, -, -, board, -⟩ := alarmPlaced_frame s
  simp [activeEntered_eq, SameRadio, raise, board]

theorem activeEntered_emergency (s : State) : (activeEntered s).emergency = { s.emergency with
    latch := s.emergency.latch || s.store.working.alertMode == .latched, mark := .active } := by
  obtain ⟨-, ⟨-, -, store⟩, -, -, -, emergency⟩ := alarmPlaced_frame s
  simp [activeEntered_eq, setMark, raise, latchIfLatched_latch, emergency, store]

theorem activeEntered_kept (s : State) : SameCore s (activeEntered s) ∧ SameInputs s (activeEntered s) ∧
    (activeEntered s).accounts = s.accounts ∧ (activeEntered s).inbox = s.inbox := by
  obtain ⟨-, -, -, -, inbox, -⟩ := alarmPlaced_frame s
  simp [activeEntered_eq, SameCore, SameInputs, raise, inbox, alarmPlaced_frame s]

theorem activeEntered_meter (s : State) : (activeEntered s).meter.state = s.meter.state ∧
    ∀ x, s.meter.state.onTrip = true → s.meter.trip = some x →
      (activeEntered s).meter.trip = some { x with flags := { x.flags with emergency := true } } ∧
      (activeEntered s).writer.checkpointDirty = true := by
  obtain ⟨-, -, ⟨placed, -, -⟩, -⟩ := alarmPlaced_frame s
  have meter : (raise .emergency (latchIfLatched (alarmPlaced s))).meter = s.meter := by simp [raise, placed]
  refine ⟨(flagTrip_state _).trans (congrArg Meter.state meter), fun x onTrip trip => ?_⟩
  exact flagTrip_open (s := raise .emergency (latchIfLatched (alarmPlaced s))) (by rwa [meter]) (by rwa [meter])

theorem activeEntered_closed {s : State} (h : Pending .offerClosed (suppressBoard s)) :
    Pending .offerClosed (activeEntered s) := by
  have placed : Pending .offerClosed (alarmPlaced s) :=
    placeEntry_events _ _ _ _ _ _ (returnToFull_events _ _ (by simpa using h))
  rw [Pending, (activeEntered_radio s).2.2]
  exact (mem_insertEvent _ _ _).mpr (.inr placed)

theorem arm_idle {a : ArmSource} {s : State} (h : s.emergency.state = .idle) : arm a s = enterActive a s := by
  simp only [arm, h]

theorem arm_alarmed {a : ArmSource} {s : State} (h : s.emergency.state ≠ .idle) :
    arm a s = { s with emergency := { s.emergency with sources := addSource a s.emergency.sources } } := by
  cases state : s.emergency.state with
  | idle => exact absurd state h
  | active | acknowledged | covert => simp only [arm, state]

theorem exec_emergencyRaise {s : State} (h : Listening s) :
    exec (.emergencyRaise (.fields ())) s = .next (serveEmergencyRaise s) :=
  congrArg Host.Outcome.next (request_listening (.emergencyRaise (.fields ())) s h)

/-- Settles O41. -/
theorem anArmingEntersActive : Obligations.AnArmingEntersActive := by
  unfold Obligations.AnArmingEntersActive
  intro s transmitted suppressed entered
  have enters (a : ArmSource) (n : Nat) (p : Panel) :
      entered (addSource a noSources) (enterActive a { s with now := n, panel := p }) := by
    rw [enterActive_eq]
    obtain ⟨u, start⟩ : ∃ u : State,
      u = { s with now := n, panel := p, emergency := armed a { s with now := n, panel := p } } := ⟨_, rfl⟩
    have scheduler : u.scheduler = s.scheduler := by rw [start]
    have board : u.board = s.board := by rw [start]
    rw [← start]
    obtain ⟨⟨receiver, queue⟩, suppressedBoard, events⟩ := activeEntered_radio u
    have emergency := activeEntered_emergency u
    obtain ⟨⟨-, now, -, -, nonvolatile⟩, ⟨locator, -, store⟩, accounts, inbox⟩ := activeEntered_kept u
    obtain ⟨state, trip⟩ := activeEntered_meter u
    have alarm : (activeEntered u).emergency = { s.emergency with
        state := .active, acknowledged := false, sources := addSource a noSources, onset := some n
        reportSince := none, latch := s.emergency.latch || s.store.working.alertMode == .latched, mark := .active } := by
      rw [emergency, start]
      rfl
    have settled (sound : BoardSound s) :
        Suppressed (fun n => claimTransmitted n s) [] s.board.entries s (activeEntered u) := by
      obtain ⟨entries, order, overflow, event⟩ := suppressBoard_suppressed (sound.congr board)
      have air : (fun n => claimTransmitted n u) = fun n => claimTransmitted n s := by rw [start]; rfl
      rw [board] at overflow
      rw [board, air] at entries order event
      exact ⟨by rw [suppressedBoard]; exact entries, by rw [suppressedBoard]; exact order,
        by rw [suppressedBoard]; exact overflow, fun some => activeEntered_closed (event some)⟩
    simp only [entered]
    rw [alarm, receiver, queue]
    refine ⟨rfl, rfl, rfl, ?onset, rfl, rfl, rfl, rfl, rfl, ?event, alarmPlaced_watch u, ?voice, fun none => ?placed,
      fun o ho => ?states, fun sound distinct => ?settled, ?meter, fun x onTrip hired => ?trip, ?inbox, ?accounts,
      ?store, ?locator, ?nonvolatile⟩
    case onset => rw [now, start]
    case event => rw [Pending, events]; exact (mem_insertEvent _ _ _).mpr (.inl rfl)
    case voice => rw [alarmPlaced_voice, start]
    case placed => exact alarmPlaced_entry (by rwa [scheduler])
    case states => exact suppressBoard_states (suppressedBoard ▸ ho)
    case settled =>
      obtain ⟨entries, order, overflow, event⟩ := settled sound
      refine ⟨settledBy fun n => claimTransmitted n s, entries, fun o ho => ⟨fun presented => ?_, fun claiming =>
        ⟨fun air => ?_, fun silent => ?_, fun e he claim => ?_⟩, fun other => ?_⟩, ⟨order, event⟩, overflow⟩
      · exact settledBy_presented presented _
      · exact (settledBy_claiming claiming _).trans (if_pos ((claimTransmitted_iff distinct).mpr air))
      · exact (settledBy_claiming claiming _).trans (if_neg (mt (claimTransmitted_iff distinct).mp silent))
      · exact (foldl_suppressOne_queue u.board.entries u).2 o (board ▸ ho) claiming e
          ((mem_alarmPlaced he).resolve_right (by simp [claim.1])) claim
      · exact settledBy_other other _
    case meter => rw [state, start]
    case trip => exact trip x (by rwa [start]) (by rwa [start])
    case inbox => rw [inbox, start]
    case accounts => rw [accounts, start]
    case store => rw [store, start]
    case locator => rw [locator, start]
    case nonvolatile => rw [nonvolatile, start]
  refine ⟨fun h powered down unarmed held => ⟨fun idle => ?_, fun alarmed => ?_⟩, fun closed => ?_,
    fun listening => ⟨fun idle => ?_, fun alarmed => ?_⟩⟩
  · have due := atInstant_due (panicDue_reached powered down unarmed held) armPanic s
    have active : armPanic (advanceTo (h + 1500) s) =
        enterActive .panel { s with now := max s.now (h + 1500), panel := { s.panel with panicArmed := true } } :=
      arm_idle idle
    have panel := (arm_frame .panel { advanceTo (h + 1500) s with panel := { s.panel with panicArmed := true } })
    obtain ⟨⟨-, now, -⟩, ⟨-, panel, -⟩, -⟩ := panel
    exact ⟨_, congrArg Host.Outcome.next due, now, panel, active ▸ enters .panel _ _⟩
  · have due := atInstant_due (panicDue_reached powered down unarmed held) armPanic s
    exact congrArg Host.Outcome.next (due.trans (arm_alarmed (s := { advanceTo (h + 1500) s with
      panel := { s.panel with panicArmed := true } }) alarmed))
  · refine congrArg Host.Outcome.next (atInstant_not_due ?_ armPanic s)
    rcases closed with h | h | h <;> simp [panicDue, h]
  · have raised := exec_emergencyRaise listening
    rw [serveEmergencyRaise, arm_idle idle] at raised
    obtain ⟨⟨-, now, -⟩, ⟨-, panel, -⟩, -⟩ := arm_frame .host s
    rw [arm_idle idle] at now panel
    have entering := enters .host s.now s.panel
    refine ⟨_, raised, now, panel, entering, ?_⟩
    have shown : shownState (enterActive .host s) = .active := by rw [shownState, entering.1]
    rw [answer, now, shown]
    rfl
  · rw [exec_emergencyRaise listening, serveEmergencyRaise, arm_alarmed alarmed]
    cases state : s.emergency.state <;> simp [shownState, answer, state, EmState.code, addSource] at alarmed ⊢

end Sys2Proof.Machine
end

section
/-! PROOFS. The meter second: the take, the trip second's increments, the checkpoint count and the evaluation. -/

namespace Sys2Proof.Machine

/-! ### Increments of the fare -/

theorem increments_eq (n S amount : Nat) (t : Trip) : increments n S amount t =
    { t with
      acc := (increments n S amount t).acc, fare := (increments n S amount t).fare
      flags := { t.flags with saturated := (increments n S amount t).flags.saturated } } := by
  induction n generalizing t with
  | zero => rfl
  | succ n ih => rw [increments, ih]; rfl

theorem increment_fare (S amount : Nat) (t : Trip) :
    (increment S amount t).fare = min 999999 (t.fare + amount) := by
  simp only [increment, Config.maxFare, decide_eq_true_eq]
  split <;> omega

/-- A fare that stops at its most takes `n` increments as one of `n` times the amount. -/
theorem increments_fare (n S amount : Nat) {t : Trip} (h : t.fare ≤ 999999) :
    (increments n S amount t).fare = min 999999 (t.fare + n * amount) := by
  induction n generalizing t with
  | zero => rw [increments, Nat.zero_mul, Nat.add_zero, Nat.min_eq_right h]
  | succ n ih =>
    have one := increment_fare S amount t
    rw [increments, ih (by rw [one]; omega), one, Nat.succ_mul]
    omega

theorem increments_saturated (n S amount : Nat) {t : Trip} (h : t.fare ≤ 999999) :
    (increments n S amount t).flags.saturated = true ↔
      t.flags.saturated = true ∨ 1 ≤ n ∧ 999999 ≤ t.fare + n * amount := by
  induction n generalizing t with
  | zero => simp [increments]
  | succ n ih =>
    have fare := increment_fare S amount t
    have one : (increment S amount t).flags.saturated = true ↔ t.flags.saturated = true ∨ 999999 ≤ t.fare + amount := by
      simp [increment]
    rw [increments, ih (by rw [fare]; omega), one, fare, Nat.succ_mul, or_assoc]
    have grows : 0 ≤ n * amount := Nat.zero_le _
    refine or_congr_right ⟨fun full => ⟨by omega, ?_⟩, fun full => ?_⟩
    · omega
    · rcases Nat.eq_zero_or_pos n with rfl | some
      · simp at full ⊢; exact full
      · exact .inr ⟨some, by omega⟩

/-- What the accumulator has left of a fill once its whole steps are taken. -/
theorem carried_rest {S : Nat} (positive : 1 ≤ S) (acc : Int) :
    acc - carried acc S * S = if acc < 0 then acc else acc % (S : Int) := by
  have hS : (0 : Int) < S := by exact_mod_cast positive
  unfold carried
  split
  · rename_i neg
    have : (acc / (S : Int)).toNat = 0 := Int.toNat_of_nonpos (Int.ediv_neg_of_neg_of_pos neg hS).le
    simp [this]
  · rename_i nonneg
    rw [Int.toNat_of_nonneg (Int.ediv_nonneg (by omega) hS.le), Int.emod_def, mul_comm]

/-! ### The take -/

theorem takeTally_hired {s : State} (h : s.meter.state = .hired) : takeTally s = { s with
    panel := { s.panel with tally := 0 }
    meter := { s.meter with trip := s.meter.trip.map fun x =>
      { x with
        pulses := satAdd Config.max32 x.pulses (takenPulses s)
        implausible := if takeClamped s then satAdd Config.max16 x.implausible 1 else x.implausible } } } := by
  simp only [takeTally, h, updateTrip]

theorem takeTally_idle {s : State} (h : s.meter.state ≠ .hired) :
    takeTally s = addDistance (takenPulses s) { s with panel := { s.panel with tally := 0 } } := by
  cases state : s.meter.state with
  | hired => exact absurd state h
  | off | free | stopped => simp only [takeTally, state]

/-- The take's whole metres of an uncalibrated part: none. -/
theorem addDistance_uncalibrated {s : State} (h : pulseConstant s = 0) (p : Nat) : addDistance p s = s :=
  if_pos h

theorem addDistance_accounts (p : Nat) (s : State) :
    addDistance p s = { s with accounts := (addDistance p s).accounts } := by
  have accounts : ∃ a, addDistance p s = { s with accounts := a } := by
    unfold addDistance
    dsimp only
    split
    · exact ⟨s.accounts, rfl⟩
    · split
      · exact ⟨s.accounts, rfl⟩
      · exact ⟨_, rfl⟩
  obtain ⟨a, h⟩ := accounts
  rw [h]

/-- The whole metres of a take go to the totalizers, the rest stays in the remainder. -/
theorem addDistance_totals {s : State} (calibrated : pulseConstant s ≠ 0) (p : Nat) :
    (addDistance p s).accounts.totals.remainder =
      (s.accounts.totals.remainder + p * 1000) % pulseConstant s ∧
    (s.accounts.totals.life.totalDistance ≤ 999999999999 →
      (addDistance p s).accounts.totals.life.totalDistance = min 999999999999
        (s.accounts.totals.life.totalDistance + (s.accounts.totals.remainder + p * 1000) / pulseConstant s)) ∧
    (s.accounts.totals.shiftOpen = true → s.accounts.totals.shift.sums.totalDistance ≤ 999999999999 →
      (addDistance p s).accounts.totals.shift.sums.totalDistance = min 999999999999
        (s.accounts.totals.shift.sums.totalDistance + (s.accounts.totals.remainder + p * 1000) / pulseConstant s)) ∧
    (s.accounts.totals.shiftOpen = false → (addDistance p s).accounts.totals.shift = s.accounts.totals.shift) ∧
    (addDistance p s).accounts.log = s.accounts.log := by
  unfold addDistance
  rw [if_neg calibrated]
  dsimp only
  split
  · rename_i none
    rw [none.1, none.2]
    exact ⟨rfl, fun h => by omega, fun _ h => by omega, fun _ => rfl, rfl⟩
  · refine ⟨rfl, fun _ => rfl, fun opened _ => ?_, fun closed => ?_, rfl⟩
    · simp only [updateTotals, opened, if_true]
      rfl
    · simp only [updateTotals, closed, Bool.false_eq_true, if_false]

/-! ### The evaluation of the tariff -/

theorem evaluateTariff_untimed {s : State} (h : s.receiver.time = none) : evaluateTariff s = 1 := by
  simp [evaluateTariff, timeOfDay, h]

theorem evaluateTariff_outer {s : State} {r : RunningTime} (time : s.receiver.time = some r)
    (outer : 1 ≤ s.store.working.metrology.outOfArea ∧ s.store.working.metrology.outOfArea ≤ 4 ∧
      (s.store.working.metrology.tariffs.get s.store.working.metrology.outOfArea).valid = true ∧
      tariffArea s = .outer) : evaluateTariff s = s.store.working.metrology.outOfArea := by
  obtain ⟨low, high, valid, area⟩ := outer
  simp [evaluateTariff, timeOfDay, time, within, low, high, valid, area]

theorem evaluateTariff_band {s : State} {r : RunningTime} {b : Nat} (time : s.receiver.time = some r)
    (inner : ¬(1 ≤ s.store.working.metrology.outOfArea ∧ s.store.working.metrology.outOfArea ≤ 4 ∧
      (s.store.working.metrology.tariffs.get s.store.working.metrology.outOfArea).valid = true ∧
      tariffArea s = .outer))
    (band : (s.store.working.metrology.row r.time.day)[r.time.second / 1800]? = some b) (low : 1 ≤ b) (high : b ≤ 4) :
    evaluateTariff s = if (s.store.working.metrology.tariffs.get b).valid then b else 1 := by
  have inner' : ¬(within 1 4 s.store.working.metrology.outOfArea = true ∧
      (s.store.working.metrology.tariffs.get s.store.working.metrology.outOfArea).valid = true ∧
      tariffArea s = .outer) := by simpa [within, and_assoc] using inner
  simp only [evaluateTariff, timeOfDay, time, Option.map_some, if_neg inner', List.getD_eq_getElem?_getD, band,
    Option.getD_some]
  simp [within, low, high]

/-! ### The trip second -/

/-- A trip second's fare, saturation and accumulator, and what it leaves of the trip. -/
structure SecondDone (p k : Nat) (tariff : Tariff) (x y : Trip) : Prop where
  seconds : y.seconds = min 4294967295 (x.seconds + 1)
  fare : y.fare = min 999999 (x.fare + carried (x.acc + progress tariff k p) (tariff.stepSize k) * tariff.increment)
  saturated : y.flags.saturated = true ↔ x.flags.saturated = true ∨
    1 ≤ carried (x.acc + progress tariff k p) (tariff.stepSize k) ∧
      999999 ≤ x.fare + carried (x.acc + progress tariff k p) (tariff.stepSize k) * tariff.increment
  acc : y.acc = if x.acc + progress tariff k p < 0 then x.acc + progress tariff k p
    else (x.acc + progress tariff k p) % (tariff.stepSize k : Int)
  rest : y = { x with
    seconds := y.seconds, fare := y.fare, acc := y.acc, flags := { x.flags with saturated := y.flags.saturated } }

theorem tripSecond_done (p : Nat) {s : State} {x : Trip} (fare : x.fare ≤ 999999)
    (step : 1 ≤ (workingTariff x.tariff s).stepSize (pulseConstant s)) :
    SecondDone p (pulseConstant s) (workingTariff x.tariff s) x (tripSecond p s x) where
  seconds := by
    have := congrArg Trip.seconds (increments_eq
      (carried (x.acc + progress (workingTariff x.tariff s) (pulseConstant s) p)
        ((workingTariff x.tariff s).stepSize (pulseConstant s)))
      ((workingTariff x.tariff s).stepSize (pulseConstant s)) (workingTariff x.tariff s).increment
      { x with acc := x.acc + progress (workingTariff x.tariff s) (pulseConstant s) p })
    exact congrArg (fun n => satAdd Config.max32 n 1) this
  fare := increments_fare _ _ _ (t := { x with acc := _ }) fare
  saturated := increments_saturated _ _ _ (t := { x with acc := _ }) fare
  acc := (increments_acc _ _ _ _).trans (carried_rest step _)
  rest := by
    simp only [tripSecond, addProgress]
    rw [increments_eq]

/-- The state in which a meter second's progress is made: the timer restarted and the take given to the trip. -/
def secondTaken (x : Trip) (s : State) : State :=
  { s with
    now := max s.now (s.meter.secondSince + 1000)
    panel := { s.panel with tally := 0 }
    meter := { s.meter with
      secondSince := s.meter.secondSince + 1000
      trip := some { x with
        pulses := satAdd Config.max32 x.pulses (takenPulses s)
        implausible := if takeClamped s then satAdd Config.max16 x.implausible 1 else x.implausible } } }

/-- The state in which a meter second's take outside HIRED is made. -/
def idleSecond (s : State) : State :=
  { s with
    now := max s.now (s.meter.secondSince + 1000), panel := { s.panel with tally := 0 }
    meter := { s.meter with secondSince := s.meter.secondSince + 1000 } }

/-- The state with the meter second timer restarted at its end. -/
def ticked (s : State) : State :=
  { s with
    now := max s.now (s.meter.secondSince + 1000)
    meter := { s.meter with secondSince := s.meter.secondSince + 1000 } }

theorem exec_meterSecond_due {s : State} (powered : s.powered = true) :
    exec .meterSecond s = .next (endMeterSecond (advanceTo (s.meter.secondSince + 1000) s)) :=
  congrArg Host.Outcome.next (atInstant_due (by simp [meterSecondDue, dueWhen, powered]) _ s)

theorem exec_meterSecond_hired {s : State} {x : Trip} (powered : s.powered = true) (hired : s.meter.state = .hired)
    (trip : s.meter.trip = some x) :
    exec .meterSecond s = .next (endTripSecond (takenPulses s) (secondTaken x s)) := by
  have taken : takeTally (ticked s) = secondTaken x s := by
    rw [takeTally_hired (s := ticked s) hired]
    simp only [ticked, trip, Option.map_some, secondTaken]
    rfl
  refine (exec_meterSecond_due powered).trans (congrArg Host.Outcome.next ((if_pos hired).trans ?_))
  exact congrArg (endTripSecond (takenPulses s)) taken

/-- The evaluation at the end of a trip second that results in the tariff in force. -/
theorem applyEvaluation_same {s : State} {x : Trip} (trip : s.meter.trip = some x) (mark : State → State)
    (same : s.store.working.metrology.lockTariff = true ∨ evaluateTariff s = x.tariff) :
    applyEvaluation mark s = s := by
  simp only [applyEvaluation, trip]
  exact if_pos same

theorem applyEvaluation_switch {s : State} {x : Trip} (trip : s.meter.trip = some x) (mark : State → State)
    (free : s.store.working.metrology.lockTariff = false) (other : evaluateTariff s ≠ x.tariff) :
    applyEvaluation mark s = mark { s with meter := { s.meter with trip := some (switchTo (evaluateTariff s) s x) } } := by
  simp only [applyEvaluation, trip, updateTrip, Option.map_some]
  exact if_neg (by simp [free, other])

/-- A trip second counted for the checkpoint. -/
theorem countCheckpoint_eq (s : State) : countCheckpoint s =
    if 60 ≤ s.meter.checkpointCount + 1 then
      { s with meter := { s.meter with checkpointCount := 0 }, writer := { s.writer with checkpointDirty := true } }
    else { s with meter := { s.meter with checkpointCount := s.meter.checkpointCount + 1 } } := rfl

theorem countCheckpoint_cases (s : State) : ∃ count writer,
    countCheckpoint s =
      { s with meter := { s.meter with checkpointCount := count }, writer := writer } ∧
    (s.meter.checkpointCount + 1 < 60 → count = s.meter.checkpointCount + 1 ∧ writer = s.writer) ∧
    (60 ≤ s.meter.checkpointCount + 1 → count = 0 ∧ writer = { s.writer with checkpointDirty := true }) ∧
    { writer with checkpointDirty := true } = { s.writer with checkpointDirty := true } := by
  rw [countCheckpoint_eq]
  by_cases full : 60 ≤ s.meter.checkpointCount + 1
  · exact ⟨0, _, if_pos full, fun h => by omega, fun _ => ⟨rfl, rfl⟩, rfl⟩
  · exact ⟨_, s.writer, if_neg full, fun _ => ⟨rfl, rfl⟩, fun h => absurd h full, rfl⟩

/-- A mark made while HIRED restarts the checkpoint count. -/
theorem markTrip_hired {s : State} (h : s.meter.state = .hired) : markTrip s =
    { s with meter := { s.meter with checkpointCount := 0 }, writer := { s.writer with checkpointDirty := true } } :=
  if_pos h

/-- Settles O43. -/
theorem meterSecondRunsTheFare : Obligations.MeterSecondRunsTheFare := by
  unfold Obligations.MeterSecondRunsTheFare
  intro s powered k ceiling p now
  refine ⟨⟨evaluateTariff_untimed, fun r time => ⟨evaluateTariff_outer time, fun b inner => evaluateTariff_band time inner⟩⟩,
    fun idle => ?idle, fun x hired trip fare => ?hired⟩
  case idle =>
    have taken : exec .meterSecond s = .next (addDistance p (idleSecond s)) :=
      (exec_meterSecond_due powered).trans (congrArg Host.Outcome.next ((if_neg idle).trans (takeTally_idle idle)))
    refine ⟨_, taken, ?_⟩
    rw [addDistance_accounts]
    refine ⟨rfl, rfl, rfl, fun zero => ?_, fun calibrated => ?_, rfl, rfl, rfl, rfl, rfl, rfl, rfl, rfl, rfl⟩
    · exact (congrArg State.accounts (addDistance_uncalibrated (s := idleSecond s) zero p) :)
    · exact addDistance_totals (s := idleSecond s) calibrated p
  case hired =>
    intro tariff dp step g filled n rest next positive
    have done : SecondDone p k tariff _ (tripSecond p (secondTaken x s) _) :=
      tripSecond_done p (s := secondTaken x s) (x := { x with
        pulses := satAdd Config.max32 x.pulses p
        implausible := if takeClamped s then satAdd Config.max16 x.implausible 1 else x.implausible }) fare positive
    set y := tripSecond p (secondTaken x s) { x with
        pulses := satAdd Config.max32 x.pulses p
        implausible := if takeClamped s then satAdd Config.max16 x.implausible 1 else x.implausible } with hy
    have kept : y.pulses = min 4294967295 (x.pulses + p) ∧
        y.implausible = (if ceiling < s.panel.tally then min 65535 (x.implausible + 1) else x.implausible) ∧
        y.extrasCount = x.extrasCount ∧ y.extrasTotal = x.extrasTotal ∧ y.tariffAtHire = x.tariffAtHire ∧
        y.tariff = x.tariff ∧ y.tariffsUsed = x.tariffsUsed := by
      rw [done.rest]
      refine ⟨rfl, ?_, rfl, rfl, rfl, rfl, rfl⟩
      simp only [takeClamped, decide_eq_true_eq]
      rfl
    have gained : (progress tariff k p : Int) = g := by
      have pulsesStep : tariff.stepPulses k = dp := rfl
      simp only [progress, pulsesStep, g]
      cases tariff.mode <;> push_cast <;> rfl
    have fareThen : y.fare = min 999999 (x.fare + n * tariff.increment) := by
      rw [done.fare, gained]
      rfl
    have saturated : y.flags.saturated = true ↔
        x.flags.saturated = true ∨ 1 ≤ n ∧ 999999 ≤ x.fare + n * tariff.increment := by
      rw [done.saturated, gained]
      rfl
    have accThen : y.acc = rest := by
      rw [done.acc, gained]
      rfl
    obtain ⟨pulses, implausible, extrasCount, extrasTotal, atHire, inForce, used⟩ := kept
    obtain ⟨count, writer, counted, early, late, marked⟩ := countCheckpoint_cases { secondTaken x s with
      meter := { (secondTaken x s).meter with trip := some y } }
    let counting : State := { secondTaken x s with
      meter := { (secondTaken x s).meter with trip := some y, checkpointCount := count }, writer := writer }
    have ended : exec .meterSecond s = .next (applyEvaluation markTrip counting) :=
      (exec_meterSecond_hired powered hired trip).trans 
        (congrArg (fun t => Host.Outcome.next (applyEvaluation markTrip t)) counted)
    by_cases stays : next = x.tariff
    · have same : s.store.working.metrology.lockTariff = true ∨ evaluateTariff s = y.tariff := by
        rw [inForce]
        by_cases lock : s.store.working.metrology.lockTariff = true
        · exact .inl lock
        · exact .inr ((if_neg lock).symm.trans stays)
      refine ⟨_, y, ended.trans (congrArg Host.Outcome.next (applyEvaluation_same rfl markTrip same)), rfl, rfl, rfl,
        hired, rfl, done.seconds, pulses, implausible, fareThen, saturated, extrasCount, extrasTotal, atHire,
        fun _ => ⟨inForce, used, accThen, early, late⟩, fun other => absurd stays other, rfl, rfl, rfl, rfl, rfl,
        rfl, rfl, rfl, rfl⟩
    · have free : s.store.working.metrology.lockTariff = false := by
        by_contra lock
        exact stays (if_pos (by simpa using lock))
      have switched : next = evaluateTariff s := if_neg (by simp [free])
      have other : evaluateTariff s ≠ y.tariff := by rwa [inForce, ← switched]
      have acc : (switchTo (evaluateTariff s) s y).acc = Int.tdiv (rest * (stepUnits next s : Int)) (step : Int) := by
        rw [switched]
        simp only [switchTo, inForce, accThen]
        rfl
      refine ⟨_, switchTo (evaluateTariff s) s y, ended.trans (congrArg Host.Outcome.next
        ((applyEvaluation_switch (s := counting) (x := y) rfl markTrip free other).trans (markTrip_hired hired))),
        rfl, rfl, rfl, hired, rfl, done.seconds, pulses, implausible, fareThen, saturated, extrasCount, extrasTotal, atHire,
        fun same => absurd same stays, fun _ => ⟨switched.symm, fun m => ?_, acc, rfl, marked⟩, rfl, rfl, rfl, rfl, rfl,
        rfl, rfl, rfl, rfl⟩
      rw [switched, ← used]
      exact mem_insertOnce m _ _

end Sys2Proof.Machine
end

section
/-! PROOFS. The changes of meter state: what every change makes and keeps, and the work of each. -/

namespace Sys2Proof.Machine

/-! ### A STATUS generated stays generated -/

namespace StatusGenerated

variable {s t : State}

theorem generateStatus (h : StatusGenerated s t) : StatusGenerated s (generateStatus t) := by
  unfold Machine.generateStatus
  split
  · exact h.placeEntry .status 0 .none none
  · split
    · exact ⟨h.placed, fun _ _ _ _ => rfl⟩
    all_goals exact h

theorem refilter (h : StatusGenerated s t) : StatusGenerated s (refilter t) := by
  obtain ⟨-, -, -, ⟨-, scheduler⟩, -⟩ := refilter_frame t
  exact h.congr rfl scheduler

theorem closeOffer (n : Nat) (outcome : OfferOutcome) (h : StatusGenerated s t) :
    StatusGenerated s (closeOffer n outcome t) := by
  have closed : StatusGenerated s (closeOnly n outcome t) := h.congr rfl rfl
  unfold Machine.closeOffer
  split
  · exact h
  · split
    · exact closed.generateStatus.refilter
    · exact closed

theorem hireAssignment (h : StatusGenerated s t) : StatusGenerated s (hireAssignment t) := by
  unfold Machine.hireAssignment
  split
  · exact h
  · exact h.closeOffer _ _

end StatusGenerated

/-! ### A change of meter state -/

/-- The state of a change on which its own work is done: the take made, the new state entered _, the timer restarted. -/
def meterEntered (new : MeterState) (s : State) : State :=
  { takeTally s with meter := { (takeTally s).meter with state := new, secondSince := (takeTally s).now } }

/-- What follows a change's own work: METER, a STATUS, and the board's test. -/
def meterTold (w : State) : State := refilter (generateStatus (raise .meter w))

theorem changeMeter_told {new : MeterState} {s : State} (h : ¬(s.meter.state = .free ∧ new = .hired))
    (work : State → State) : changeMeter new work s = meterTold (work (meterEntered new s)) :=
  if_neg h

theorem changeMeter_hired {s : State} (h : s.meter.state = .free) (work : State → State) :
    changeMeter .hired work s = hireAssignment (meterTold (work (meterEntered .hired s))) :=
  if_pos ⟨h, rfl⟩

/-- A change of meter state, told: what its work made stands, with METER, a STATUS and the board tested. -/
structure MeterTold (w t : State) : Prop where
  core : SameCore w t
  inputs : SameInputs w t
  books : SameBooks w t
  inbox : t.inbox = w.inbox
  emergency : t.emergency = w.emergency
  event : Pending .meter t
  status : StatusGenerated w t

theorem meterTold_told (w : State) : MeterTold w (meterTold w) where
  core := by simp [meterTold, SameCore, raise]
  inputs := by simp [meterTold, SameInputs, raise]
  books := by simp [meterTold, SameBooks, raise]
  inbox := by simp [meterTold, raise]
  emergency := by simp [meterTold, raise]
  event := refilter_events _ _ (generateStatus_events _ _ ((mem_insertEvent _ _ _).mpr (.inl rfl)))
  status := .refilter (s := w) (.of_queue (statusGenerated_generateStatus (raise .meter w)) rfl)

theorem closeOffer_events (n : Nat) (outcome : OfferOutcome) (s : State) (j : EventKind) (h : j ∈ s.link.events) :
    j ∈ (closeOffer n outcome s).link.events := by
  have closed : j ∈ (closeOnly n outcome s).link.events := (mem_insertEvent _ _ _).mpr (.inr h)
  unfold closeOffer
  split
  · exact h
  · split
    · exact refilter_events _ _ (generateStatus_events _ _ closed)
    · exact closed

theorem hireAssignment_events (s : State) (j : EventKind) (h : j ∈ s.link.events) :
    j ∈ (hireAssignment s).link.events := by
  unfold hireAssignment
  split
  · exact h
  · exact closeOffer_events _ _ _ _ h

theorem MeterTold.hireAssignment {w t : State} (h : MeterTold w t) : MeterTold w (hireAssignment t) where
  core := by simpa [SameCore] using h.core
  inputs := by simpa [SameInputs] using h.inputs
  books := by simpa [SameBooks] using h.books
  inbox := by simpa using h.inbox
  emergency := by simpa using h.emergency
  event := hireAssignment_events _ _ h.event
  status := h.status.hireAssignment

/-- The take outside HIRED goes to the totals alone. -/
theorem meterEntered_idle {s : State} (h : s.meter.state ≠ .hired) (new : MeterState) : meterEntered new s =
    { s with
      panel := { s.panel with tally := 0 }, accounts := (takeTally s).accounts
      meter := { s.meter with state := new, secondSince := s.now } } := by
  rw [meterEntered, takeTally_idle h, addDistance_accounts]

theorem meterEntered_hired {s : State} {x : Trip} (h : s.meter.state = .hired) (trip : s.meter.trip = some x)
    (new : MeterState) : meterEntered new s =
    { s with
      panel := { s.panel with tally := 0 }
      meter := { s.meter with
        state := new, secondSince := s.now
        trip := some { x with
          pulses := satAdd Config.max32 x.pulses (takenPulses s)
          implausible := if takeClamped s then satAdd Config.max16 x.implausible 1 else x.implausible } } } := by
  rw [meterEntered, takeTally_hired h]
  simp only [trip, Option.map_some]

/-- What the work of a change makes: the meter, the accounts by the take or the close, and the checkpoint's mark. -/
def meterWorked (a : Accounts) (m : Meter) (s : State) : State :=
  { s with
    panel := { s.panel with tally := 0 }, accounts := a, meter := m
    writer := { s.writer with checkpointDirty := true } }

theorem openTrip_worked {s : State} (h : s.meter.state ≠ .hired) :
    openTrip (meterEntered .hired s) = meterWorked (takeTally s).accounts
      { s.meter with
        state := .hired, secondSince := s.now, trip := some (openedTrip s), checkpointCount := 0
        resumeOpen := false } s := by
  rw [meterEntered_idle h]
  rfl

theorem stopTrip_worked {s : State} {x : Trip} (h : s.meter.state = .hired) (trip : s.meter.trip = some x) :
    stopTrip (meterEntered .stopped s) = meterWorked s.accounts
      { s.meter with
        state := .stopped, secondSince := s.now, resumeOpen := true
        trip := some { x with
          pulses := satAdd Config.max32 x.pulses (takenPulses s)
          implausible := if takeClamped s then satAdd Config.max16 x.implausible 1 else x.implausible
          stopAt := some s.now } } s := by
  rw [meterEntered_hired h trip]
  rfl

/-- The trip resumed: the tariff evaluated then is in force unless the lock keeps the one that was. -/
def resumedTrip (s : State) (x : Trip) : Trip :=
  if s.store.working.metrology.lockTariff ∨ evaluateTariff s = x.tariff then { x with stopAt := none }
  else switchTo (evaluateTariff s) s { x with stopAt := none }

/-- The state of a resume at which the evaluation is made. -/
def windowClosed (s : State) (x : Trip) : State :=
  { s with
    panel := { s.panel with tally := 0 }, accounts := (takeTally s).accounts
    meter := { s.meter with
      state := .hired, secondSince := s.now, resumeOpen := false, trip := some { x with stopAt := none } } }

theorem resumeTrip_worked {s : State} {x : Trip} (h : s.meter.state ≠ .hired) (trip : s.meter.trip = some x) :
    resumeTrip (meterEntered .hired s) = meterWorked (takeTally s).accounts
      { s.meter with
        state := .hired, secondSince := s.now, resumeOpen := false, trip := some (resumedTrip s x) } s := by
  have opened : resumeTrip (meterEntered .hired s) =
      markCheckpoint (applyEvaluation markCheckpoint (windowClosed s x)) := by
    rw [meterEntered_idle h]
    simp only [resumeTrip, updateTrip, trip, Option.map_some]
    rfl
  rw [opened]
  by_cases same : s.store.working.metrology.lockTariff = true ∨ evaluateTariff s = x.tariff
  · rw [applyEvaluation_same (s := windowClosed s x) rfl markCheckpoint same, resumedTrip, if_pos same]
    rfl
  · obtain ⟨lock, other⟩ := not_or.mp same
    rw [applyEvaluation_switch (s := windowClosed s x) rfl markCheckpoint (Bool.eq_false_iff.mpr lock) other,
      resumedTrip, if_neg same]
    rfl

/-- A METER KEY whose work is done is answered with the state that results. -/
theorem exec_meterKey_changed {k : MeterKey} {n : Nat} {s t : State} {a : Accounts} {m : Meter} (h : Listening s)
    (free : s.store.working.keysOnly = false) (named : toMeterKey n = some k) (pressed : pressMeter k s = (none, t))
    (told : MeterTold (meterWorked a m s) t) :
    exec (.meterKey (.fields n)) s = .next (replied s .mkey .ok [.name m.state.code] t) := by
  have accepted : meterRefusal k s = none := by rw [← pressMeter_fst, pressed]
  obtain ⟨-, now, -⟩ := told.core
  obtain ⟨meter, -⟩ := told.books
  rw [exec_meterKey h, serveMeterKey_worked named free accepted, pressed]
  have shown : t.meter.state.code = m.state.code := by rw [meter]; rfl
  exact congrArg Host.Outcome.next ((congrArg (fun n => answer .mkey .ok [.name n] t) shown).trans
    (answer_replied (s := s) _ _ _ now))

theorem pressMeter_hire {s : State} (free : s.meter.state = .free) (accepted : meterRefusal .hire s = none) :
    pressMeter .hire s = (none, changeMeter .hired openTrip s) := by
  rw [← pressMeter_fst] at accepted
  refine Prod.ext accepted ?_
  unfold pressMeter at accepted ⊢
  simp only [free] at accepted ⊢
  split at accepted
  · cases accepted
  · rename_i calibrated
    rw [if_neg calibrated]
    split at accepted
    · cases accepted
    · rename_i sound
      rw [if_neg sound]

theorem pressMeter_stop {s : State} (hired : s.meter.state = .hired) :
    pressMeter .stop s = (none, changeMeter .stopped stopTrip s) := by
  simp only [pressMeter, hired]

theorem pressMeter_resume {s : State} (stopped : s.meter.state = .stopped) (window : s.meter.resumeOpen = true) :
    pressMeter .hire s = (none, changeMeter .hired resumeTrip s) := by
  simp only [pressMeter, stopped, window, if_true]

theorem pressMeter_extra {s : State} {x : Trip} (onTrip : s.meter.state.onTrip = true) (trip : s.meter.trip = some x)
    (few : x.extrasCount < 9) : pressMeter .extra s = (none, chargeExtra x s) := by
  cases state : s.meter.state with
  | hired | stopped => simp only [pressMeter, state, trip, if_neg (Nat.not_le.mpr few)]
  | off | free => simp [state, MeterState.onTrip] at onTrip

/-- The resume window's close. -/
theorem resumeCloseDue_open {s : State} {x : Trip} {i : Nat} (powered : s.powered = true)
    (stopped : s.meter.state = .stopped) (window : s.meter.resumeOpen = true) (trip : s.meter.trip = some x)
    (at' : x.stopAt = some i) : resumeCloseDue s = some (i + 20000) := by
  simp [resumeCloseDue, powered, stopped, window, trip, at']

/-- The assignment at a change from FREE to HIRED closes HIRED. -/
theorem hireAssignment_meterTold {n : Nat} {o : Offer} {s w : State} (board : w.board = s.board) (sound : BoardSound s)
    (assigned : assignment s = some n) (found : findOffer n s = some o) (awarded : o.state = .awarded) :
    findOffer n (hireAssignment (meterTold w)) = some { o with state := .closed, outcome := some .hired } ∧
      Pending .offerClosed (hireAssignment (meterTold w)) := by
  have reported : (generateStatus (raise .meter w)).board = s.board := by
    simp [raise, board]
  have mem : o ∈ (generateStatus (raise .meter w)).board.entries := by
    rw [reported]
    exact List.mem_of_find?_eq_some found
  have still : assignment (meterTold w) = some n := by
    rw [meterTold, assignment_refilter _ (by rw [reported]; exact sound.distinct), assignment, reported]
    exact assigned
  have stands : findOffer n (meterTold w) = some o := by
    refine findOffer_refilter ((findOffer_congr n reported).trans found) fun x hx number => ?_
    have same : x = o := List.inj_on_of_nodup_map sound.distinct (reported ▸ hx) (reported ▸ mem)
      (number.trans (number_of_findOffer n s o found).symm)
    rw [same, awarded]
    simp
  have ended := assignmentEnded .hired stands awarded
  simp only [hireAssignment, still]
  exact ⟨ended.entry, ended.event⟩

theorem chargeExtra_eq {s : State} {x : Trip} (trip : s.meter.trip = some x) : chargeExtra x s = raise .meter { s with
    meter := { s.meter with
      trip := some { x with
        extrasCount := x.extrasCount + 1
        extrasTotal := x.extrasTotal + (s.store.working.metrology.tariffs.get x.tariff).extra }
      checkpointCount := if s.meter.state = .hired then 0 else s.meter.checkpointCount }
    writer := { s.writer with checkpointDirty := true } } := by
  simp only [chargeExtra, updateTrip, trip, Option.map_some]
  by_cases hired : s.meter.state = .hired
  · rw [if_pos hired]
    exact congrArg (raise .meter) (if_pos hired)
  · rw [if_neg hired]
    exact congrArg (raise .meter) (if_neg hired)

/-- Settles O44, one clause for each key. -/
theorem meterKeysDriveTheTrip : Obligations.MeterKeysDriveTheTrip := by
  unfold Obligations.MeterKeysDriveTheTrip
  intro s changed p
  have changed_of {new : MeterState} {a : Accounts} {m : Meter} {t : State} (told : MeterTold (meterWorked a m s) t)
      (state : m.state = new) (since : m.secondSince = s.now) (content : List Field) :
      changed new (replied s .mkey .ok content t) := by
    obtain ⟨-, now, -, -, nonvolatile⟩ := told.core
    obtain ⟨locator, panel, store⟩ := told.inputs
    obtain ⟨meter, -, writer⟩ := told.books
    exact ⟨(congrArg Meter.state meter).trans state, (congrArg Meter.secondSince meter).trans since, now, panel,
      congrArg Writer.checkpointDirty writer, told.event,
      (told.status.of_queue rfl).congr (s := s) rfl rfl, told.inbox, told.emergency, store,
      locator, nonvolatile⟩
  refine ⟨fun h => ⟨fun n big => ?big, fun n small only => ?only, fun free => ⟨fun m n r named refused => ?refused,
    fun idle accepted => ?hire, fun x hired trip => ?stop, fun x stopped window trip => ?resume,
    fun x onTrip trip many => ?full, fun x onTrip trip few => ?extra⟩⟩,
    fun x i powered stopped window trip at' => ?window, fun closed => ?shut⟩
  case big =>
    rw [exec_meterKey h]
    match n, big with
    | n + 4, _ => rfl
  case only =>
    rw [exec_meterKey h]
    match n, small with
    | 0, _ | 1, _ | 2, _ | 3, _ => exact congrArg Host.Outcome.next (if_pos only)
  case refused =>
    have key : toMeterKey n = some m := by
      simp only [List.mem_cons, Prod.mk.injEq, List.not_mem_nil, or_false] at named
      rcases named with ⟨rfl, rfl⟩ | ⟨rfl, rfl⟩ | ⟨rfl, rfl⟩ | ⟨rfl, rfl⟩ <;> rfl
    rw [exec_meterKey h, serveMeterKey_refused key free refused]
    rfl
  case hire =>
    have told := (meterTold_told (openTrip (meterEntered .hired s))).hireAssignment
    rw [← changeMeter_hired idle, openTrip_worked (by simp [idle])] at told
    obtain ⟨meter, -⟩ := told.books
    have entered := changed_of told rfl rfl
    refine ⟨_, openedTrip s, exec_meterKey_changed h free rfl (pressMeter_hire idle accepted) told,
      entered _, rfl, (congrArg Meter.trip meter :), (congrArg Meter.checkpointCount meter :),
      (congrArg Meter.resumeOpen meter :), rfl, rfl, rfl, rfl, rfl, rfl, rfl, rfl, rfl, rfl, rfl, rfl, rfl, rfl, ?_, ?_,
      rfl, fun n o sound assigned found awarded => ?_⟩
    · exact (decide_not ..).symm
    · cases time : s.receiver.time <;> simp [openedTrip, timeOfDay, time]
    · have changes := changeMeter_hired (s := s) idle openTrip
      rw [openTrip_worked (by simp [idle])] at changes
      rw [changes]
      exact hireAssignment_meterTold (s := s) rfl sound assigned found awarded
  case stop =>
    have told := meterTold_told (stopTrip (meterEntered .stopped s))
    rw [← changeMeter_told (by simp [hired]), stopTrip_worked hired trip] at told
    obtain ⟨meter, accounts, -⟩ := told.books
    have entered := changed_of told rfl rfl
    refine ⟨_, exec_meterKey_changed h free rfl (pressMeter_stop hired) told, entered _, rfl,
      (congrArg Meter.resumeOpen meter :), (congrArg Meter.checkpointCount meter :), accounts,
      (congrArg Meter.trip meter :).trans ?_⟩
    simp only [takeClamped, decide_eq_true_eq]
    rfl
  case resume =>
    have told := meterTold_told (resumeTrip (meterEntered .hired s))
    rw [← changeMeter_told (by simp [stopped]), resumeTrip_worked (by simp [stopped]) trip] at told
    obtain ⟨meter, -⟩ := told.books
    have entered := changed_of told rfl rfl
    have kept : (resumedTrip s x).stopAt = none ∧ (resumedTrip s x).fare = x.fare ∧
        (resumedTrip s x).seconds = x.seconds ∧ (resumedTrip s x).pulses = x.pulses ∧
        (resumedTrip s x).extrasCount = x.extrasCount ∧ (resumedTrip s x).extrasTotal = x.extrasTotal ∧
        (resumedTrip s x).flags = x.flags := by
      unfold resumedTrip
      split <;> exact ⟨rfl, rfl, rfl, rfl, rfl, rfl, rfl⟩
    obtain ⟨stopAt, fare, seconds, pulses, extrasCount, extrasTotal, flags⟩ := kept
    refine ⟨_, resumedTrip s x, exec_meterKey_changed h free rfl (pressMeter_resume stopped window) told,
      entered _, rfl, (congrArg Meter.resumeOpen meter :), (congrArg Meter.checkpointCount meter :),
      (congrArg Meter.trip meter :), stopAt, fare, seconds, pulses, extrasCount, extrasTotal, flags,
      fun same => if_pos same, fun unlocked other => ?_⟩
    have switched : resumedTrip s x = switchTo (evaluateTariff s) s { x with stopAt := none } :=
      if_neg (by simp [unlocked, other])
    rw [switched]
    exact ⟨rfl, fun b => mem_insertOnce b _ _⟩
  case full =>
    have refused : meterRefusal .extra s = some .state := by
      rw [← pressMeter_fst]
      cases state : s.meter.state <;> simp [pressMeter, state, trip, many]
    rw [exec_meterKey h, serveMeterKey_refused rfl free refused]
    rfl
  case extra =>
    have pressed := pressMeter_extra onTrip trip few
    have accepted : meterRefusal .extra s = none := by rw [← pressMeter_fst, pressed]
    have code : s.meter.state.code = if s.meter.state = .hired then 2 else 3 := by
      cases state : s.meter.state with
      | hired | stopped => rfl
      | off | free => simp [state, MeterState.onTrip] at onTrip
    rw [exec_meterKey h, serveMeterKey_worked rfl free accepted, pressed, chargeExtra_eq trip, ← code]
    rfl
  case window => exact congrArg Host.Outcome.next (atInstant_due (resumeCloseDue_open powered stopped window trip at') _ s)
  case shut =>
    refine congrArg Host.Outcome.next (atInstant_not_due ?_ _ s)
    rcases closed with h | h | h <;> simp [resumeCloseDue, h]

end Sys2Proof.Machine
end

section
/-! PROOFS. The close of a trip by FREE, and the shifts. -/

namespace Sys2Proof.Machine

/-! ### The metres of a take -/

/-- The whole metres of a take of `p` pulses. -/
def wholeMetres (p : Nat) (s : State) : Nat :=
  if pulseConstant s = 0 then 0 else (s.accounts.totals.remainder + p * 1000) / pulseConstant s

/-- The sums with the metres of a take: none, or added to the total distance up to its most. -/
def MetresAdded (m : Nat) (a b : Sums) : Prop := b = a ∧ m = 0 ∨ b = addMetres m a

/-- What a take changes of the accounts: the remainder and the total distances. -/
structure DistanceAdded (m : Nat) (a b : Accounts) : Prop where
  life : MetresAdded m a.totals.life b.totals.life
  shift : MetresAdded (if a.totals.shiftOpen then m else 0) a.totals.shift.sums b.totals.shift.sums
  numbers : b.totals.shift = { a.totals.shift with sums := b.totals.shift.sums }
  totals : b.totals = { a.totals with
    remainder := b.totals.remainder, life := b.totals.life, shift := b.totals.shift }
  rest : b = { a with totals := b.totals, changed := b.changed }

theorem addDistance_added (p : Nat) (s : State) :
    DistanceAdded (wholeMetres p s) s.accounts (addDistance p s).accounts := by
  unfold addDistance wholeMetres
  by_cases uncalibrated : pulseConstant s = 0
  · rw [if_pos uncalibrated, if_pos uncalibrated]
    exact ⟨.inl ⟨rfl, rfl⟩, .inl ⟨rfl, ite_self 0⟩, rfl, rfl, rfl⟩
  · rw [if_neg uncalibrated, if_neg uncalibrated]
    dsimp only
    split
    · rename_i none
      rw [none.1]
      exact ⟨.inl ⟨rfl, rfl⟩, .inl ⟨rfl, ite_self 0⟩, rfl, rfl, rfl⟩
    · cases opened : s.accounts.totals.shiftOpen with
      | true => exact ⟨.inr rfl, .inr (by simp [updateTotals, opened]), by simp [updateTotals, opened], rfl, rfl⟩
      | false => exact ⟨.inr rfl, .inl (by simp [updateTotals, opened]), by simp [updateTotals, opened], rfl, rfl⟩

theorem takeTally_added {s : State} (h : s.meter.state ≠ .hired) :
    DistanceAdded (wholeMetres (takenPulses s) s) s.accounts (takeTally s).accounts := by
  rw [takeTally_idle h]
  exact addDistance_added (takenPulses s) { s with panel := { s.panel with tally := 0 } }

/-- A trip added after the metres of the last take, as the six additions give it. -/
theorem MetresAdded.plusTrip {m : Nat} {a b : Sums} (h : MetresAdded m a b) (r : TripRecord) :
    (plusTrip r b).trips = min 999999999999 (a.trips + 1) ∧ (plusTrip r b).fare = min 999999999999 (a.fare + r.fare) ∧
    (plusTrip r b).extras = min 999999999999 (a.extras + r.extrasTotal) ∧
    (plusTrip r b).hiredDistance = min 999999999999 (a.hiredDistance + r.distance) ∧
    (plusTrip r b).hiredSeconds = min 999999999999 (a.hiredSeconds + r.duration) ∧
    (plusTrip r b).totalDistance = min 999999999999 (a.totalDistance + m + r.distance) := by
  rcases h with ⟨rfl, rfl⟩ | rfl
  · exact ⟨rfl, rfl, rfl, rfl, rfl, rfl⟩
  · refine ⟨rfl, rfl, rfl, rfl, rfl, ?_⟩
    simp only [Machine.plusTrip, addMetres, satAdd, mostTotal, Config.maxTotal]
    omega

theorem MetresAdded.trips {m : Nat} {a b : Sums} (h : MetresAdded m a b) : b.trips = a.trips ∧ b.fare = a.fare := by
  rcases h with ⟨rfl, -⟩ | rfl <;> exact ⟨rfl, rfl⟩

/-! ### A trip closed into the accounts -/

/-- The counting of an overwritten record changes its own count alone. -/
theorem overwriteCounted_eq (log : List LogEntry) (fault : Bool) (x : Totals) : overwriteCounted log fault x =
    { x with shift := { x.shift with overwritten := (overwriteCounted log fault x).shift.overwritten } } := by
  unfold overwriteCounted
  split
  · split <;> rfl
  · rfl

theorem overwriteCounted_congr {x y : Totals} (h : x.shift.overwritten = y.shift.overwritten) (log : List LogEntry)
    (fault : Bool) :
    (overwriteCounted log fault x).shift.overwritten = (overwriteCounted log fault y).shift.overwritten := by
  unfold overwriteCounted
  split
  · split
    · simp only [h]
    · exact h
  · exact h

/-- A record that joins the log drops the TRIP_REPORT entry of the record that a full log loses. -/
theorem appendRecord_queue (r : TripRecord) (s : State) :
    (appendRecord r s).scheduler = s.scheduler ∧ s.accounts.log.length < 32 ∨
    (∃ e rest, s.accounts.log = e :: rest ∧
      (appendRecord r s).scheduler = (dropEntry .tripReport e.record.seq s).scheduler) := by
  rw [appendRecord_eq]
  dsimp only [markRecord]
  split
  · rename_i room
    exact .inl ⟨rfl, room⟩
  · rename_i full
    cases log : s.accounts.log with
    | nil => simp [log] at full
    | cons e rest => exact .inr ⟨e, rest, rfl, countOverwritten_scheduler e _⟩

theorem closeIntoAccounts_queue (r : TripRecord) (s : State) :
    (closeIntoAccounts r s).scheduler = (appendRecord (closing r s) s).scheduler := by
  rw [closeIntoAccounts_eq]
  dsimp only
  split
  · rfl
  · simp [updateTotals]

/-- A trip closed changes the totals, except under the totals fault. -/
theorem closeIntoAccounts_changed (r : TripRecord) {s : State} (clear : s.accounts.fault = false) :
    (closeIntoAccounts r s).accounts.changed = true := by
  rw [closeIntoAccounts_eq]
  simp [clear, updateTotals]

/-- The record of the trip that a FREE closes. -/
def freedRecord (s : State) (x : Trip) : TripRecord :=
  closedRecord x (pulseConstant s) s.accounts.totals.shift.shift s.accounts.totals.shift.driver s.locator.zone

/-- The state of a FREE in which the trip closes: the take made and FREE entered. -/
def freeEntered (s : State) : State :=
  { s with
    panel := { s.panel with tally := 0 }, accounts := (takeTally s).accounts
    meter := { s.meter with state := .free, secondSince := s.now } }

theorem closeTrip_worked {s : State} {x : Trip} (h : s.meter.state ≠ .hired) (trip : s.meter.trip = some x) :
    closeTrip (meterEntered .free s) = markCheckpoint { closeIntoAccounts (freedRecord s x) (freeEntered s) with
      meter := { s.meter with state := .free, secondSince := s.now, trip := none, resumeOpen := false } } := by
  have numbers := (takeTally_added h).numbers
  have entered : meterEntered .free s = freeEntered s := meterEntered_idle h .free
  have shift : (freeEntered s).accounts.totals.shift.shift = s.accounts.totals.shift.shift :=
    (congrArg ShiftTotals.shift numbers :)
  have driver : (freeEntered s).accounts.totals.shift.driver = s.accounts.totals.shift.driver :=
    (congrArg ShiftTotals.driver numbers :)
  have open' : (freeEntered s).meter.trip = some x := trip
  obtain ⟨-, -, -, -, meter, -⟩ := closeIntoAccounts_frame (freedRecord s x) (freeEntered s)
  rw [entered]
  simp only [closeTrip, open', shift, driver]
  rw [show closedRecord x (pulseConstant (freeEntered s)) s.accounts.totals.shift.shift s.accounts.totals.shift.driver
    (freeEntered s).locator.zone = freedRecord s x from rfl, meter]
  rfl

theorem freeEntered_kept {s : State} (h : s.meter.state ≠ .hired) :
    (freeEntered s).accounts.fault = s.accounts.fault ∧ (freeEntered s).accounts.log = s.accounts.log ∧
    (freeEntered s).accounts.nextSeq = s.accounts.nextSeq ∧
    (freeEntered s).accounts.totals.marker = s.accounts.totals.marker ∧
    (freeEntered s).accounts.totals.shift.trialTrips = s.accounts.totals.shift.trialTrips ∧
    (freeEntered s).accounts.totals.shift.overwritten = s.accounts.totals.shift.overwritten := by
  have take := takeTally_added h
  exact ⟨(congrArg Accounts.fault take.rest :), (congrArg Accounts.log take.rest :),
    (congrArg Accounts.nextSeq take.rest :), (congrArg Totals.marker take.totals :),
    (congrArg ShiftTotals.trialTrips take.numbers :), (congrArg ShiftTotals.overwritten take.numbers :)⟩

theorem freeEntered_remainder {s : State} (h : s.meter.state ≠ .hired) (calibrated : pulseConstant s ≠ 0) :
    (freeEntered s).accounts.totals.remainder =
      (s.accounts.totals.remainder + takenPulses s * 1000) % pulseConstant s := by
  have take : (freeEntered s).accounts =
      (addDistance (takenPulses s) { s with panel := { s.panel with tally := 0 } }).accounts :=
    (congrArg State.accounts (takeTally_idle h) :)
  rw [take]
  exact (addDistance_totals (s := { s with panel := { s.panel with tally := 0 } }) calibrated (takenPulses s)).1

theorem withTrip_paid {r : TripRecord} (h : r.flags.trial = false) (x : Totals) : withTrip x r =
    { x with
      shift := { x.shift with sums := plusTrip r x.shift.sums }, life := plusTrip r x.life, marker := some r.seq } :=
  if_neg (by simp [h])

theorem withTrip_trial {r : TripRecord} (h : r.flags.trial = true) (x : Totals) : withTrip x r =
    { x with
      shift := { x.shift with trialTrips := min mostTotal (x.shift.trialTrips + 1) }, marker := some r.seq } :=
  if_pos h

/-- A trip closed without the totals fault is counted with the overwriting and the last take. -/
theorem freed_totals {s : State} (clear : s.accounts.fault = false) (h : s.meter.state ≠ .hired) (r : TripRecord) :
    (closeIntoAccounts r (freeEntered s)).accounts.totals = withTrip { (takeTally s).accounts.totals with
      shift := { (takeTally s).accounts.totals.shift with
        overwritten := (overwriteCounted s.accounts.log false s.accounts.totals).shift.overwritten } }
      (closing r (freeEntered s)) := by
  obtain ⟨fault, log, -, -, -, overwritten⟩ := freeEntered_kept h
  rw [closeIntoAccounts_totals, fault, clear, if_neg Bool.false_ne_true, log, overwriteCounted_eq,
    overwriteCounted_congr overwritten]
  rfl

theorem freed_totals_fault {s : State} (fault : s.accounts.fault = true) (h : s.meter.state ≠ .hired) (r : TripRecord) :
    (closeIntoAccounts r (freeEntered s)).accounts.totals = (takeTally s).accounts.totals := by
  obtain ⟨still, -⟩ := freeEntered_kept h
  rw [closeIntoAccounts_totals, still, fault, if_pos rfl]
  rfl

/-- The queue of a FREE: the entries but the TRIP_REPORT of the record that a full log loses, and a STATUS. -/
theorem freed_scheduler {s : State} (h : s.meter.state ≠ .hired) (r : TripRecord) :
    (closeIntoAccounts r (freeEntered s)).scheduler = s.scheduler ∧ s.accounts.log.length < 32 ∨
    ∃ e rest, s.accounts.log = e :: rest ∧
      (closeIntoAccounts r (freeEntered s)).scheduler = (dropEntry .tripReport e.record.seq s).scheduler := by
  obtain ⟨-, log, -⟩ := freeEntered_kept h
  rw [closeIntoAccounts_queue, ← log]
  exact appendRecord_queue (closing r (freeEntered s)) (freeEntered s)

theorem mem_meterTold {w : State} {e : Entry} (h : e ∈ (meterTold w).scheduler.queue) :
    e ∈ w.scheduler.queue ∨ e.kind = .status := by
  obtain ⟨-, -, -, ⟨-, scheduler⟩, -⟩ := refilter_frame (generateStatus (raise .meter w))
  rw [meterTold, scheduler] at h
  exact mem_generateStatus (s := raise .meter w) h

/-- Settles O45. -/
theorem freeClosesTheTrip : Obligations.FreeClosesTheTrip := by
  unfold Obligations.FreeClosesTheTrip
  intro s x h free stopped trip most k sum metres added
  have idle : s.meter.state ≠ .hired := by simp [stopped]
  have pressed : pressMeter .free s = (none, changeMeter .free closeTrip s) := by simp only [pressMeter, stopped]
  have accepted : meterRefusal .free s = none := by rw [← pressMeter_fst, pressed]
  have told := meterTold_told (closeTrip (meterEntered .free s))
  have changes : changeMeter .free closeTrip s = meterTold (closeTrip (meterEntered .free s)) :=
    changeMeter_told (by simp [stopped]) closeTrip
  rw [← changes, closeTrip_worked idle trip] at told
  rw [closeTrip_worked idle trip] at changes
  have take := takeTally_added idle
  obtain ⟨fault, entries, number, -⟩ := freeEntered_kept idle
  obtain ⟨⟨holding, -⟩, lastClose, log, nextSeq⟩ := closeIntoAccounts_accounts (freedRecord s x) (freeEntered s)
  have dirty := closeIntoAccounts_totalsDirty (freedRecord s x) (freeEntered s)
  obtain ⟨⟨-, closedNow, -, -, closedNonvolatile⟩, ⟨closedLocator, closedPanel, closedStore⟩,
    ⟨-, closedInbox, closedEmergency⟩, -⟩ := closeIntoAccounts_frame (freedRecord s x) (freeEntered s)
  obtain ⟨-, now, -, -, nonvolatile⟩ := told.core
  obtain ⟨locator, panel, store⟩ := told.inputs
  obtain ⟨meter, accounts, writer⟩ := told.books
  have closed : (changeMeter .free closeTrip s).accounts =
      (closeIntoAccounts (freedRecord s x) (freeEntered s)).accounts := accounts
  have instant : (changeMeter .free closeTrip s).now = s.now := now.trans closedNow
  have answered : exec (.meterKey (.fields 2)) s =
      .next (replied s .mkey .ok [.name 1] (changeMeter .free closeTrip s)) := by
    rw [exec_meterKey h, serveMeterKey_worked rfl free accepted, pressed]
    have shown : (changeMeter .free closeTrip s).meter.state.code = 1 := by rw [meter]; rfl
    exact congrArg Host.Outcome.next ((congrArg (fun n => answer .mkey .ok [.name n] _) shown).trans
      (answer_replied (s := s) _ _ _ instant))
  refine ⟨_, closing (freedRecord s x) (freeEntered s), answered, (congrArg Meter.state meter :),
    (congrArg Meter.trip meter :), (congrArg Meter.secondSince meter :), instant, panel.trans closedPanel, told.event,
    ?status, rfl, (congrArg Writer.checkpointDirty writer :), (congrArg Accounts.lastClose accounts).trans lastClose,
    ?newest, number, ?next, rfl, rfl, rfl, rfl, rfl, rfl, rfl, rfl, rfl, rfl, rfl, rfl, rfl, rfl, rfl, rfl, rfl,
    ?appended, fun e rest oldest full => ?dropped, fun calibrated => ?remainder, ?overwritten, fun clear => ?counted,
    fun stands => ?stands, told.inbox.trans closedInbox, told.emergency.trans closedEmergency,
    store.trans closedStore, locator.trans closedLocator, nonvolatile.trans closedNonvolatile⟩
  case status =>
    refine StatusGenerated.congr (s := s) ?_ rfl rfl (v := changeMeter .free closeTrip s)
    rcases freed_scheduler idle (freedRecord s x) with ⟨same, -⟩ | ⟨e, rest, -, dropped⟩
    · exact told.status.congr same.symm rfl
    · exact StatusGenerated.of_dropEntry (by decide) (told.status.congr dropped.symm rfl)
  case newest =>
    rw [congrArg Accounts.log accounts]
    exact (congrArg (fun l : List LogEntry => l.getLast?.map (·.record)) log).trans (by rw [appendedLog_getLast])
  case next =>
    rw [congrArg Accounts.nextSeq accounts]
    refine nextSeq.trans ?_
    have seq : (closing (freedRecord s x) (freeEntered s)).seq = (freeEntered s).accounts.nextSeq := rfl
    rw [seq, nextNumber]
    by_cases last : (freeEntered s).accounts.nextSeq < 65535
    · rw [if_neg (by simpa using last), if_pos last]
    · rw [if_pos (by simpa using last), if_neg last]
  case appended =>
    rw [congrArg Accounts.log accounts]
    have := appended_appendedLog (closing (freedRecord s x) (freeEntered s)) s.accounts.log
    rw [← entries] at this ⊢
    exact log ▸ this
  case dropped =>
    rintro q hq ⟨kind, key⟩
    have queued : q ∈ (changeMeter .free closeTrip s).scheduler.queue := hq
    rw [changes] at queued
    have mem : q ∈ (closeIntoAccounts (freedRecord s x) (freeEntered s)).scheduler.queue :=
      (mem_meterTold queued).resolve_right (by simp [kind])
    rcases freed_scheduler idle (freedRecord s x) with ⟨-, room⟩ | ⟨e', rest', first, scheduler⟩
    · omega
    · obtain ⟨rfl, -⟩ := List.cons.inj (oldest.symm.trans first)
      rw [scheduler] at mem
      simpa [Entry.is, kind, key] using (List.mem_filter.mp mem).2
  case remainder =>
    rw [congrArg Accounts.totals closed]
    refine Eq.trans ?_ (freeEntered_remainder idle calibrated)
    cases clear : s.accounts.fault with
    | true => rw [freed_totals_fault clear idle]; rfl
    | false =>
      rw [freed_totals clear idle]
      cases trial : (closing (freedRecord s x) (freeEntered s)).flags.trial with
      | true => rw [withTrip_trial trial]; rfl
      | false => rw [withTrip_paid trial]; rfl
  case overwritten =>
    rw [congrArg Accounts.totals closed]
    cases clear : s.accounts.fault with
    | true =>
      rw [freed_totals_fault clear idle, overwriteCounted_fault]
      exact (freeEntered_kept idle).2.2.2.2.2
    | false =>
      rw [freed_totals clear idle]
      cases trial : (closing (freedRecord s x) (freeEntered s)).flags.trial with
      | true => rw [withTrip_trial trial]
      | false => rw [withTrip_paid trial]
  case counted =>
    have totals := (congrArg Accounts.totals closed).trans (freed_totals clear idle (freedRecord s x))
    refine ⟨?marker, ?dirty, ?changed, fun paid => ?paid, fun trial => ?trial⟩
    case dirty => rw [congrArg Writer.totalsDirty writer]; exact dirty.trans (by rw [fault, clear]; simp)
    case changed =>
      rw [congrArg Accounts.changed closed]
      exact closeIntoAccounts_changed _ (fault.trans clear)
    case marker =>
      rw [totals]
      cases trial : (closing (freedRecord s x) (freeEntered s)).flags.trial with
      | true => rw [withTrip_trial trial]
      | false => rw [withTrip_paid trial]
    case paid =>
      have flagged : (closing (freedRecord s x) (freeEntered s)).flags.trial = false := paid
      rw [totals, withTrip_paid flagged]
      exact ⟨take.shift.plusTrip _, take.life.plusTrip _, (freeEntered_kept idle).2.2.2.2.1⟩
    case trial =>
      have flagged : (closing (freedRecord s x) (freeEntered s)).flags.trial = true := trial
      rw [totals, withTrip_trial flagged]
      exact ⟨congrArg (fun n => min most (n + 1)) (freeEntered_kept idle).2.2.2.2.1, take.shift.trips.1,
        take.shift.trips.2, take.life.trips.1, take.life.trips.2⟩
  case stands =>
    rw [congrArg Accounts.totals closed, freed_totals_fault stands idle]
    refine ⟨(congrArg Totals.marker take.totals :), ?_⟩
    rw [congrArg Writer.totalsDirty writer]
    exact dirty.trans (by rw [fault, stands]; simp [freeEntered])

end Sys2Proof.Machine
end

section
/-! PROOFS. The shifts, the setting of the time, and what the accounts do at their instants. -/

namespace Sys2Proof.Machine

/-! ### Shifts -/

/-- The state of a change outside HIRED in which totals are worked on. -/
def shiftEntered (new : MeterState) (s : State) : State :=
  { s with
    panel := { s.panel with tally := 0 }, accounts := (takeTally s).accounts
    meter := { s.meter with state := new, secondSince := s.now } }

/-- Totals changed and marked: the writer's mark is set unless the totals fault holds. -/
def totalsMarked (f : Totals → Totals) (s : State) : State := markTotals (updateTotals f s)

theorem totalsMarked_eq (f : Totals → Totals) (s : State) : totalsMarked f s = { s with
    accounts := { s.accounts with totals := f s.accounts.totals, changed := true }
    writer := { s.writer with totalsDirty := s.writer.totalsDirty || !s.accounts.fault } } := by
  cases fault : s.accounts.fault <;> simp [totalsMarked, markTotals, updateTotals, fault]

/-- A shift request's change of meter state, told. -/
theorem shiftChanged {s : State} (h : s.meter.state ≠ .hired) (new : MeterState) (notHired : new ≠ .hired)
    (f : Totals → Totals) (work : State → State)
    (works : work (meterEntered new s) = totalsMarked f (meterEntered new s)) :
    MeterTold (totalsMarked f (shiftEntered new s)) (changeMeter new work s) := by
  have told := meterTold_told (work (meterEntered new s))
  rw [← changeMeter_told (by simp [notHired]), works, meterEntered_idle h] at told
  exact told

/-- The totals of a shift that opens. -/
def shiftOpened (driver : Nat) (opening : Option TimeOfDay) (t : Totals) : Totals :=
  { t with
    shift := { shift := nextNumber Config.max16 t.shift.shift, driver := driver, opening := opening
               sums := noSums, trialTrips := 0, overwritten := 0 }
    shiftOpen := true }

/-- The totals of a shift that closes. -/
def shiftClosed (t : Totals) : Totals := { t with shiftOpen := false }

theorem MeterTold.totals {new : MeterState} {f : Totals → Totals} {s t : State}
    (h : MeterTold (totalsMarked f (shiftEntered new s)) t) : t.accounts.totals = f (takeTally s).accounts.totals := by
  rw [totalsMarked_eq] at h
  exact (congrArg Accounts.totals h.books.2.1 :)

theorem MeterTold.state {new : MeterState} {f : Totals → Totals} {s t : State}
    (h : MeterTold (totalsMarked f (shiftEntered new s)) t) : t.meter.state = new := by
  rw [totalsMarked_eq] at h
  exact (congrArg Meter.state h.books.1 :)

theorem MeterTold.instant {new : MeterState} {f : Totals → Totals} {s t : State}
    (h : MeterTold (totalsMarked f (shiftEntered new s)) t) : t.now = s.now := by
  rw [totalsMarked_eq] at h
  exact h.core.2.1

theorem exec_shiftOpen {s : State} (h : Listening s) (d : Nat) :
    exec (.shiftOpen (.fields d)) s = .next (serveShiftOpen d s) :=
  congrArg Host.Outcome.next (request_listening (.shiftOpen (.fields d)) s h)

theorem exec_shiftClose {s : State} (h : Listening s) :
    exec (.shiftClose (.fields ())) s = .next (serveShiftClose s) :=
  congrArg Host.Outcome.next (request_listening (.shiftClose (.fields ())) s h)

theorem exec_timeSet {s : State} (h : Listening s) (a : TimeArgs) :
    exec (.timeSet (.fields a)) s = .next (serveTimeSet a s) :=
  congrArg Host.Outcome.next (request_listening (.timeSet (.fields a)) s h)

/-- With the meter OFF no offer is admitted: every PRESENTED entry is one that the board drops. -/
theorem refilter_off {s : State} (off : s.meter.state = .off) {x : Offer} (hx : x ∈ (refilter s).board.entries) :
    x.state ≠ .presented := by
  rw [refilter_entries] at hx
  obtain ⟨y, hy, rfl⟩ := List.mem_map.mp hx
  split
  · exact OfferState.noConfusion
  · rename_i stays
    intro presented
    refine stays (List.mem_map.mpr ⟨y, List.mem_filter.mpr ⟨hy, ?_⟩, rfl⟩)
    have cab : cabAdmits y.cls y.nextJob s = false := by simp [cabAdmits, off]
    simp [presented, cab]

/-- Settles O46. -/
theorem shiftsAndTimeAreSet : Obligations.ShiftsAndTimeAreSet := by
  unfold Obligations.ShiftsAndTimeAreSet
  intro s h changed
  have changed_of {new : MeterState} {f : Totals → Totals} {t : State} (idle : s.meter.state ≠ .hired)
      (told : MeterTold (totalsMarked f (shiftEntered new s)) t) (tag : Tag) (content : List Field) :
      changed new (replied s tag .ok content t) := by
    have take := takeTally_added idle
    rw [totalsMarked_eq] at told
    obtain ⟨-, now, -, -, nonvolatile⟩ := told.core
    obtain ⟨locator, panel, store⟩ := told.inputs
    obtain ⟨meter, accounts, writer⟩ := told.books
    refine ⟨(congrArg Meter.state meter :), (congrArg Meter.secondSince meter :), (congrArg Meter.trip meter :), panel,
      told.event, (told.status.of_queue rfl).congr (s := s) rfl rfl, fun clear => ?_,
      (congrArg Accounts.changed accounts :), (congrArg Accounts.log accounts).trans (congrArg Accounts.log take.rest :),
      told.inbox, told.emergency, store, locator, nonvolatile⟩
    have fault : (takeTally s).accounts.fault = false := (congrArg Accounts.fault take.rest :).trans clear
    refine (congrArg Writer.totalsDirty writer).trans ?_
    simp [shiftEntered, fault]
  refine ⟨fun d outside => ?badDriver, fun d low high => ⟨fun on => ?notOff, fun off => ?opens⟩, fun notFree => ?notFree,
    fun free assigned => ?assigned, fun free idle => ?closes, fun a => ⟨fun outside => ?badTime, fun day second =>
      ⟨fun level => ?level, fun level => ?sets⟩⟩⟩
  case badDriver => exact (exec_shiftOpen h d).trans (congrArg Host.Outcome.next (if_pos (by simp [within]; omega)))
  case notOff =>
    have fits : within 1 9999 d = true := by simp [within, low, high]
    rw [exec_shiftOpen h d, serveShiftOpen, if_neg (by simp [fits]), if_pos on]
    rfl
  case opens =>
    have idle : s.meter.state ≠ .hired := by simp [off]
    have told := shiftChanged idle .free (by simp) (shiftOpened d (timeOfDay s)) (openShift d) (by
      rw [meterEntered_idle idle]; rfl)
    have totals := told.totals
    refine ⟨_, exec_shiftOpen h d, ?_⟩
    have served : serveShiftOpen d s = replied s .sopn .ok [.name 1] (changeMeter .free (openShift d) s) := by
      rw [serveShiftOpen, if_neg (by simp [within, low, high]), if_neg (not_not_intro off)]
      simp only [told.state]
      exact answer_replied (s := s) _ _ _ told.instant
    rw [served]
    refine ⟨changed_of idle told _ _, (congrArg Totals.shiftOpen totals :), (congrArg Totals.shift totals).trans ?_, rfl⟩
    have number : (takeTally s).accounts.totals.shift.shift = s.accounts.totals.shift.shift :=
      (congrArg ShiftTotals.shift (takeTally_added idle).numbers :)
    rw [shiftOpened, number, nextNumber_eq_numberAfter]
    rfl
  case notFree => exact (exec_shiftClose h).trans (congrArg Host.Outcome.next (if_pos notFree))
  case assigned =>
    rw [exec_shiftClose h, serveShiftClose, if_neg (by simp [free]), if_pos (Option.isSome_iff_ne_none.mpr assigned)]
    rfl
  case closes =>
    have hired : s.meter.state ≠ .hired := by simp [free]
    have told := shiftChanged hired .off (by simp) shiftClosed closeShift rfl
    have totals := told.totals
    have take := takeTally_added hired
    have changes : changeMeter .off closeShift s = meterTold (totalsMarked shiftClosed (shiftEntered .off s)) := by
      rw [changeMeter_told (by simp), meterEntered_idle hired]; rfl
    have off : (generateStatus (raise .meter (totalsMarked shiftClosed (shiftEntered .off s)))).meter.state = .off := by
      rw [totalsMarked_eq]
      simp [raise, shiftEntered]
    have board : (generateStatus (raise .meter (totalsMarked shiftClosed (shiftEntered .off s)))).board = s.board := by
      rw [totalsMarked_eq]
      simp [raise, shiftEntered]
    have served : serveShiftClose s = replied s .scls .ok [.name 0] (changeMeter .off closeShift s) := by
      rw [serveShiftClose, if_neg (not_not_intro free), if_neg (by simp [idle])]
      simp only [told.state]
      exact answer_replied (s := s) _ _ _ told.instant
    refine ⟨_, (exec_shiftClose h).trans (congrArg Host.Outcome.next served), changed_of hired told _ _,
      (congrArg Totals.shiftOpen totals :), (congrArg (·.shift.shift) totals).trans (congrArg ShiftTotals.shift take.numbers :),
      (congrArg (·.shift.driver) totals).trans (congrArg ShiftTotals.driver take.numbers :),
      (congrArg (·.shift.sums.trips) totals).trans take.shift.trips.1,
      (congrArg (·.shift.sums.fare) totals).trans take.shift.trips.2, ?_, ?_, rfl⟩
    · intro o mem
      have stands : o ∈ (changeMeter .off closeShift s).board.entries := mem
      rw [changes] at stands
      exact refilter_off off stands
    · intro sound o mem presented
      have retested := retested_refilter (generateStatus (raise .meter (totalsMarked shiftClosed (shiftEntered .off s))))
        (sound.congr board)
      have dropped := retested.dropped o (board ▸ mem) presented fun admitted => by
        have shut : (meterTold (totalsMarked shiftClosed (shiftEntered .off s))).meter.state = .off := changes ▸ told.state
        rcases shut ▸ admitted.1.meter with free | ⟨onTrip, -⟩
        · exact MeterState.noConfusion free
        · exact Bool.noConfusion onTrip
      rw [changes]
      exact ⟨dropped.entry, dropped.order, dropped.event⟩
  case badTime =>
    rw [exec_timeSet h, serveTimeSet]
    rcases outside with day | second
    · have none : toDayType a.dayType = none := by
        rw [← Option.not_isSome_iff_eq_none, toDayType_isSome]; omega
      rw [none]; rfl
    · split
      · rfl
      · rw [if_pos (by simp [within]; omega)]; rfl
  case level =>
    rw [exec_timeSet h, serveTimeSet, toDayType_eq day]
    simp only [within, Nat.zero_le, second, level]
    rfl
  case sets =>
    rw [exec_timeSet h, serveTimeSet, toDayType_eq day]
    simp only [within, Nat.zero_le, second, Nat.not_lt.mpr level]
    rfl

end Sys2Proof.Machine
end

section
/-! PROOFS. What the accounts do at their own instants, and TOTALS REINIT. -/

namespace Sys2Proof.Machine

theorem tripReportDue_met {s : State} {e : LogEntry} (powered : s.powered = true)
    (none : ∀ x ∈ s.scheduler.queue, x.kind ≠ .tripReport) (locked : s.receiver.sync = .locked)
    (low : 1 ≤ s.store.working.address) (high : s.store.working.address ≤ 4094) (oldest : reportable s = some e) :
    tripReportDue s = some 0 := by
  simpa [tripReportDue, dueWhen, powered, locked, addressSet, low, high, oldest] using none

theorem tripReportDue_unmet {s : State} (h : s.powered = false ∨ s.receiver.sync ≠ .locked ∨
    s.store.working.address = 0 ∨ (∃ x ∈ s.scheduler.queue, x.kind = .tripReport) ∨
    (∀ x ∈ s.accounts.log, x.record.report ≠ .unreported ∨ x.holdOff ≠ none)) : tripReportDue s = none := by
  unfold tripReportDue dueWhen
  refine if_neg fun due => ?_
  simp only [Bool.and_eq_true, Bool.not_eq_true', beq_iff_eq, addressSet, decide_eq_true_eq] at due
  obtain ⟨⟨⟨⟨powered, none⟩, locked⟩, low, -⟩, some⟩ := due
  rcases h with off | search | unset | ⟨x, mem, kind⟩ | unreported
  · exact Bool.noConfusion (off.symm.trans powered)
  · exact search locked
  · omega
  · exact List.any_eq_false.mp none x mem (by simp [kind])
  · obtain ⟨x, mem, found⟩ := List.find?_isSome.mp some
    simp only [Bool.and_eq_true, beq_iff_eq, Option.isNone_iff_eq_none] at found
    exact (unreported x mem).elim (· found.1) (· found.2)

/-- The record whose report is placed: IN_QUEUE. -/
def reportTaken (n : Nat) (s : State) : State :=
  updateRecord n (fun e => { e with record := { e.record with report := .inQueue } }) s

theorem exec_totalsReinit {s : State} (h : Listening s) :
    exec (.totalsReinit (.fields ())) s = .next (serveTotalsReinit s) :=
  congrArg Host.Outcome.next (request_listening (.totalsReinit (.fields ())) s h)

/-- Settles O47. -/
theorem accountsActOnTheirInstants : Obligations.AccountsActOnTheirInstants := by
  intro s
  refine ⟨fun e powered none locked low high oldest => ?placed, fun unmet => ?unmet, fun n e i powered found held => ?held,
    fun powered => ?period, fun h => ⟨fun level => ?level, fun level sound => ?sound,
      fun level fault taken => ?taken, fun level fault fresh => ?zeroes⟩⟩
  case placed =>
    have due := tripReportDue_met powered none locked low high oldest
    have effect : placeTripReport s =
        placeEntry .tripReport e.record.seq (.summary e.record) Option.none (reportTaken e.record.seq s) := by
      simp only [placeTripReport, oldest, reportable]
      rfl
    have placed : exec .tripReportPlacement s = .next (placeTripReport s) := by
      rw [show exec .tripReportPlacement s = .next (atInstant (tripReportDue s) placeTripReport s) from rfl, due,
        atInstant_some, advanceTo_zero]
    obtain ⟨⟨-, now, -, -, nonvolatile⟩, ⟨-, -, store⟩, ⟨meter, accounts, writer⟩, board, -⟩ :=
      placeEntry_frame .tripReport e.record.seq (.summary e.record) Option.none (reportTaken e.record.seq s)
    have own : ∀ k, EntryKind.tripReport.sharesCap k = true → k = .tripReport := fun k same =>
      (by simpa [EntryKind.sharesCap] using same : EntryKind.tripReport = k).symm
    refine ⟨_, placed.trans (congrArg Host.Outcome.next effect), now,
      ⟨_, placeEntry_lone (s := reportTaken e.record.seq s) own (by decide) none .., rfl, rfl, rfl, rfl, rfl⟩, accounts,
      placeEntry_watch ?_ .., meter, writer, board, store, nonvolatile⟩
    have zero : s.scheduler.queue.countP (fun x => EntryKind.tripReport.sharesCap x.kind) = 0 :=
      List.countP_eq_zero.mpr fun x mem same => none x mem (own x.kind same)
    exact placementOf_placed .tripReport _ _ (fun x mem same => none x mem same.1)
      (show s.scheduler.queue.countP _ < _ by rw [zero]; decide)
  case unmet => exact congrArg Host.Outcome.next (atInstant_not_due (tripReportDue_unmet unmet) _ s)
  case held =>
    have due : holdOffDue n s = some i := by simp [holdOffDue, found, powered, held]
    exact congrArg Host.Outcome.next (atInstant_due due _ s)
  case period =>
    have due : totalsPeriodDue s = some (s.accounts.periodSince + 300000) := by
      simp [totalsPeriodDue, dueWhen, powered, Config.totalsPeriodMs]
    refine congrArg Host.Outcome.next ((atInstant_due due endTotalsPeriod s).trans ?_)
    cases changed : s.accounts.changed <;> cases fault : s.accounts.fault <;>
      simp [endTotalsPeriod, markTotals, advanceTo, changed, fault, Config.totalsPeriodMs]
  case level => exact (exec_totalsReinit h).trans (congrArg Host.Outcome.next (if_pos level))
  case sound =>
    rw [exec_totalsReinit h, serveTotalsReinit, if_neg (Nat.not_lt.mpr level), if_pos (by simp [sound])]
    rfl
  case taken =>
    rw [exec_totalsReinit h, serveTotalsReinit, if_neg (Nat.not_lt.mpr level), if_neg (by simp [fault]), if_pos taken]
    rfl
  case zeroes =>
    rw [exec_totalsReinit h, serveTotalsReinit, if_neg (Nat.not_lt.mpr level), if_neg (by simp [fault]), if_neg (by simp [fresh])]
    rfl

end Sys2Proof.Machine
end

section
/-! PROOFS. The store writer: the order of service, the start of a write and its completion. -/

namespace Sys2Proof.Machine

/-- The write of an item begun. -/
def writeBegun (item : WriteItem) (s : State) : State :=
  noteStart item { s with writer := { clearDirty item s.writer with writing := some ⟨item, s.now⟩ } }

theorem exec_storeWriteStart_next {s : State} {item : WriteItem} (powered : s.powered = true)
    (idle : s.writer.writing = none) (first : nextItem s = some item) :
    exec .storeWriteStart s = .next (writeBegun item s) := by
  have due : writeStartDue s = some 0 := by simp [writeStartDue, dueWhen, powered, idle, first]
  have started : startWrite s = writeBegun item s := by simp only [startWrite, first]; rfl
  refine congrArg Host.Outcome.next ?_
  rw [due, atInstant_some, advanceTo_zero, started]

theorem exec_storeWriteStart_none {s : State} (h : s.writer.writing ≠ none ∨ nextItem s = none) :
    exec .storeWriteStart s = .next s := by
  refine congrArg Host.Outcome.next (atInstant_not_due (if_neg fun due => ?_) _ s)
  simp only [Bool.and_eq_true, Option.isNone_iff_eq_none] at due
  rcases h with busy | nothing
  · exact busy due.1.2
  · simp [nothing] at due

/-- The records of the accounts come once no mark and no checkpoint comes first. -/
theorem nextItem_accounts {s : State} (mark : s.writer.markDirty = false) (checkpoint : s.writer.checkpointDirty = false) :
    nextItem s = accountsItem s := by simp [nextItem, mark, checkpoint]

theorem accountsItem_record {s : State} {e : LogEntry} (oldest : oldestAmong s.writer.recordsDirty s = some e) :
    accountsItem s = some (.record e.position (storedRecord e.record)) := by simp [accountsItem, oldest]

theorem accountsItem_totals {s : State} (none : oldestAmong s.writer.recordsDirty s = none)
    (dirty : s.writer.totalsDirty = true) : accountsItem s = some (totalsItem s) := by simp [accountsItem, none, dirty]

theorem accountsItem_late {s : State} (none : oldestAmong s.writer.recordsDirty s = none)
    (clean : s.writer.totalsDirty = false) : accountsItem s = lateItem s := by simp [accountsItem, none, clean]

theorem storedReport_eq (r : TripRecord) :
    storedReport r = ⟨r.seq, if r.report = .inQueue then .unreported else r.report⟩ := by
  cases state : r.report <;> simp [storedReport, state]

theorem otherCopy_eq (holder : Option Copy) : otherCopy holder = if holder = some .a then .b else .a := by
  match holder with
  | none | some .a | some .b => rfl

theorem exec_storeWriteComplete_item {s : State} {item : WriteItem} {i : Nat} (powered : s.powered = true)
    (writing : s.writer.writing = some ⟨item, i⟩) :
    exec .storeWriteComplete s = .next (noteCompletion item { s with
      nonvolatile := written item s.nonvolatile
      writer := { s.writer with writing := none } }) := by
  refine congrArg Host.Outcome.next ((if_pos powered).trans ?_)
  simp only [completeWrite, writing]

/-- Settles O48. -/
theorem storeWriterServesInOrder : Obligations.StoreWriterServesInOrder := by
  unfold Obligations.StoreWriterServesInOrder
  intro s powered startedWith other next w oldest
  have starts {item : WriteItem} (idle : w.writing = none) := exec_storeWriteStart_next (item := item) powered idle
  refine ⟨fun idle => ⟨fun mark => ?mark, fun mark checkpoint => ?checkpoint, fun mark checkpoint =>
      ⟨fun e first => ?record, fun none totals => ?totals, fun none totals => ⟨fun e first => ?report,
        fun last settings => ?settings, fun last settings => ?nothing⟩⟩⟩,
    fun busy => exec_storeWriteStart_none (.inl busy), fun idle => ?idle, fun i => ?done⟩
  case mark => exact starts idle (if_pos mark)
  case checkpoint =>
    have first : nextItem s = some (.checkpoint (checkpointContent s)) :=
      (if_neg (Bool.eq_false_iff.mp mark)).trans (if_pos checkpoint)
    exact starts idle first
  case record => exact starts idle ((nextItem_accounts mark checkpoint).trans (accountsItem_record first))
  case totals =>
    have first := (nextItem_accounts mark checkpoint).trans (accountsItem_totals none totals)
    rw [starts idle first, writeBegun, totalsItem, otherCopy_eq]
    rfl
  case report =>
    have late : lateItem s = some (.report e.position (storedReport e.record)) := by
      simp only [lateItem, show oldestAmong s.writer.reportsDirty s = some e from first]
    rw [storedReport_eq] at late
    exact starts idle ((nextItem_accounts mark checkpoint).trans ((accountsItem_late none totals).trans late))
  case settings =>
    have late : lateItem s = some (settingsItem s) := by
      simp only [lateItem, show oldestAmong s.writer.reportsDirty s = Option.none from last]
      exact if_pos settings
    rw [starts idle ((nextItem_accounts mark checkpoint).trans ((accountsItem_late none totals).trans late)),
      writeBegun, settingsItem, otherCopy_eq]
    rfl
  case nothing =>
    have late : lateItem s = Option.none := by
      simp only [lateItem, show oldestAmong s.writer.reportsDirty s = Option.none from last]
      exact if_neg (Bool.eq_false_iff.mp settings)
    exact exec_storeWriteStart_none
      (.inr ((nextItem_accounts mark checkpoint).trans ((accountsItem_late none totals).trans late)))
  case idle =>
    refine congrArg Host.Outcome.next ((if_pos powered).trans ?_)
    simp only [completeWrite, show s.writer.writing = none from idle]
  case done =>
    intro done
    refine ⟨fun k => exec_storeWriteComplete_item powered, fun c => exec_storeWriteComplete_item powered,
      fun p r => exec_storeWriteComplete_item powered, fun p r => exec_storeWriteComplete_item powered,
      fun copy c writing => ?_, fun copy c writing => ?_⟩
    · cases copy <;> exact exec_storeWriteComplete_item powered writing
    · cases copy <;> exact exec_storeWriteComplete_item powered writing

end Sys2Proof.Machine
end

section
/-! PROOFS. The driver's answers to messages, and the placement of receipts under their cap. -/

namespace Sys2Proof.Machine

/-! ### The placement of receipts, record by record -/

/-- How many RECEIPT entries stand. -/
def receipts (s : State) : Nat := s.scheduler.queue.countP fun e => e.kind == .receipt

/-- A record's RECEIPT as it is placed stands in the queue. -/
def ReceiptStands (m : Message) (s : State) : Prop :=
  ∃ e ∈ s.scheduler.queue, e.kind = .receipt ∧ e.key = m.number ∧ e.state = .waiting ∧ e.attempts = 0 ∧
    e.content = .code m.receiptCode

/-- What a run of placements makes of its records: some have their RECEIPT placed and become QUEUED. -/
structure ReceiptsMade (among placed : List Message) (s t : State) : Prop where
  subset : placed ⊆ among
  inbox : t.inbox = { s.inbox with messages := s.inbox.messages.map (queuedReceipts (placed.map (·.number))) }
  entries : ∀ m ∈ placed, ReceiptStands m t
  kept : ∀ e ∈ s.scheduler.queue, e ∈ t.scheduler.queue
  count : receipts t = receipts s + placed.length

namespace ReceiptsMade

theorem refl (l : List Message) (s : State) : ReceiptsMade l [] s s :=
  ⟨List.nil_subset _, by simp, fun _ h => absurd h (List.not_mem_nil), fun _ h => h, rfl⟩

theorem trans {l k p q : List Message} {s t u : State} (a : ReceiptsMade l p s t) (b : ReceiptsMade k q t u) :
    ReceiptsMade (l ++ k) (p ++ q) s u where
  subset := List.append_subset.mpr ⟨fun m hm => List.mem_append_left _ (a.subset hm),
    fun m hm => List.mem_append_right _ (b.subset hm)⟩
  inbox := by
    rw [b.inbox, a.inbox, List.map_append, ← queuedReceipts_append]
    simp
  entries m hm := by
    rcases List.mem_append.mp hm with first | second
    · obtain ⟨e, he, sent⟩ := a.entries m first
      exact ⟨e, b.kept e he, sent⟩
    · exact b.entries m second
  kept e he := b.kept e (a.kept e he)
  count := by rw [b.count, a.count, List.length_append, Nat.add_assoc]

end ReceiptsMade

theorem sharesCap_receipt (k : EntryKind) : EntryKind.receipt.sharesCap k = (k == .receipt) := by cases k <;> rfl

theorem standing_receipt (s : State) : standing .receipt s = receipts s := by
  simp only [standing, receipts, sharesCap_receipt]

theorem placeReceipt_stands {m : Message} {s : State} (h : placementOf .receipt m.number s ≠ .placed) :
    placeReceipt m s = s := by
  unfold placeReceipt
  split
  · contradiction
  all_goals rfl

theorem placeReceipt_queue {m : Message} {s : State} (h : placementOf .receipt m.number s = .placed) :
    (placeReceipt m s).scheduler.queue =
      insertEntry (newEntry .receipt m.number (.code m.receiptCode) none s) s.scheduler.queue := by
  simp only [placeReceipt, h]
  rcases placeEntry_cases .receipt m.number (.code m.receiptCode) none
    (updateMessage m.number (fun m => { m with receipt := .queued }) s) with ⟨-, scheduler, -⟩ | ⟨refused, -⟩
  · exact congrArg Scheduler.queue scheduler
  · exact absurd h refused

theorem placeReceipt_made {m : Message} {s : State} (h : placementOf .receipt m.number s = .placed) :
    ReceiptsMade [m] [m] s (placeReceipt m s) where
  subset := fun _ h => h
  inbox := by
    obtain ⟨-, -, -, -, inbox, -⟩ := placeEntry_frame .receipt m.number (.code m.receiptCode) none
      (updateMessage m.number (fun m => { m with receipt := .queued }) s)
    simp only [placeReceipt, h]
    rw [inbox]
    simp [updateMessage, queuedReceipts]
  entries := by
    intro y mem
    obtain rfl := List.mem_singleton.mp mem
    rw [ReceiptStands, placeReceipt_queue h]
    exact ⟨_, (mem_insertEntry ..).mpr (.inl rfl), rfl, rfl, rfl, rfl, rfl⟩
  kept e he := by
    rw [placeReceipt_queue h]
    exact (mem_insertEntry ..).mpr (.inr he)
  count := by
    rw [receipts, placeReceipt_queue h, countP_insertEntry]
    rfl

/-- A run of placements takes its records in order, as many as the cap leaves room for. -/
theorem foldl_placeReceipt_made (l : List Message) (s : State) :
    ∃ placed, ReceiptsMade l placed s (l.foldl (fun s m => placeReceipt m s) s) ∧
      ((l.map (·.number)).Nodup → (∀ m ∈ l, Absent .receipt m.number s) → placed = l.take (4 - receipts s)) := by
  induction l generalizing s with
  | nil => exact ⟨[], .refl [] s, fun _ _ => List.take_nil.symm⟩
  | cons m l ih =>
    rw [List.foldl_cons]
    by_cases h : placementOf .receipt m.number s = .placed
    · obtain ⟨placed, made, all⟩ := ih (placeReceipt m s)
      refine ⟨m :: placed, (placeReceipt_made h).trans made, fun distinct absent => ?_⟩
      obtain ⟨fresh, distinct⟩ := List.nodup_cons.mp distinct
      have room : receipts s < 4 := by
        rw [← standing_receipt]
        unfold placementOf at h
        split at h
        · cases h
        · split at h
          · cases h
          · rename_i room
            exact Nat.not_le.mp room
      have absent' : ∀ y ∈ l, Absent .receipt y.number (placeReceipt m s) := by
        intro y hy e he same
        rw [placeReceipt_queue h] at he
        rcases (mem_insertEntry ..).mp he with rfl | he
        · exact fresh (List.mem_map.mpr ⟨y, hy, same.2.symm⟩)
        · exact absent y (.tail _ hy) e he same
      rw [all distinct absent', (placeReceipt_made h).count, List.length_singleton,
        show 4 - receipts s = 4 - (receipts s + 1) + 1 by omega, List.take_succ_cons]
    · rw [placeReceipt_stands h]
      obtain ⟨placed, made, all⟩ := ih s
      refine ⟨placed, (ReceiptsMade.refl [m] s).trans made, fun distinct absent => ?_⟩
      have full : 4 ≤ receipts s := by
        refine Nat.not_lt.mp fun room => h (placementOf_placed .receipt m.number s (absent m (.head _)) ?_)
        rw [← standing_receipt] at room
        exact room
      rw [all (List.nodup_cons.mp distinct).2 fun y hy => absent y (.tail _ hy), Nat.sub_eq_zero_of_le full,
        List.take_zero, List.take_zero]

/-- Where no DUE record can be placed nothing is. -/
theorem placeReceipts_stands {s : State} (h : ∀ m ∈ dueReceipts s, placementOf .receipt m.number s ≠ .placed) :
    placeReceipts s = s := by
  have each (l : List Message) (none : ∀ m ∈ l, placementOf .receipt m.number s ≠ .placed) :
      l.foldl (fun s m => placeReceipt m s) s = s := by
    induction l with
    | nil => rfl
    | cons m l ih =>
      rw [List.foldl_cons, placeReceipt_stands (none m (.head _))]
      exact ih fun y hy => none y (.tail _ hy)
  exact each _ h

theorem exec_receiptPlacement {s : State} (powered : s.powered = true) :
    exec .receiptPlacement s = .next (placeReceipts s) := by
  refine congrArg Host.Outcome.next (?_ : atInstant (receiptDue s) placeReceipts s = _)
  cases due : (dueReceipts s).any fun m => placementOf .receipt m.number s == .placed with
  | true =>
    rw [receiptDue, due, powered]
    exact congrArg placeReceipts (advanceTo_zero s)
  | false =>
    rw [receiptDue, due, powered]
    refine (placeReceipts_stands fun m hm placed => List.any_eq_false.mp due m hm ?_).symm
    rw [placed]
    rfl

/-! ### The records found and changed -/

theorem updateMessage_updateMessage {n : Nat} {f : Message → Message} (number : ∀ m, (f m).number = m.number)
    (g : Message → Message) (s : State) : updateMessage n g (updateMessage n f s) = updateMessage n (g ∘ f) s := by
  have each (m : Message) : (if (if m.number == n then f m else m).number == n then
      g (if m.number == n then f m else m) else if m.number == n then f m else m) =
      if m.number == n then g (f m) else m := by
    by_cases h : m.number = n <;> simp [h, number]
  simpa [updateMessage, Function.comp_def] using fun m _ => each m

/-- A change of the records that keeps the numbers changes what is found. -/
theorem findMessage_map {n : Nat} {f : Message → Message} (number : ∀ m, (f m).number = m.number) {s t : State}
    {m : Message} (found : findMessage n s = some m) (messages : t.inbox.messages = s.inbox.messages.map f) :
    findMessage n t = some (f m) := by
  have same : ((fun y : Message => y.number == n) ∘ f) = fun y => y.number == n := by
    funext y
    simp [number]
  rw [findMessage, messages, List.find?_map, same, show s.inbox.messages.find? (fun y => y.number == n) = some m from found]
  rfl

theorem findMessage_updateMessage {n : Nat} {f : Message → Message} (number : ∀ m, (f m).number = m.number) {s : State}
    {m : Message} (found : findMessage n s = some m) : findMessage n (updateMessage n f s) = some (f m) := by
  have changed := findMessage_map (f := fun m => if m.number == n then f m else m)
    (fun m => by split <;> simp [number]) found (t := updateMessage n f s) rfl
  rwa [if_pos (by simp [number_of_findMessage found])] at changed
/-- The record that a reply chooses a code for, its receipt due with that code. -/
def receiptRenewed (c : Nat) (m : Message) : Message :=
  { m with chosen := some c, read := .replied, receiptCode := c, receipt := .due }

theorem receiptRenewed_number (n c : Nat) (m : Message) :
    (if m.number == n then receiptRenewed c m else m).number = m.number := by
  split <;> rfl

theorem exec_messageReply {s : State} (h : Listening s) (a : ReplyArgs) :
    exec (.messageReply (.fields a)) s = .next (serveMessageReply a s) :=
  congrArg Host.Outcome.next (request_listening (.messageReply (.fields a)) s h)

theorem exec_messageMark {s : State} (h : Listening s) (n : Nat) :
    exec (.messageMark (.fields n)) s = .next (serveMessageMark n s) :=
  congrArg Host.Outcome.next (request_listening (.messageMark (.fields n)) s h)

theorem exec_messageDelete {s : State} (h : Listening s) (n : Nat) :
    exec (.messageDelete (.fields n)) s = .next (serveMessageDelete n s) :=
  congrArg Host.Outcome.next (request_listening (.messageDelete (.fields n)) s h)

theorem serveMessageReply_carried {n c : Nat} {s : State} {m : Message} (number : 1 ≤ n ∧ n ≤ 65535)
    (code : 1 ≤ c ∧ c ≤ 32) (found : findMessage n s = some m) (carried : c ∈ m.replies) :
    serveMessageReply ⟨n, c⟩ s = answer .mrpl .ok [.name (receiptStateOf n (replyTo m c s).2).code,
      .name (replyTo m c s).1.code] (replyTo m c s).2 := by
  rw [serveMessageReply, if_neg (by simp [within, number, code])]
  simp only [found]
  rw [if_neg (by simpa using carried)]

section
variable {n c : Nat} {s : State} {m : Message} (found : findMessage n s = some m)
include found

theorem replyTo_due (due : m.receipt = .due) : replyTo m c s = (.new, updateMessage n (fun x => { x with
    chosen := some c, read := .replied, receiptCode := c }) s) := by
  obtain rfl := number_of_findMessage found
  simp only [replyTo, due]
  rw [updateMessage_updateMessage (f := chooseReply c) (fun _ => rfl)]
  rfl

theorem replyTo_new (settled : m.receipt = .none ∨ m.receipt = .sent ∨ m.receipt = .failed) :
    replyTo m c s = (.new, placeReceipts (updateMessage n (receiptRenewed c) s)) := by
  obtain rfl := number_of_findMessage found
  have new : replyTo m c s = (.new, placeReceipts (updateMessage m.number
      (fun m => { m with receiptCode := c, receipt := .due }) (updateMessage m.number (chooseReply c) s))) := by
    rcases settled with h | h | h <;> simp only [replyTo, h]
  rw [new, updateMessage_updateMessage (f := chooseReply c) (fun _ => rfl)]
  rfl

theorem replyTo_merged (queued : m.receipt = .queued) (amendable : receiptAmendable n s = true) :
    replyTo m c s = (.merged, updateEntry .receipt n (fun e => { e with content := .code c })
      (updateMessage n (fun x => { x with
        chosen := some c, read := .replied, receiptCode := c, outstanding := false }) s)) := by
  obtain rfl := number_of_findMessage found
  simp only [replyTo, queued]
  rw [if_pos (show receiptAmendable m.number (updateMessage m.number (chooseReply c) s) = true from amendable),
    updateMessage_updateMessage (f := chooseReply c) (fun _ => rfl)]
  rfl

theorem replyTo_outstanding (queued : m.receipt = .queued) (sent : receiptAmendable n s = false) :
    replyTo m c s = (.outstanding, updateMessage n (fun x => { x with
      chosen := some c, read := .replied, outstanding := true }) s) := by
  obtain rfl := number_of_findMessage found
  simp only [replyTo, queued]
  rw [if_neg (show ¬ receiptAmendable m.number (updateMessage m.number (chooseReply c) s) = true from
    Bool.eq_false_iff.mp sent), updateMessage_updateMessage (f := chooseReply c) (fun _ => rfl)]
  rfl

/-- A reply that makes a receipt due again: what its placement leaves of the records. -/
theorem receiptRenewed_found (c : Nat) : ∃ l : List Message,
    ReceiptsMade (dueReceipts (updateMessage n (receiptRenewed c) s)) l (updateMessage n (receiptRenewed c) s)
      (placeReceipts (updateMessage n (receiptRenewed c) s)) ∧
    findMessage n (placeReceipts (updateMessage n (receiptRenewed c) s)) =
      some (queuedReceipts (l.map (·.number)) (receiptRenewed c m)) := by
  obtain ⟨l, made, -⟩ := foldl_placeReceipt_made (dueReceipts (updateMessage n (receiptRenewed c) s))
    (updateMessage n (receiptRenewed c) s)
  exact ⟨l, made, findMessage_map (queuedReceipts_number _)
    (findMessage_updateMessage (f := receiptRenewed c) (fun _ => rfl) found) (congrArg Inbox.messages made.inbox)⟩

end

theorem queuedReceipts_receipt (l : List Nat) {m : Message} (due : m.receipt = .due) :
    m.number ∉ l ∧ (queuedReceipts l m).receipt = .due ∨ m.number ∈ l ∧ (queuedReceipts l m).receipt = .queued := by
  by_cases h : m.number ∈ l
  · exact .inr ⟨h, by rw [queuedReceipts, if_pos h]⟩
  · exact .inl ⟨h, by rw [queuedReceipts, if_neg h, due]⟩

/-- The DUE records are as distinct as the records are. -/
theorem dueReceipts_nodup {s : State} (distinct : (s.inbox.messages.map (·.number)).Nodup) :
    ((dueReceipts s).map (·.number)).Nodup := by
  have records : s.inbox.messages.Nodup := .of_map _ distinct
  refine List.Nodup.map_on (fun x hx y hy number =>
    List.inj_on_of_nodup_map distinct (mem_dueReceipts.mp hx).1 (mem_dueReceipts.mp hy).1 number) ?_
  refine ((records.filter _).filter _).append ((records.filter _).filter _) fun m urgent normal => ?_
  have both := (List.mem_filter.mp urgent).2
  rw [beq_iff_eq.mp (List.mem_filter.mp normal).2] at both
  exact Bool.noConfusion both

/-- Settles O49. -/
theorem messagesAreAnswered : Obligations.MessagesAreAnswered := by
  unfold Obligations.MessagesAreAnswered
  intro s updated
  refine ⟨fun a h => ⟨fun bad => ?badReply, fun low high clow chigh none => ?noReply⟩, fun n h => ⟨fun bad => ?bad, fun low high =>
    ⟨fun none => ?none, fun m found => ⟨?mark, fun queued => ?pending, fun settled => ?delete, fun c clow chigh =>
      ⟨fun uncarried => ?uncarried, fun carried => ⟨fun due => ?due, fun queued waiting => ?merged,
        fun queued sent => ?outstanding, fun settled => ?new⟩⟩⟩⟩⟩, ?placement, fun undue => ?undue⟩
  case badReply =>
    exact (exec_messageReply h a).trans (congrArg Host.Outcome.next (if_pos (by simp [within]; omega)))
  case noReply =>
    rw [exec_messageReply h, serveMessageReply, if_neg (by simp [within, low, high, clow, chigh])]
    simp only [none]
    rfl
  case bad =>
    have outside : ¬ within 1 65535 n = true := by simp [within]; omega
    exact ⟨(exec_messageMark h n).trans (congrArg Host.Outcome.next (if_pos outside)),
      (exec_messageDelete h n).trans (congrArg Host.Outcome.next (if_pos outside))⟩
  case none =>
    have inside : ¬¬ within 1 65535 n = true := by simp [within, low, high]
    constructor
    · rw [exec_messageMark h, serveMessageMark, if_neg inside, if_pos (by simp [none])]
      rfl
    · rw [exec_messageDelete h, serveMessageDelete, if_neg inside]
      simp only [none]
      rfl
  case mark =>
    rw [exec_messageMark h, serveMessageMark, if_neg (by simp [within, low, high]), if_neg (by simp [found])]
    have read : markRead = fun x => { x with read := if x.read = .unread then .read else x.read } := by
      funext x
      unfold markRead
      split <;> rfl
    rw [read]
    rfl
  case pending =>
    rw [exec_messageDelete h, serveMessageDelete, if_neg (by simp [within, low, high])]
    simp only [found]
    rw [if_pos queued]
    rfl
  case delete =>
    rw [exec_messageDelete h, serveMessageDelete, if_neg (by simp [within, low, high])]
    simp only [found]
    rw [if_neg settled]
    rfl
  case uncarried =>
    rw [exec_messageReply h, serveMessageReply, if_neg (by simp [within, low, high, clow, chigh])]
    simp only [found]
    rw [if_pos (by simpa using uncarried)]
    rfl
  case due =>
    have now := findMessage_updateMessage (n := n) (f := fun x => { x with
      chosen := some c, read := .replied, receiptCode := c }) (fun _ => rfl) found
    rw [exec_messageReply h, serveMessageReply_carried ⟨low, high⟩ ⟨clow, chigh⟩ found carried, replyTo_due found due,
      receiptStateOf, now]
    simp only [Option.map_some, Option.getD_some, due]
    rfl
  case merged =>
    obtain ⟨e, entry, waiting⟩ := waiting
    have amendable : receiptAmendable n s = true := by simp only [receiptAmendable, entry, waiting]; rfl
    have now := findMessage_updateMessage (n := n) (f := fun x => { x with
      chosen := some c, read := .replied, receiptCode := c, outstanding := false }) (fun _ => rfl) found
    rw [exec_messageReply h, serveMessageReply_carried ⟨low, high⟩ ⟨clow, chigh⟩ found carried, replyTo_merged found queued amendable,
      receiptStateOf, show findMessage n (updateEntry _ _ _ (updateMessage n _ s)) = _ from now]
    simp only [Option.map_some, Option.getD_some, queued]
    rfl
  case outstanding =>
    have sent : receiptAmendable n s = false := by
      unfold receiptAmendable
      split
      · rename_i e entry
        exact beq_eq_false_iff_ne.mpr (sent e entry)
      · rfl
    have now := findMessage_updateMessage (n := n) (f := fun x => { x with
      chosen := some c, read := .replied, outstanding := true }) (fun _ => rfl) found
    rw [exec_messageReply h, serveMessageReply_carried ⟨low, high⟩ ⟨clow, chigh⟩ found carried, replyTo_outstanding found queued sent,
      receiptStateOf, now]
    simp only [Option.map_some, Option.getD_some, queued]
    rfl
  case new =>
    obtain ⟨l, made, now⟩ := receiptRenewed_found found c
    obtain ⟨⟨-, instant, -⟩, ⟨locator, -, store⟩, ⟨meter, accounts, -⟩, board, emergency⟩ :=
      placeReceipts_frame (updateMessage n (receiptRenewed c) s)
    have stands : queuedReceipts (l.map (·.number)) (receiptRenewed c m) = { m with
        chosen := some c, read := .replied, receiptCode := c
        receipt := (queuedReceipts (l.map (·.number)) (receiptRenewed c m)).receipt } := by
      unfold queuedReceipts
      split <;> rfl
    have receipt := queuedReceipts_receipt (l.map (·.number)) (m := receiptRenewed c m) rfl
    have served : serveMessageReply ⟨n, c⟩ s = replied s .mrpl .ok
        [.name (queuedReceipts (l.map (·.number)) (receiptRenewed c m)).receipt.code, .name 1]
        (placeReceipts (updateMessage n (receiptRenewed c) s)) := by
      rw [serveMessageReply_carried ⟨low, high⟩ ⟨clow, chigh⟩ found carried, replyTo_new found settled,
        receiptStateOf, now]
      exact answer_replied (s := s) _ _ _ instant
    refine ⟨_, _, _, (exec_messageReply h ⟨n, c⟩).trans (congrArg Host.Outcome.next served), now, stands, ?_, rfl, ?_,
      fun _ queued => ?_, fun distinct z mem other => ?_, board, meter, accounts, emergency, store, locator⟩
    · exact receipt.imp And.right And.right
    · exact receipt.imp (fun due => ⟨congrArg ReceiptState.code due.2, due.2⟩)
        fun queued => ⟨congrArg ReceiptState.code queued.2, queued.2⟩
    · rcases receipt with ⟨-, due⟩ | ⟨mem, -⟩
      · rw [due] at queued
        cases queued
      · obtain ⟨y, chosen, number⟩ := List.mem_map.mp mem
        obtain ⟨e, he, kind, key, state, attempts, content⟩ := made.entries y chosen
        obtain ⟨z, -, rfl⟩ := List.mem_map.mp (mem_dueReceipts.mp (made.subset chosen)).1
        have named : z.number = n :=
          (receiptRenewed_number n c z).symm.trans (number.trans (number_of_findMessage found :))
        rw [if_pos (by simpa using named)] at key content
        exact ⟨e, he, kind, key.trans named, state, attempts, content⟩
    · have stood : z ∈ (updateMessage n (receiptRenewed c) s).inbox.messages :=
        List.mem_map.mpr ⟨z, mem, if_neg (by simpa using other)⟩
      have left : queuedReceipts (l.map (·.number)) z ∈ (placeReceipts (updateMessage n (receiptRenewed c) s)).inbox.messages :=
        (congrArg Inbox.messages made.inbox) ▸ List.mem_map_of_mem stood
      by_cases taken : z.number ∈ l.map (·.number)
      · have due : z.receipt = .due := by
          obtain ⟨y, chosen, number⟩ := List.mem_map.mp taken
          obtain ⟨stands, due⟩ := mem_dueReceipts.mp (made.subset chosen)
          obtain ⟨x, hx, rfl⟩ := List.mem_map.mp stands
          obtain rfl : x = z := List.inj_on_of_nodup_map distinct hx mem ((receiptRenewed_number n c x).symm.trans number)
          rw [if_neg (by simpa using other)] at due
          exact due
        rw [queuedReceipts, if_pos taken] at left
        exact ⟨fun undue => absurd due undue, fun _ => .inr left⟩
      · rw [queuedReceipts, if_neg taken] at left
        exact ⟨fun _ => left, fun _ => .inl left⟩
  case placement =>
    intro due receipts placed powered distinct absent
    obtain ⟨l, made, all⟩ := foldl_placeReceipt_made (dueReceipts s) s
    have dues : dueReceipts s = due .urgent ++ due .normal := by
      simp only [dueReceipts, List.filter_filter, due, Bool.and_comm]
    have among : ((dueReceipts s).map (·.number)).Nodup := dueReceipts_nodup distinct
    obtain rfl : l = placed := by
      rw [all among fun m hm => absent m (mem_dueReceipts.mp hm).1 (mem_dueReceipts.mp hm).2, dues]
      rfl
    refine ⟨_, exec_receiptPlacement powered, (placeReceipts_frame s).1.2.1, made.inbox.trans ?_, made.entries, made.count,
      made.kept⟩
    have each : ∀ m ∈ s.inbox.messages, queuedReceipts (placed.map (·.number)) m =
        if m ∈ placed then { m with receipt := .queued } else m := by
      intro m hm
      have same : m.number ∈ placed.map (·.number) ↔ m ∈ placed := by
        refine ⟨fun named => ?_, List.mem_map_of_mem⟩
        obtain ⟨y, hy, number⟩ := List.mem_map.mp named
        exact List.inj_on_of_nodup_map distinct (mem_dueReceipts.mp (made.subset hy)).1 hm number ▸ hy
      simp only [queuedReceipts, same]
    rw [List.map_congr_left each]
  case undue =>
    have none : dueReceipts s = [] := by
      refine List.eq_nil_iff_forall_not_mem.mpr fun m hm => ?_
      obtain ⟨mem, due⟩ := mem_dueReceipts.mp hm
      exact undue m mem due
    refine congrArg Host.Outcome.next (atInstant_not_due ?_ placeReceipts s)
    simp [receiptDue, dueWhen, none]

end Sys2Proof.Machine
end

section
/-! PROOFS. The messages of the host: the next ticket and the entry placed under it. -/

namespace Sys2Proof.Machine

theorem exec_sendCanned {s : State} (h : Listening s) (c : Nat) :
    exec (.sendCanned (.fields c)) s = .next (serveSendCanned c s) :=
  congrArg Host.Outcome.next (request_listening (.sendCanned (.fields c)) s h)

theorem exec_sendText {s : State} (h : Listening s) (x : Text) :
    exec (.sendText (.fields x)) s = .next (serveSendText x s) :=
  congrArg Host.Outcome.next (request_listening (.sendText (.fields x)) s h)

/-- A message of the host: a canned one or a text. -/
def HostKind (k : EntryKind) : Prop := k = .canned ∨ k = .freetext

/-- How many messages of the host stand. -/
def hostMessages (s : State) : Nat := s.scheduler.queue.countP fun e => e.kind == .canned || e.kind == .freetext

theorem standing_host {kind : EntryKind} (h : HostKind kind) (s : State) : standing kind s = hostMessages s := by
  have shares (k : EntryKind) : kind.sharesCap k = (k == .canned || k == .freetext) := by
    rcases h with rfl | rfl <;> cases k <;> rfl
  simp only [standing, hostMessages, shares]

theorem cap_host {kind : EntryKind} (h : HostKind kind) : kind.cap = 5 := by rcases h with rfl | rfl <;> rfl

theorem standing_full {kind : EntryKind} (h : HostKind kind) {s : State} :
    standing kind s ≥ kind.cap ↔ 5 ≤ hostMessages s := by
  rw [standing_host h, cap_host h]

/-- What a message sent leaves: the next ticket advanced, and its entry placed where the ticket is fresh. -/
structure HostSent (kind : EntryKind) (content : EntryContent) (s t : State) : Prop where
  ticket : t.scheduler.nextTicket = if s.scheduler.nextTicket < 255 then s.scheduler.nextTicket + 1 else 1
  placed : (∀ e ∈ s.scheduler.queue, HostKind e.kind → e.key ≠ s.scheduler.nextTicket) → t.receiver.watch = .full ∧
    ∃ e ∈ t.scheduler.queue, e.kind = kind ∧ e.key = s.scheduler.nextTicket ∧ e.state = .waiting ∧ e.attempts = 0 ∧
      e.content = content
  core : SameCore s t
  rest : t.inbox = s.inbox ∧ t.board = s.board ∧ t.meter = s.meter ∧ t.accounts = s.accounts ∧
    t.emergency = s.emergency ∧ t.store = s.store ∧ t.nonvolatile = s.nonvolatile

/-- The next ticket advanced. -/
def ticketTaken (s : State) : State :=
  { s with scheduler := { s.scheduler with nextTicket := nextNumber 255 s.scheduler.nextTicket } }

theorem sendHostMessage_sent {kind : EntryKind} (h : HostKind kind) (content : EntryContent) {s : State}
    (room : ¬ 5 ≤ hostMessages s) : HostSent kind content s (sendHostMessage kind content s) := by
  obtain ⟨core, ⟨-, -, store⟩, ⟨meter, accounts, -⟩, board, inbox, emergency⟩ :=
    placeEntry_frame kind s.scheduler.nextTicket content none (ticketTaken s)
  obtain ⟨-, scheduler⟩ := PlacingLeft.placeEntry kind s.scheduler.nextTicket content none (ticketTaken s)
  refine ⟨(congrArg Scheduler.nextTicket scheduler).trans ?_, fun fresh => ?_, core,
    inbox, board, meter, accounts, emergency, store, core.2.2.2.2⟩
  · simp only [ticketTaken, nextNumber]
    split <;> split <;> omega
  · have new : ∀ e ∈ (ticketTaken s).scheduler.queue, ¬(e.kind = kind ∧ e.key = s.scheduler.nextTicket) :=
      fun e he same => fresh e he (same.1 ▸ h) same.2
    have free : (ticketTaken s).scheduler.queue.countP (fun e => kind.sharesCap e.kind) < kind.cap := by
      rw [cap_host h]
      exact Nat.not_le.mp fun many => room (many.trans (standing_host h s).le)
    refine ⟨placeEntry_watch (placementOf_placed kind _ _ new free) ..,
      newEntry kind s.scheduler.nextTicket content none (ticketTaken s), ?_, rfl, rfl, rfl, rfl, rfl⟩
    exact (congrArg Scheduler.queue (placeEntry_placed new free content none)) ▸ (mem_insertEntry ..).mpr (.inl rfl)

/-- Settles O50. -/
theorem hostMessagesTakeTickets : Obligations.HostMessagesTakeTickets := by
  unfold Obligations.HostMessagesTakeTickets
  intro s h n full fresh sent
  have sent_of {kind : EntryKind} {content : EntryContent} {t : State} (tag : Tag) (fields : List Field)
      (left : HostSent kind content s t) : sent kind content (replied s tag .ok fields t) :=
    ⟨left.ticket, left.placed, left.rest⟩
  refine ⟨fun c outside => ?badCanned, fun c low high => ⟨fun refused => ?refusedCanned, fun text address many => ?fullCanned,
    fun text address few => ?canned⟩, fun x bad => ?badText, fun x some printed => ⟨fun unset => ?refusedText,
      fun address many => ?fullText, fun address few => ?text⟩⟩
  case badCanned => exact (exec_sendCanned h c).trans (congrArg Host.Outcome.next (if_pos (by simp [within]; omega)))
  case refusedCanned =>
    rw [exec_sendCanned h, serveSendCanned, if_neg (by simp [within, low, high])]
    by_cases empty : cannedText s.store.working c = []
    · rw [if_pos empty]
      rfl
    · rw [if_neg empty, if_pos (refused.resolve_left empty)]
      rfl
  case fullCanned =>
    rw [exec_sendCanned h, serveSendCanned, if_neg (by simp [within, low, high]),
      if_neg (show ¬ cannedText s.store.working c = [] from text), if_neg address, if_pos ((standing_full (.inl rfl)).mpr many)]
    rfl
  case canned =>
    have left := sendHostMessage_sent (kind := .canned) (.inl rfl) (.canned c) few
    refine ⟨_, (exec_sendCanned h c).trans (congrArg Host.Outcome.next ?_), sent_of .scan [.num 255 n] left, rfl⟩
    rw [serveSendCanned, if_neg (by simp [within, low, high]), if_neg (show ¬ cannedText s.store.working c = [] from text),
      if_neg address, if_neg (mt (standing_full (.inl rfl)).mp few)]
    exact answer_replied (s := s) _ _ _ left.core.2.1
  case badText =>
    refine (exec_sendText h x).trans (congrArg Host.Outcome.next (if_pos ?_))
    refine bad.imp_right fun ⟨b, mem, outside⟩ all => ?_
    have inside := List.all_eq_true.mp all b mem
    simp only [printable, Bool.and_eq_true, decide_eq_true_eq] at inside
    omega
  all_goals
    have taken : ¬(x = [] ∨ ¬ x.all printable = true) := by
      simpa [printable, some] using printed
  case refusedText =>
    rw [exec_sendText h, serveSendText, if_neg taken, if_pos unset]
    rfl
  case fullText =>
    rw [exec_sendText h, serveSendText, if_neg taken, if_neg address, if_pos ((standing_full (.inr rfl)).mpr many)]
    rfl
  case text =>
    have left := sendHostMessage_sent (kind := .freetext) (.inr rfl) (.text (x.take 64)) few
    refine ⟨_, (exec_sendText h x).trans (congrArg Host.Outcome.next ?_), sent_of .stxt [.num 255 n,
      .num 64 (min 64 x.length), .flag (decide (64 < x.length))] left, rfl⟩
    rw [serveSendText, if_neg taken, if_neg address, if_neg (mt (standing_full (.inr rfl)).mp few)]
    exact answer_replied (s := s) _ _ _ left.core.2.1

end Sys2Proof.Machine
end

section
/-! PROOFS. The writing of settings: each setting by its own range, level and class, and the canned texts, the tariffs
and the band rows. -/

namespace Sys2Proof.Machine

/-! ### SETTING WRITE -/

theorem exec_settingWrite {s : State} (h : Listening s) (a : SettingArgs) :
    exec (.settingWrite (.fields a)) s = .next (serveSettingWrite a s) :=
  congrArg Host.Outcome.next (request_listening (.settingWrite (.fields a)) s h)

theorem settingWrite_unnamed {s : State} (h : Listening s) {n : Nat} (unnamed : toSetting n = none) (v : SettingValue) :
    exec (.settingWrite (.fields ⟨n, v⟩)) s = .next (replied s .swrt .badArg [] s) := by
  rw [exec_settingWrite h, serveSettingWrite]
  simp only [unnamed]
  rfl

section
variable {s : State} (h : Listening s) {n : Nat} {x : Setting} {v : SettingValue} (named : toSetting n = some x)
include h named

theorem settingWrite_bad (outside : x.write v s.store.working = none) :
    exec (.settingWrite (.fields ⟨n, v⟩)) s = .next (replied s .swrt .badArg [] s) := by
  rw [exec_settingWrite h, serveSettingWrite]
  simp only [named, outside]
  rfl

variable {w : Settings} (inside : x.write v s.store.working = some w)
include inside

theorem settingWrite_below (low : s.store.level < x.level) :
    exec (.settingWrite (.fields ⟨n, v⟩)) s = .next (replied s .swrt .level [] s) := by
  rw [exec_settingWrite h, serveSettingWrite]
  simp only [named, inside]
  rw [if_pos low]
  rfl

theorem settingWrite_onTrip (level : x.level ≤ s.store.level) (metrology : x.isMetrology = true)
    (trip : s.meter.state.onTrip = true) :
    exec (.settingWrite (.fields ⟨n, v⟩)) s = .next (replied s .swrt .refused [] s) := by
  rw [exec_settingWrite h, serveSettingWrite]
  simp only [named, inside]
  rw [if_neg (Nat.not_lt.mpr level), if_pos ⟨metrology, trip⟩]
  rfl

theorem settingWrite_installs (level : x.level ≤ s.store.level)
    (free : x.isMetrology = false ∨ s.meter.state.onTrip = false) :
    exec (.settingWrite (.fields ⟨n, v⟩)) s =
      .next (replied s .swrt .ok [x.field w, x.field s.store.stored] (installWorking w s)) := by
  rw [exec_settingWrite h, serveSettingWrite]
  simp only [named, inside]
  rw [if_neg (Nat.not_lt.mpr level), if_neg (fun both => by rcases free with f | f <;> simp [f] at both), installWorking_eq]
  rfl

end

/-- The settings with the alert mode unchanged: nothing follows. -/
theorem installWorking_sameAlert {w : Settings} {s : State} (same : w.alertMode = s.store.working.alertMode) :
    installWorking w s = { s with store := { s.store with working := w } } := if_pos same

theorem toBool_eq_none {n : Nat} (h : 1 < n) : toBool n = none := by
  match n with
  | n + 2 => rfl

/-! ### CANNED WRITE, TARIFF WRITE and BANDS WRITE -/

theorem exec_cannedWrite {s : State} (h : Listening s) (a : CannedArgs) :
    exec (.cannedWrite (.fields a)) s = .next (serveCannedWrite a s) :=
  congrArg Host.Outcome.next (request_listening (.cannedWrite (.fields a)) s h)

theorem exec_tariffWrite {s : State} (h : Listening s) (a : TariffArgs) :
    exec (.tariffWrite (.fields a)) s = .next (serveTariffWrite a s) :=
  congrArg Host.Outcome.next (request_listening (.tariffWrite (.fields a)) s h)

theorem exec_bandsWrite {s : State} (h : Listening s) (a : BandsArgs) :
    exec (.bandsWrite (.fields a)) s = .next (serveBandsWrite a s) :=
  congrArg Host.Outcome.next (request_listening (.bandsWrite (.fields a)) s h)

theorem toMode_eq {n : Nat} (h : n ≤ 1) : toMode n = some (if n = 0 then .single else .double) := by
  match n with
  | 0 | 1 => rfl

theorem toMode_eq_none {n : Nat} (h : 1 < n) : toMode n = none := by
  match n with
  | n + 2 => rfl

theorem toBool_eq {n : Nat} (h : n ≤ 1) : toBool n = some (n == 1) := by
  match n with
  | 0 | 1 => rfl

/-- The operands of a TARIFF WRITE lie in their ranges (R106). -/
def TariffFits (a : TariffArgs) : Prop :=
  a.flagFall ≤ 99999 ∧ 1 ≤ a.increment ∧ a.increment ≤ 9999 ∧ 10 ≤ a.distanceStep ∧ a.distanceStep ≤ 2000 ∧
    5 ≤ a.timeStep ∧ a.timeStep ≤ 600 ∧ a.included ≤ 10000 ∧ a.extra ≤ 9999

theorem toTariff_some {a : TariffArgs} (valid : a.valid ≤ 1) (mode : a.mode ≤ 1) (fits : TariffFits a) :
    toTariff a = some ⟨a.valid == 1, a.flagFall, a.increment, a.distanceStep, a.timeStep, a.included,
      if a.mode = 0 then .single else .double, a.extra⟩ := by
  obtain ⟨flagFall, low, high, dlow, dhigh, tlow, thigh, included, extra⟩ := fits
  simp only [toTariff, toBool_eq valid, toMode_eq mode]
  exact if_pos (by simp [within, *])

theorem toTariff_none {a : TariffArgs} (h : 1 < a.valid ∨ 1 < a.mode ∨ ¬ TariffFits a) : toTariff a = none := by
  by_cases valid : 1 < a.valid
  · simp only [toTariff, toBool_eq_none valid]
  by_cases mode : 1 < a.mode
  · unfold toTariff
    split
    · rename_i named
      rw [toMode_eq_none mode] at named
      cases named
    · rfl
  · simp only [toTariff, toBool_eq (Nat.not_lt.mp valid), toMode_eq (Nat.not_lt.mp mode)]
    refine if_neg fun fits => (h.resolve_left valid).resolve_left mode ?_
    simpa [within, TariffFits, and_assoc] using fits

theorem tariffs_get_put {n : Nat} (t : Tariffs) (x : Tariff) (low : 1 ≤ n) (high : n ≤ 4) : (t.put n x).get n = x := by
  match n with
  | 1 | 2 | 3 | 4 => rfl

theorem tariffs_get_put_other {n k : Nat} (t : Tariffs) (x : Tariff) (nlow : 1 ≤ n) (nhigh : n ≤ 4) (klow : 1 ≤ k)
    (khigh : k ≤ 4) (other : k ≠ n) : (t.put n x).get k = t.get k := by
  match n, k with
  | 1, 1 | 2, 2 | 3, 3 | 4, 4 => contradiction
  | 1, 2 | 1, 3 | 1, 4 | 2, 1 | 2, 3 | 2, 4 | 3, 1 | 3, 2 | 3, 4 | 4, 1 | 4, 2 | 4, 3 => rfl

/-- A run written keeps what stands before it and behind it. -/
theorem writeRun_eq (first : Nat) (run row : List Nat) (fits : first + run.length ≤ row.length) :
    writeRun first run row = row.take first ++ run ++ row.drop (first + run.length) := by
  induction run generalizing first row with
  | nil => simp [writeRun]
  | cons n rest ih =>
    rw [List.length_cons] at fits
    have within : first < row.length := by omega
    have head : (row.set first n).take (first + 1) = row.take first ++ [n] := by
      rw [List.take_succ_eq_append_getElem (by simpa using within), List.take_set_of_le (Nat.le_refl _),
        List.getElem_set_self]
    rw [writeRun, ih _ _ (by rw [List.length_set]; omega), head, List.drop_set_of_lt (by omega), List.length_cons,
      show first + (rest.length + 1) = first + 1 + rest.length by omega]
    simp

theorem row_putRow (m : Metrology) (day other : DayType) (row : List Nat) :
    (m.putRow day row).row other = if other = day then row else m.row other := by
  cases day <;> cases other <;> rfl

theorem putRow_rows (m : Metrology) (day : DayType) (row : List Nat) : m.putRow day row =
    { m with workday := (m.putRow day row).workday, restday := (m.putRow day row).restday } := by
  cases day <;> rfl

/-- Settles O51. -/
theorem settingsAreWritten : Obligations.SettingsAreWritten := by
  unfold Obligations.SettingsAreWritten
  intro s h working old metrology digits bad below takes takesOffTrip
  have taken {n : Nat} {v : SettingValue} {x : Setting} {new : Settings} (named : toSetting n = some x)
      (inside : x.write v old = some new) (alert : new.alertMode = old.alertMode)
      (free : x.isMetrology = false ∨ s.meter.state.onTrip = false) : takes x.level n v new x.field :=
    ⟨settingWrite_below h named inside, fun level => by
      rw [settingWrite_installs h named inside level free, installWorking_sameAlert alert]⟩
  have offTrip {n : Nat} {v : SettingValue} {x : Setting} {new : Settings} (named : toSetting n = some x)
      (inside : x.write v old = some new) (alert : new.alertMode = old.alertMode) (level : x.level = 2)
      (class' : x.isMetrology = true) : takesOffTrip n v new x.field :=
    ⟨fun low => settingWrite_below h named inside (level ▸ low),
      fun high trip => settingWrite_onTrip h named inside (level ▸ high) class' trip,
      fun free => level ▸ taken named inside alert (.inr free)⟩
  have digits_iff (least most : Nat) (d : Digits) : digits least most d ↔ isCode least most d = true :=
    (isCode_iff d least most).symm
  refine ⟨?address, ?fleet, ?codes, ?flags, ?badFlags, ?pulses, ?areas, ?unnamed, ?badAlert, ?alertLevel, ?alert, ?canned,
    ?badCanned, ?badTariff, ?badBands, ?tariff, ?bands⟩
  case address => exact fun a => ⟨fun fits => taken (x := .unitAddress) rfl (if_pos (by simp [within, fits])) rfl (.inl rfl),
    fun big => settingWrite_bad (x := .unitAddress) h rfl (if_neg (by simp [within, big]))⟩
  case fleet => exact fun a => ⟨fun fits => taken (x := .fleetCode) rfl (if_pos (by simp [within, fits])) rfl (.inl rfl),
    fun big => settingWrite_bad (x := .fleetCode) h rfl (if_neg (by simp [within, big]))⟩
  case codes =>
    intro d
    simp only [digits_iff]
    exact ⟨fun fits => taken (x := .accessCode) rfl (if_pos fits) rfl (.inl rfl),
      fun outside => settingWrite_bad (x := .accessCode) h rfl (if_neg outside),
      fun fits => ⟨taken (x := .cancelCode) rfl (if_pos fits) rfl (.inl rfl),
        taken (x := .duressCode) rfl (if_pos fits) rfl (.inl rfl)⟩,
      fun outside => ⟨settingWrite_bad (x := .cancelCode) h rfl (if_neg outside),
        settingWrite_bad (x := .duressCode) h rfl (if_neg outside)⟩,
      fun fits => taken (x := .calibrationCode) rfl (if_pos fits) rfl (.inl rfl),
      fun outside => settingWrite_bad (x := .calibrationCode) h rfl (if_neg outside)⟩
  case flags =>
    rintro x a rfl
    cases x <;>
      exact ⟨taken (x := .resetReachesHost) rfl rfl rfl (.inl rfl), taken (x := .keysOnly) rfl rfl rfl (.inl rfl),
        offTrip (x := .lockTariff) rfl rfl rfl rfl rfl⟩
  case badFlags =>
    intro a big
    have none := toBool_eq_none big
    exact ⟨settingWrite_bad (x := .resetReachesHost) h rfl (congrArg (Option.map _) none),
      settingWrite_bad (x := .keysOnly) h rfl (congrArg (Option.map _) none),
      settingWrite_bad (x := .lockTariff) h rfl (congrArg (Option.map _) none)⟩
  case pulses =>
    refine fun k => ⟨fun fits => offTrip (x := .pulseConstant) rfl (if_pos ?_) rfl rfl rfl, fun outside =>
      settingWrite_bad (x := .pulseConstant) h rfl (if_neg ?_)⟩
    · simpa [isPulseConstant, within] using fits
    · simp [isPulseConstant, within]
      omega
  case areas => exact fun n => ⟨fun fits => offTrip (x := .outOfArea) rfl (if_pos (by simp [within, fits])) rfl rfl rfl,
    fun big => settingWrite_bad (x := .outOfArea) h rfl (if_neg (by simp [within, big]))⟩
  case unnamed =>
    intro n v big
    match n with
    | n + 12 => exact settingWrite_unnamed h rfl v
  case badAlert =>
    intro n big
    match n with
    | n + 3 => exact settingWrite_bad (x := .alertMode) h rfl rfl
  all_goals
    have alertMode (m : AlertMode) : Setting.write .alertMode (.number m.code) old = some { old with alertMode := m } := by
      cases m <;> rfl
  case alertLevel =>
    exact fun m low => settingWrite_below (x := .alertMode) h rfl (alertMode m) (low ▸ Nat.zero_lt_one)
  case alert =>
    intro m level
    rw [settingWrite_installs (x := .alertMode) h rfl (alertMode m) level (.inl rfl), installWorking_eq]
    rfl
  case canned =>
    intro n x low high short printed size
    have fits : within 1 32 n = true ∧ x.length ≤ 32 ∧ x.all printable = true :=
      ⟨by simp [within, low, high], short, (all_printable x).mpr printed⟩
    refine ⟨fun level => ?_, fun level => ?_⟩
    · rw [exec_cannedWrite h, serveCannedWrite, if_neg (not_not_intro fits), if_pos (by omega)]
      rfl
    · rw [exec_cannedWrite h, serveCannedWrite, if_neg (not_not_intro fits), if_neg (Nat.not_lt.mpr level)]
      have set : (old.canned.set (n - 1) x).getD (n - 1) [] = x := by
        rw [List.getD_eq_getElem?_getD, List.getElem?_set_self (by omega)]
        rfl
      exact congrArg (fun shown => Host.Outcome.next (replied s .cwrt .ok
        [.text shown, .text (s.store.stored.canned.getD (n - 1) [])]
        (working { old with canned := old.canned.set (n - 1) x }))) set
  case badCanned =>
    intro n x outside
    refine (exec_cannedWrite h ⟨n, x⟩).trans (congrArg Host.Outcome.next (if_pos ?_))
    rintro ⟨number, short, printed⟩
    have number : 1 ≤ n ∧ n ≤ 32 := (within_iff ..).mp number
    replace short : x.length ≤ 32 := short
    rcases outside with low | high | long | ⟨b, mem, bad⟩
    · omega
    · omega
    · omega
    · have good := (all_printable x).mp printed b mem
      omega
  case badTariff =>
    intro a outside
    rw [exec_tariffWrite h, serveTariffWrite]
    by_cases number : within 1 4 a.number = true
    · have none : toTariff a = Option.none := by
        refine toTariff_none ?_
        have number := (within_iff ..).mp number
        unfold TariffFits
        omega
      rw [if_neg (not_not_intro number), none]
      rfl
    · rw [if_pos number]
      rfl
  case badBands =>
    intro a outside
    rw [exec_bandsWrite h, serveBandsWrite]
    by_cases row : a.row ≤ 1
    · simp only [toDayType_eq row]
      refine congrArg Host.Outcome.next (if_pos ?_)
      rintro ⟨first, run, fits, all⟩
      rcases outside with big | none | long | ⟨n, mem, bad⟩
      · omega
      · simp [none, within] at run
      · have run := (within_iff ..).mp run
        omega
      · have good := (within_iff ..).mp (List.all_eq_true.mp all n mem)
        omega
    · have none : toDayType a.row = Option.none := by
        rw [← Option.not_isSome_iff_eq_none, toDayType_isSome]
        exact row
      simp only [none]
      rfl
  case tariff =>
    intro a low high valid flagFall ilow ihigh dlow dhigh tlow thigh included mode extra x
    have fits : within 1 4 a.number = true := (within_iff ..).mpr ⟨low, high⟩
    have some : toTariff a = some x :=
      toTariff_some valid mode ⟨flagFall, ilow, ihigh, dlow, dhigh, tlow, thigh, included, extra⟩
    have served := exec_tariffWrite h a
    rw [serveTariffWrite, if_neg (not_not_intro fits)] at served
    simp only [some] at served
    refine ⟨fun level => ?_, fun level trip => ?_, fun level free => ?_⟩
    · rw [served, if_pos level]
      rfl
    · rw [served, if_neg (Nat.not_lt.mpr level), if_pos trip]
      rfl
    · rw [served, if_neg (Nat.not_lt.mpr level), if_neg (by simp [free])]
      have put := tariffs_get_put old.metrology.tariffs x low high
      refine ⟨working { old with metrology := { old.metrology with tariffs := old.metrology.tariffs.put a.number x } },
        ?_, rfl, put, fun n nlow nhigh other => tariffs_get_put_other _ x low high nlow nhigh other⟩
      exact congrArg (fun shown => Host.Outcome.next (replied s .twrt .ok (tariffFields shown)
        (working { old with metrology := { old.metrology with tariffs := old.metrology.tariffs.put a.number x } }))) put
  case bands =>
    intro a row some fits all day
    have inside : within 0 47 a.first = true ∧ within 1 48 a.tariffs.length = true ∧
        a.first + a.tariffs.length - 1 ≤ 47 ∧ a.tariffs.all (within 1 4) = true :=
      ⟨(within_iff ..).mpr (by omega), (within_iff ..).mpr (by omega), by omega,
        List.all_eq_true.mpr fun n mem => (within_iff ..).mpr (all n mem)⟩
    have served := exec_bandsWrite h a
    rw [serveBandsWrite] at served
    simp only [toDayType_eq row] at served
    rw [if_neg (not_not_intro inside)] at served
    refine ⟨fun level => ?_, fun level refused => ?_, fun level free named size => ?_⟩
    · rw [served, if_pos level]
      rfl
    · rw [served, if_neg (Nat.not_lt.mpr level)]
      by_cases trip : s.meter.state.onTrip = true
      · rw [if_pos trip]
        rfl
      · obtain ⟨n, mem, invalid⟩ := refused.resolve_left trip
        rw [if_neg trip, if_pos (List.any_eq_true.mpr ⟨n, mem, by rw [invalid]; rfl⟩)]
        rfl
    · rw [served, if_neg (Nat.not_lt.mpr level), if_neg (by simp [free]), if_neg (by simpa using named)]
      have rows := row_putRow old.metrology day
      have run := writeRun_eq a.first a.tariffs (old.metrology.row day) (by omega)
      refine ⟨working { old with
        metrology := old.metrology.putRow day (writeRun a.first a.tariffs (old.metrology.row day)) }, ?_, ?_, fun other => ?_⟩
      · have length : ((old.metrology.putRow day (writeRun a.first a.tariffs (old.metrology.row day))).row day).length =
            48 := by
          rw [rows, if_pos rfl, run]
          simp only [List.length_append, List.length_take, List.length_drop]
          omega
        exact congrArg (fun size => Host.Outcome.next (replied s .bwrt .ok (.count size ::
          ((old.metrology.putRow day (writeRun a.first a.tariffs (old.metrology.row day))).row day).map fun n => .num 4 n)
          (working { old with
            metrology := old.metrology.putRow day (writeRun a.first a.tariffs (old.metrology.row day)) }))) length
      · exact congrArg (fun m => working { old with metrology := m }) (putRow_rows ..)
      · exact (rows ..).trans (by rw [run])

end Sys2Proof.Machine
end

section
/-! PROOFS. The access levels: codes, their failures and the lockout. -/

namespace Sys2Proof.Machine

theorem exec_codeEnter {s : State} (h : Listening s) (code : Digits) :
    exec (.codeEnter (.fields code)) s = .next (serveCodeEnter code s) :=
  congrArg Host.Outcome.next (request_listening (.codeEnter (.fields code)) s h)

theorem accessDigits_iff (code : Digits) : (isCode 6 6 code = true ∨ isCode 8 8 code = true) ↔
    (code.length = 6 ∨ code.length = 8) ∧ ∀ b ∈ code, 0x30 ≤ b.toNat ∧ b.toNat ≤ 0x39 := by
  rw [isCode_iff, isCode_iff]
  constructor
  · rintro (⟨low, high, digits⟩ | ⟨low, high, digits⟩)
    · exact ⟨.inl (by omega), digits⟩
    · exact ⟨.inr (by omega), digits⟩
  · rintro ⟨six | eight, digits⟩
    · exact .inl ⟨six.ge, six.le, digits⟩
    · exact .inr ⟨eight.ge, eight.le, digits⟩

/-- Settles O53. -/
theorem codesOpenLevels : Obligations.CodesOpenLevels := by
  refine fun s => ⟨fun code h outside => ?bad, fun code h size digits => ?codes, fun i powered running => ?ended,
    fun idle => ?idle, fun h => ?drop⟩
  case bad =>
    refine (exec_codeEnter h code).trans (congrArg Host.Outcome.next (if_pos fun good => ?_))
    obtain ⟨size, digits⟩ := (accessDigits_iff code).mp good
    rcases outside with ⟨notSix, notEight⟩ | ⟨b, mem, low | high⟩
    · exact size.elim notSix notEight
    · exact absurd (digits b mem).1 (Nat.not_le.mpr low)
    · exact absurd (digits b mem).2 (Nat.not_le.mpr high)
  case codes =>
    have served := exec_codeEnter h code
    rw [serveCodeEnter, if_neg (not_not_intro ((accessDigits_iff code).mpr ⟨size, digits⟩))] at served
    refine ⟨fun i running => ⟨lockoutLeft s, ?_⟩, fun open' => ?_⟩
    · rw [served, if_pos (by simp [running])]
      rfl
    · rw [if_neg (by simp [open'])] at served
      refine ⟨fun six right => ?access, fun eight right => ?calibration, fun wrong => ?wrong⟩
      case access =>
        have level : codeLevel code s.store.working = some 1 := by rw [codeLevel, if_pos six, if_pos right]
        simp only [level] at served
        exact served
      case calibration =>
        have level : codeLevel code s.store.working = some 2 := by
          rw [codeLevel, if_neg (by omega), if_pos right]
        simp only [level] at served
        exact served
      case wrong =>
        have level : codeLevel code s.store.working = none := by
          rcases wrong with ⟨six, other⟩ | ⟨eight, other⟩
          · rw [codeLevel, if_pos six, if_neg other]
          · rw [codeLevel, if_neg (by omega), if_neg other]
        simp only [level] at served
        rw [served, countFailure, open']
        rfl
  case ended =>
    have due : lockoutDue s = some i := (if_pos powered).trans running
    exact congrArg Host.Outcome.next (atInstant_due due _ s)
  case idle =>
    have due : lockoutDue s = none := by simp [lockoutDue, idle]
    exact congrArg Host.Outcome.next (atInstant_not_due due _ s)
  case drop => exact congrArg Host.Outcome.next (request_listening (.levelDrop (.fields ())) s h)

end Sys2Proof.Machine
end

section
/-! PROOFS. The state of the first power-on keeps every invariant. -/

namespace Sys2Proof.Machine

theorem boardSound_reset : BoardSound State.reset where
  size := by decide
  distinct := by decide
  oneClaim := by decide
  closed := nofun

/-- No trip, no write and no settings copy stands. -/
theorem reset_books : State.reset.meter.trip = none ∧ State.reset.meter.state.onTrip = false ∧
    State.reset.nonvolatile.settingsA = none ∧ State.reset.nonvolatile.settingsB = none ∧
    State.reset.writer.writing = none := ⟨rfl, rfl, rfl, rfl, rfl⟩

theorem reset_queue : State.reset.scheduler.queue = [] := rfl

theorem fareSound_reset : FareSound State.reset := by
  obtain ⟨trip, meter, copyA, copyB, writing⟩ := reset_books
  exact {
    fare := fun t h => by simp [trip] at h
    calibrated := fun h => by simp [meter] at h
    accumulator := fun t h => by simp [meter] at h
    working := metrologyOk_default
    stored := metrologyOk_default
    copyA := fun c h => by simp [copyA] at h
    copyB := fun c h => by simp [copyB] at h
    writing := fun x copy c h => by simp [writing] at h }

theorem queueSound_reset : QueueSound State.reset where
  distinct := by
    rw [reset_queue]
    exact List.nodup_nil
  caps kind := by
    rw [reset_queue]
    exact Nat.zero_le _
  placed e he := by
    rw [reset_queue] at he
    cases he
  ranked := by
    rw [reset_queue]
    exact .nil

theorem inboxSound_reset : InboxSound State.reset where
  size := by decide
  distinct := List.nodup_nil
  receipts e he := by
    rw [reset_queue] at he
    cases he

theorem logSound_reset : LogSound State.reset where
  size := by decide
  positions := List.nodup_nil
  inside := nofun
  consecutive l _ _ _ log := by cases l <;> cases log
  next l _ log := by cases l <;> cases log

/-- Settles O56. -/
theorem invariantsHoldAtReset : Obligations.InvariantsHoldAtReset :=
  ⟨by decide, by decide, by decide, by decide, syncSound_reset, boardSound_reset, fareSound_reset, queueSound_reset,
    inboxSound_reset, logSound_reset, rfl⟩

end Sys2Proof.Machine
end

section
/-! PROOFS. The frame receiver: what it holds of a frame begun, the end of a whole frame, the gap, and the sending of a
reply. -/

namespace Sys2Proof.Machine

/-! ### What the receiver holds of a frame begun -/

/-- The state with another frame receiver. -/
def withRx (r : FrameReceiver) (s : State) : State := { s with link := { s.link with rx := r } }

/-- The receiver that has taken the lead byte and the bytes given, the last of them at an instant. -/
def frameRx (early marked : Bool) (now : Nat) : List LineByte → FrameReceiver
  | [] =>
    { phase := .length, early := early, broken := false, length := 0, body := [], check := [], lastByte := now
      resetMarked := marked }
  | len :: rest =>
    { phase := if rest.length < len.value.toNat then .body else .check, early := early
      broken := (len :: rest).any (·.broken), length := len.value.toNat
      body := (rest.take len.value.toNat).map (·.value), check := (rest.drop len.value.toNat).map (·.value)
      lastByte := now, resetMarked := marked }

/-- The bytes after the lead byte are those of a frame of a fair length, not yet more than it has. -/
def FrameFits : List LineByte → Prop
  | [] => True
  | len :: rest => 4 ≤ len.value.toNat ∧ len.value.toNat ≤ 244 ∧ rest.length ≤ len.value.toNat + 2

/-- They are the whole frame. -/
def FrameWhole : List LineByte → Prop
  | [] => False
  | len :: rest => rest.length = len.value.toNat + 2

/-- A byte of a frame that does not make it whole is taken. -/
theorem takeByte_frameRx {early marked : Bool} {t : Nat} {taken : List LineByte} {b : LineByte} {s : State}
    (fits : FrameFits (taken ++ [b])) (part : ¬ FrameWhole (taken ++ [b])) :
    takeByte b (updateRx (fun r => { r with lastByte := s.now }) (withRx (frameRx early marked t taken) s)) =
      withRx (frameRx early marked s.now (taken ++ [b])) s := by
  cases taken with
  | nil =>
    obtain ⟨low, high, -⟩ := fits
    have body : 0 < b.value.toNat := by omega
    simp [takeByte, withRx, frameRx, updateRx, low, high, body]
  | cons len rest =>
    obtain ⟨low, high, size⟩ := fits
    replace size : (rest ++ [b]).length ≤ len.value.toNat + 2 := size
    replace part : (rest ++ [b]).length ≠ len.value.toNat + 2 := part
    rw [List.length_append, List.length_singleton] at size part
    by_cases inside : rest.length < len.value.toNat
    · have all : rest.take len.value.toNat = rest := List.take_of_length_le inside.le
      have all' : (rest ++ [b]).take len.value.toNat = rest ++ [b] := List.take_of_length_le (by simpa using inside)
      have none : (rest ++ [b]).drop len.value.toNat = [] := List.drop_of_length_le (by simpa using inside)
      have none' : rest.drop len.value.toNat = [] := List.drop_of_length_le inside.le
      by_cases more : rest.length + 1 < len.value.toNat
      · simp [takeByte, withRx, frameRx, updateRx, inside, all, all', none, none', more, Nat.not_le.mpr more, Bool.or_assoc]
      · simp [takeByte, withRx, frameRx, updateRx, inside, all, all', none, none', more, Nat.not_lt.mp more, Bool.or_assoc]
    · have size : len.value.toNat = rest.length := by omega
      simp [takeByte, withRx, frameRx, updateRx, size, Bool.or_assoc]

/-- The byte that makes a frame whole brings its judgement. -/
theorem takeByte_judged {early marked : Bool} {t : Nat} {taken : List LineByte} {b : LineByte} {s : State}
    (fits : FrameFits (taken ++ [b])) (whole : FrameWhole (taken ++ [b])) :
    takeByte b (updateRx (fun r => { r with lastByte := s.now }) (withRx (frameRx early marked t taken) s)) =
      judgeFrame (withRx (frameRx early marked s.now (taken ++ [b])) s) := by
  cases taken with
  | nil =>
    obtain ⟨low, -⟩ := fits
    replace whole : ([] : List LineByte).length = b.value.toNat + 2 := whole
    simp at whole
  | cons len rest =>
    replace whole : (rest ++ [b]).length = len.value.toNat + 2 := whole
    rw [List.length_append, List.length_singleton] at whole
    have outside : ¬ rest.length < len.value.toNat := by omega
    have check : rest.length - len.value.toNat = 1 := by omega
    have behind : ¬ rest.length + 1 < len.value.toNat := by omega
    have split : (rest ++ [b]).take len.value.toNat = rest.take len.value.toNat := List.take_append_of_le_length (by omega)
    have split' : (rest ++ [b]).drop len.value.toNat = rest.drop len.value.toNat ++ [b] :=
      List.drop_append_of_le_length (by omega)
    simp [takeByte, withRx, frameRx, updateRx, outside, behind, check, split, split', Bool.or_assoc]

theorem FrameFits.start {l k : List LineByte} (fits : FrameFits (l ++ k)) : FrameFits l := by
  cases l with
  | nil => trivial
  | cons len rest =>
    obtain ⟨low, high, size⟩ := fits
    replace size : (rest ++ k).length ≤ len.value.toNat + 2 := size
    rw [List.length_append] at size
    exact ⟨low, high, by omega⟩

theorem FrameFits.start_part {l k : List LineByte} (fits : FrameFits (l ++ k)) (more : k ≠ []) : ¬ FrameWhole l := by
  cases l with
  | nil => exact id
  | cons len rest =>
    obtain ⟨-, -, size⟩ := fits
    replace size : (rest ++ k).length ≤ len.value.toNat + 2 := size
    have longer := List.length_pos_iff.mpr more
    rw [List.length_append] at size
    intro whole
    replace whole : rest.length = len.value.toNat + 2 := whole
    omega

/-- Bytes of a frame that do not make it whole are taken. -/
theorem takeLineBytes_frameRx {early marked : Bool} {t : Nat} {taken back : List LineByte} {s : State} (some : back ≠ [])
    (fits : FrameFits (taken ++ back)) (part : ¬ FrameWhole (taken ++ back)) :
    takeLineBytes back (withRx (frameRx early marked t taken) s) =
      withRx (frameRx early marked s.now (taken ++ back)) s := by
  induction back generalizing taken t with
  | nil => exact absurd rfl some
  | cons b back ih =>
    cases back with
    | nil => exact takeByte_frameRx fits part
    | cons b' back =>
      have joined : taken ++ b :: b' :: back = (taken ++ [b]) ++ (b' :: back) := by simp
      rw [joined] at fits part ⊢
      rw [← ih (List.cons_ne_nil _ _) fits part (t := s.now),
        ← takeByte_frameRx fits.start (fits.start_part (List.cons_ne_nil _ _)) (t := t)]
      rfl

/-- The bytes that make a frame whole bring its judgement. -/
theorem takeLineBytes_judged {early marked : Bool} {t : Nat} {taken back : List LineByte} {s : State} (some : back ≠ [])
    (fits : FrameFits (taken ++ back)) (whole : FrameWhole (taken ++ back)) :
    takeLineBytes back (withRx (frameRx early marked t taken) s) =
      judgeFrame (withRx (frameRx early marked s.now (taken ++ back)) s) := by
  obtain ⟨front, b, rfl⟩ : ∃ front b, back = front ++ [b] :=
    ⟨back.dropLast, back.getLast some, (List.dropLast_append_getLast some).symm⟩
  rw [← List.append_assoc] at fits whole ⊢
  rw [takeLineBytes_append]
  by_cases first : front = []
  · subst first
    rw [List.append_nil] at fits whole ⊢
    exact takeByte_judged fits whole
  · rw [takeLineBytes_frameRx first fits.start (fits.start_part (List.cons_ne_nil _ _))]
    exact takeByte_judged fits whole

/-! ### The end of a frame -/

/-- The state once the receiver has returned to HUNT from a frame whose last byte came at an instant. -/
def huntedAt (marked : Bool) (now : Nat) (s : State) : State :=
  withRx { resetRx with lastByte := now, resetMarked := marked && s.link.owed.isSome } s

theorem endBad_early {s : State} (early : s.link.rx.early = true) : endBad s = hunt s := if_pos early

theorem endBad_answered {s : State} (early : s.link.rx.early = false) :
    endBad s = answer .bad .badFrame [] (hunt s) := if_neg (Bool.eq_false_iff.mp early)

theorem judgeFrame_ends {s : State} (bad : s.link.rx.early = true ∨ s.link.rx.broken = true ∨
    s.link.rx.check ≠ checkBytes (byte s.link.rx.length :: s.link.rx.body)) : judgeFrame s = endBad s := if_pos bad

theorem judgeFrame_serves {s : State} (early : s.link.rx.early = false) (whole : s.link.rx.broken = false)
    (good : s.link.rx.check = checkBytes (byte s.link.rx.length :: s.link.rx.body)) :
    judgeFrame s = serveBody s.link.rx.body (hunt s) := if_neg (by simp [early, whole, good])

section
variable {early marked : Bool} {now : Nat} {len : LineByte} {rest : List LineByte} {body check : List Byte} {s : State}
  (size : len.value.toNat = body.length) (values : rest.map (·.value) = body ++ check)
include size values

theorem frameRx_body : (frameRx early marked now (len :: rest)).body = body := by
  show (rest.take len.value.toNat).map _ = body
  rw [List.map_take, values, size, List.take_left]

theorem frameRx_check : (frameRx early marked now (len :: rest)).check = check := by
  show (rest.drop len.value.toNat).map _ = check
  rw [List.map_drop, values, size, List.drop_left]

/-- The check bytes that the receiver has agree where those of the frame do. -/
theorem frameRx_covered (early : Bool) : (frameRx early marked now (len :: rest)).check =
    checkBytes (byte (frameRx early marked now (len :: rest)).length :: (frameRx early marked now (len :: rest)).body) ↔
      check = checkBytes (len.value :: body) := by
  have covered : byte len.value.toNat = len.value := BitVec.ofNat_toNat ..
  rw [frameRx_check size values, frameRx_body size values, show (frameRx early marked now (len :: rest)).length =
    len.value.toNat from rfl, covered]

theorem judgeFrame_good (whole : (len :: rest).any (·.broken) = false) (good : check = checkBytes (len.value :: body)) :
    judgeFrame (withRx (frameRx false marked now (len :: rest)) s) = serveBody body (huntedAt marked now s) := by
  rw [judgeFrame_serves rfl whole ((frameRx_covered size values false).mpr good)]
  exact congrArg (fun b => serveBody b (huntedAt marked now s)) (frameRx_body size values)

theorem judgeFrame_bad (bad : (len :: rest).any (·.broken) = true ∨ check ≠ checkBytes (len.value :: body)) :
    judgeFrame (withRx (frameRx false marked now (len :: rest)) s) =
      answer .bad .badFrame [] (huntedAt marked now s) := by
  rw [judgeFrame_ends (.inr (bad.imp_right (mt (frameRx_covered size values false).mp)))]
  exact endBad_answered rfl

end

theorem judgeFrame_early {marked : Bool} {now : Nat} {taken : List LineByte} {s : State} :
    judgeFrame (withRx (frameRx true marked now taken) s) = huntedAt marked now s := by
  cases taken with
  | nil | cons => exact (judgeFrame_ends (.inl rfl)).trans (endBad_early rfl)

/-! ### The beginning of a frame -/

/-- The state that the lead byte of a frame leaves, its receiver apart. -/
def leadTaken (s : State) : State := if s.link.owed.isSome then beginEarlyFrame s else s

theorem takeByte_lead {s : State} (hunting : s.link.rx.phase = .hunt) :
    takeByte ⟨0x5A#8, false⟩ (updateRx (fun r => { r with lastByte := s.now }) s) =
      withRx (frameRx s.link.owed.isSome s.link.rx.resetMarked s.now []) (leadTaken s) := by
  cases owed : s.link.owed.isSome <;>
    simp [takeByte, updateRx, hunting, beginFrame, owed, leadTaken, withRx, frameRx, beginEarlyFrame, raise]

/-- A byte that gives no fair length ends the frame. -/
theorem takeByte_badLength {b : LineByte} {s : State} (phase : s.link.rx.phase = .length)
    (outside : b.value.toNat < 4 ∨ 244 < b.value.toNat) : takeByte b s = endBad (updateRx (fun r =>
      { r with length := b.value.toNat, broken := r.broken || b.broken }) s) := by
  simp only [takeByte, phase]
  exact if_neg (by omega)

theorem huntedAt_idle {s : State} (idle : s.link.owed = none) (marked : Bool) (now : Nat) :
    huntedAt marked now s = withRx { resetRx with lastByte := now } s := by
  simp [huntedAt, idle, resetRx]

theorem huntedAt_owed {s : State} (owed : s.link.owed ≠ none) (marked : Bool) (now : Nat) :
    huntedAt marked now s = withRx { resetRx with lastByte := now, resetMarked := marked } s := by
  simp [huntedAt, Option.isSome_iff_ne_none.mpr owed]

/-! ### Whole frames -/

/-- Bytes that meet HUNT are the line's. -/
theorem receiveBytes_hunt {l : List LineByte} {s : State} (some : l ≠ []) (on : s.powered = true)
    (hunting : s.link.rx.phase = .hunt) : receiveBytes l s = takeLineBytes l s := by
  simp [receiveBytes, some, on, dropStale_hunt s hunting]

/-- The bytes behind a lead byte find its frame begun. -/
theorem receiveBytes_lead {s : State} (on : s.powered = true) (hunting : s.link.rx.phase = .hunt)
    (taken : List LineByte) : receiveBytes (⟨0x5A#8, false⟩ :: taken) s = takeLineBytes taken
      (withRx (frameRx s.link.owed.isSome s.link.rx.resetMarked s.now []) (leadTaken s)) := by
  rw [receiveBytes_hunt (List.cons_ne_nil _ _) on hunting, takeLineBytes, takeByte_lead hunting]

theorem leadTaken_idle {s : State} (idle : s.link.owed = none) : leadTaken s = s := by simp [leadTaken, idle]

theorem leadTaken_owed {s : State} (owed : s.link.owed ≠ none) : leadTaken s = beginEarlyFrame s :=
  if_pos (Option.isSome_iff_ne_none.mpr owed)

/-- The parts of the frame that a good request is read from. -/
structure FrameOf (bytes : List Byte) (len : Byte) (body : List Byte) (c : Instr) : Prop where
  bytes : bytes = 0x5A#8 :: len :: (body ++ checkBytes (len :: body))
  size : len.toNat = body.length
  fair : 4 ≤ len.toNat ∧ len.toNat ≤ 244
  request : decodeBody body = some c

theorem frameOf_decodeFrame {bytes : List Byte} {c : Instr} (h : decodeFrame bytes = some c) :
    ∃ len body, FrameOf bytes len body c := by
  unfold decodeFrame at h
  split at h
  · rename_i lead len rest
    split at h
    · rename_i fair
      obtain ⟨rfl, fair⟩ := fair
      split at h
      · rename_i body check taken
        split at h
        · rename_i good
          obtain ⟨rfl, size⟩ := takeBytes_reads _ _ _ _ taken
          exact ⟨len, body, good ▸ rfl, size.symm, fair, h⟩
        · cases h
      · cases h
    · cases h
  · cases h

theorem requestTag_decodeBody {body : List Byte} {c : Instr} (h : decodeBody body = some c) :
    ∃ tag, requestTag c = some tag := by
  unfold decodeBody at h
  split at h
  · rename_i t0 t1 t2 t3 payload
    obtain rfl := Option.some.inj h
    unfold decodeRequest
    dsimp only
    split
    · rename_i row found
      obtain ⟨tag, named, -⟩ := requestTable_bytes row (List.mem_of_find?_eq_some found) payload
      exact ⟨tag, named⟩
    · rename_i none
      have unknown : recognisedTag t0 t1 t2 t3 = false := by simp [recognisedTag, decodeRequest, none]
      exact ⟨.other t0 t1 t2 t3, if_neg (by simp [unknown])⟩
  · cases h

/-- A request that meets a listening part is served. -/
theorem exec_served {c : Instr} {tag : Tag} (h : requestTag c = some tag) {s : State} (listening : Listening s) :
    exec c s = .next (serveRequest c s) := by
  obtain ⟨on, hunting, owed⟩ := listening
  rw [exec_request h]
  simp [receiveFrame, huntFrame, dropStale_hunt s hunting, on, hunting, owed]

end Sys2Proof.Machine
end

section
/-! PROOFS. Frames whole and in pieces, the gap that abandons one, and the end of a reply. -/

namespace Sys2Proof.Machine

/-- The bytes of a frame behind its lead byte fit it and make it whole. -/
theorem frameWhole_of_values {len : LineByte} {rest : List LineByte} {body : List Byte} {x y : Byte}
    (size : len.value.toNat = body.length) (low : 4 ≤ body.length) (high : body.length ≤ 244)
    (values : rest.map (·.value) = body ++ [x, y]) : FrameFits (len :: rest) ∧ FrameWhole (len :: rest) := by
  have length : rest.length = len.value.toNat + 2 := by
    have counted := congrArg List.length values
    rw [List.length_map, List.length_append] at counted
    rw [counted, size]
    rfl
  exact ⟨⟨size ▸ low, size ▸ high, length.le⟩, length⟩

theorem frameRx_phase (early marked : Bool) (now : Nat) (taken : List LineByte) :
    (frameRx early marked now taken).phase ≠ .hunt := by
  cases taken with
  | nil => exact RxPhase.noConfusion
  | cons len rest =>
    simp only [frameRx]
    split <;> exact RxPhase.noConfusion

theorem frameRx_early (early marked : Bool) (now : Nat) (taken : List LineByte) :
    (frameRx early marked now taken).early = early := by
  cases taken <;> rfl

theorem frameRx_lastByte (early marked : Bool) (now : Nat) (taken : List LineByte) :
    (frameRx early marked now taken).lastByte = now := by
  cases taken <;> rfl

/-- The last check byte ends an early frame. -/
theorem takeByte_lastCheck_early {b : LineByte} {s : State} (phase : s.link.rx.phase = .check)
    (first : s.link.rx.check.length = 1) (early : s.link.rx.early = true) : takeByte b s = hunt s := by
  simp only [takeByte, phase]
  refine (if_pos (by simp [updateRx, first])).trans ?_
  rw [judgeFrame_ends (.inl (by simpa [updateRx] using early)), endBad_early (by simpa [updateRx] using early)]
  rfl

/-- Bytes of a frame taken at the instant of those before them. -/
theorem takeLineBytes_front {early marked : Bool} {front back : List LineByte} {s : State} (some : back ≠ [])
    (fits : FrameFits (front ++ back)) : takeLineBytes front (withRx (frameRx early marked s.now []) s) =
      withRx (frameRx early marked s.now front) s := by
  by_cases none : front = []
  · rw [none, takeLineBytes]
  · exact takeLineBytes_frameRx none fits.start (fits.start_part some)

theorem unbroken_values (l : List Byte) : (unbroken l).map (·.value) = l := by
  rw [unbroken, List.map_map]
  exact List.map_id l

theorem unbroken_whole (l : List Byte) : (unbroken l).any (·.broken) = false := by
  simp [unbroken]

/-- A good frame served: the request it spells meets the receiver in HUNT. -/
theorem serveBody_exec {len : Byte} {bytes body : List Byte} {c : Instr} (frame : FrameOf bytes len body c) {s : State}
    (on : s.powered = true) (idle : s.link.owed = none) (marked : Bool) :
    Host.Outcome.next (serveBody body (huntedAt marked s.now s)) =
      exec c (withRx { resetRx with lastByte := s.now } s) := by
  obtain ⟨tag, named⟩ := requestTag_decodeBody frame.request
  have served := exec_served named (s := withRx { resetRx with lastByte := s.now } s) ⟨on, rfl, idle⟩
  rw [huntedAt_idle idle, served]
  simp only [serveBody, frame.request]

/-- The bytes of a good frame behind its lead byte fit it and make it whole. -/
theorem FrameOf.whole {len : Byte} {bytes body : List Byte} {c : Instr} (frame : FrameOf bytes len body c) :
    FrameFits (unbroken (len :: (body ++ checkBytes (len :: body)))) ∧
      FrameWhole (unbroken (len :: (body ++ checkBytes (len :: body)))) :=
  frameWhole_of_values (x := ((crc16 (len :: body)) >>> 8).setWidth 8) (y := (crc16 (len :: body)).setWidth 8)
    frame.size (frame.size ▸ frame.fair.1) (frame.size ▸ frame.fair.2) (unbroken_values _)

theorem FrameOf.judged {len : Byte} {bytes body : List Byte} {c : Instr} (frame : FrameOf bytes len body c) {s : State}
    (on : s.powered = true) (idle : s.link.owed = none) (marked : Bool) :
    Host.Outcome.next (judgeFrame (withRx (frameRx false marked s.now
        (unbroken (len :: (body ++ checkBytes (len :: body))))) s)) =
      exec c (withRx { resetRx with lastByte := s.now } s) := by
  rw [← serveBody_exec frame on idle marked]
  exact congrArg Host.Outcome.next (judgeFrame_good (len := ⟨len, false⟩) frame.size (unbroken_values _) (unbroken_whole _) rfl)

/-- The bytes of a frame behind its lead byte: the length byte, and the rest. -/
theorem frame_parts {rest : List LineByte} {body check : List Byte} (high : body.length ≤ 244)
    (values : rest.map (·.value) = BitVec.ofNat 8 body.length :: (body ++ check)) :
    ∃ len tail, rest = len :: tail ∧ len.value = BitVec.ofNat 8 body.length ∧
      len.value.toNat = body.length ∧ tail.map (·.value) = body ++ check := by
  cases rest with
  | nil => cases values
  | cons len tail =>
    obtain ⟨head, tail_values⟩ := List.cons.inj values
    refine ⟨len, tail, rfl, head, ?_, tail_values⟩
    rw [show len.value = _ from head, BitVec.toNat_ofNat]
    omega

/-- A frame whose length byte is out of range ends at it. -/
theorem receiveBytes_badLength {s : State} (on : s.powered = true) (hunting : s.link.rx.phase = .hunt) {n : Byte}
    (outside : n.toNat < 4 ∨ 244 < n.toNat) :
    (s.link.owed = none → receiveBytes [⟨0x5A#8, false⟩, ⟨n, false⟩] s =
      answer .bad .badFrame [] (withRx { resetRx with lastByte := s.now } s)) ∧
    (s.link.owed ≠ none → receiveBytes [⟨0x5A#8, false⟩, ⟨n, false⟩] s =
      withRx { resetRx with lastByte := s.now, resetMarked := s.link.rx.resetMarked } (beginEarlyFrame s)) := by
  rw [receiveBytes_lead on hunting, takeLineBytes, takeByte_badLength (by rfl) outside, takeLineBytes]
  refine ⟨fun idle => ?_, fun owed => ?_⟩
  · rw [idle, leadTaken_idle idle, ← huntedAt_idle idle s.link.rx.resetMarked s.now]
    exact endBad_answered rfl
  · rw [Option.isSome_iff_ne_none.mpr owed, leadTaken_owed owed, ← huntedAt_owed (s := beginEarlyFrame s) owed]
    exact endBad_early rfl

/-- Settles O55. -/
theorem framesAndReplies : Obligations.FramesAndReplies := by
  refine fun s => ⟨fun h => ?restart, fun t0 t1 t2 t3 h unknown => ?unknown, fun n h outside => ?badLength,
    fun body x y rest low high values => ⟨fun h bad => ?badFrame, fun on hunting owed => ?early⟩,
    fun bytes front back c decoded parts some h => ?pieces, fun b on phase live => ?body,
    fun bytes some on following stale => ?stale, fun n on hunting owed outside => ?earlyLength,
    fun on following => ?abandon, fun hunting => ?noAbandon, fun o on owed => ?sent, fun idle => ?noReply⟩
  case restart => exact congrArg Host.Outcome.next (request_listening (.restart (.fields ())) s h)
  case unknown =>
    have tag : requestTag (.unknownRequest t0 t1 t2 t3) = some (.other t0 t1 t2 t3) := if_neg (by simp [unknown])
    exact exec_served tag h
  case badLength =>
    obtain ⟨on, hunting, idle⟩ := h
    exact congrArg Host.Outcome.next ((receiveBytes_badLength on hunting outside).1 idle)
  case earlyLength =>
    refine congrArg Host.Outcome.next ((if_pos (.inl (Option.isSome_iff_ne_none.mpr owed))).trans ?_)
    exact (receiveBytes_badLength on hunting outside).2 owed
  case noAbandon =>
    exact congrArg Host.Outcome.next (atInstant_not_due (by simp [frameAbandonDue, dueWhen, hunting]) hunt s)
  case noReply =>
    exact congrArg Host.Outcome.next (atInstant_not_due (by simp [replyEndDue, idle]) endReply s)
  case abandon =>
    have due : frameAbandonDue s = some (s.link.rx.lastByte + 21) := by
      simp [frameAbandonDue, dueWhen, on, following, Config.gapMs]
    exact congrArg Host.Outcome.next (atInstant_due due hunt s)
  case body =>
    refine congrArg Host.Outcome.next ((receiveBytes_live (List.cons_ne_nil _ _) on live).trans ?_)
    rw [takeLineBytes, takeLineBytes]
    simp only [takeByte, updateRx, phase, List.length_append, List.length_singleton, ge_iff_le]
  case badFrame =>
    obtain ⟨on, hunting, idle⟩ := h
    obtain ⟨len, rest, rfl, named, size, values⟩ := frame_parts high values
    obtain ⟨fits, whole⟩ := frameWhole_of_values size low high values
    refine congrArg Host.Outcome.next ((receiveBytes_lead on hunting _).trans ?_)
    rw [idle, leadTaken_idle idle, show Option.isSome (none : Option Owed) = false from rfl,
      takeLineBytes_judged (List.cons_ne_nil _ _) fits whole, List.nil_append, judgeFrame_bad size values ?_,
      huntedAt_idle idle]
    · rfl
    · rw [named]
      exact bad.imp_left fun ⟨b, mem, broken⟩ => List.any_eq_true.mpr ⟨b, mem, broken⟩
  case early =>
    obtain ⟨len, rest, rfl, named, size, values⟩ := frame_parts high values
    obtain ⟨fits, whole⟩ := frameWhole_of_values size low high values
    refine congrArg Host.Outcome.next ((if_pos (.inl (Option.isSome_iff_ne_none.mpr owed))).trans ?_)
    rw [receiveBytes_lead on hunting, Option.isSome_iff_ne_none.mpr owed, leadTaken_owed owed,
      takeLineBytes_judged (List.cons_ne_nil _ _) fits whole, judgeFrame_early, huntedAt_owed (s := beginEarlyFrame s) owed]
    rfl
  case pieces =>
    obtain ⟨len, body, frame⟩ := frameOf_decodeFrame decoded
    obtain ⟨fits, whole⟩ := frame.whole
    obtain ⟨on, hunting, idle⟩ := h
    have lead (taken : List LineByte) := receiveBytes_lead on hunting taken
    rw [idle, leadTaken_idle idle] at lead
    refine ⟨fun none => ?whole, fun some' => ?front⟩
    case whole =>
      have all : unbroken back = ⟨0x5A#8, false⟩ :: unbroken (len :: (body ++ checkBytes (len :: body))) := by
        rw [← List.nil_append back, ← none, ← parts, frame.bytes]
        rfl
      refine Eq.trans ?_ (frame.judged on idle s.link.rx.resetMarked)
      refine congrArg Host.Outcome.next ((congrArg (receiveBytes · s) all).trans ((lead _).trans ?_))
      exact takeLineBytes_judged (List.cons_ne_nil _ _) fits whole
    case front =>
      obtain ⟨first, taken, rfl⟩ := List.exists_cons_of_ne_nil some'
      obtain ⟨rfl, joined⟩ : first = 0x5A#8 ∧ taken ++ back = len :: (body ++ checkBytes (len :: body)) := by
        rw [frame.bytes, List.cons_append] at parts
        obtain ⟨head, tail⟩ := List.cons.inj parts
        exact ⟨head.symm, tail.symm⟩
      have bytes : unbroken (len :: (body ++ checkBytes (len :: body))) = unbroken taken ++ unbroken back := by
        rw [← joined, unbroken, List.map_append]
        rfl
      have more : unbroken back ≠ [] := by simpa [unbroken] using some
      rw [bytes] at fits whole
      refine ⟨frameRx false s.link.rx.resetMarked s.now (unbroken taken), frameRx_phase _ _ _ _, frameRx_early ..,
        frameRx_lastByte .., ?_, fun u on same idle' live => ?_⟩
      · exact congrArg Host.Outcome.next ((lead _).trans (takeLineBytes_front more fits))
      · refine Eq.trans ?_ (frame.judged on idle' s.link.rx.resetMarked)
        have held : u = withRx (frameRx false s.link.rx.resetMarked s.now (unbroken taken)) u := by
          rw [← same]
          rfl
        have dated : u.link.rx.lastByte = s.now := same ▸ frameRx_lastByte ..
        refine congrArg Host.Outcome.next ((receiveBytes_live more on (dated ▸ live)).trans ?_)
        rw [bytes, ← takeLineBytes_judged more fits whole (t := s.now), ← held]
  case stale =>
    have dropped : dropStale s = hunt s := dropStale_stale s following stale
    have same : receiveBytes bytes s = receiveBytes bytes (hunt s) := by
      rw [receiveBytes, receiveBytes, dropped, dropStale_hunt (hunt s) rfl]
      simp [on, some, hunt, updateRx]
    refine ⟨congrArg Host.Outcome.next same, fun owed => ?_, fun idle => ?_⟩
    · have owed := Option.isSome_iff_ne_none.mpr owed
      exact congrArg Host.Outcome.next ((if_pos (.inl owed)).trans (same.trans (if_pos (.inl owed)).symm))
    · exact congrArg Host.Outcome.next (if_neg (by simp [idle, dropped, hunt, updateRx, resetRx]))
  case sent =>
    intro bits now
    have due : replyEndDue s = some (o.since + (bits * 1000 + 115199) / 115200) := by
      simp only [replyEndDue, on, owed, lineMs, bits, Nat.mul_assoc]
      rfl
    have ended : exec .replyComplete s = .next (endReply (advanceTo (o.since + (bits * 1000 + 115199) / 115200) s)) :=
      congrArg Host.Outcome.next (atInstant_due due endReply s)
    refine ⟨fun plain => ?plain, fun marked hunting => ?reset, fun marked following early => ?following⟩
    case plain =>
      rw [ended]
      exact congrArg Host.Outcome.next (if_neg (by simp [advanceTo, plain]))
    case reset =>
      rw [ended]
      refine congrArg Host.Outcome.next ((if_pos (by simp [advanceTo, marked, hunting])).trans ?_)
      simp [hunt, updateRx, advanceTo, now, resetRx]
    case following =>
      intro sent
      refine ⟨?_, ?_, fun b live last => ?_⟩
      · rw [ended]
        exact congrArg Host.Outcome.next (if_neg (by simp [advanceTo, following, early]))
      · have due : frameAbandonDue sent = Option.some (s.link.rx.lastByte + 21) := by
          simp [frameAbandonDue, dueWhen, on, following, Config.gapMs, sent]
        refine congrArg Host.Outcome.next ((atInstant_due due hunt sent).trans ?_)
        simp [hunt, updateRx, advanceTo, sent, resetRx]
      · have kept : dropStale sent = sent := dropStale_live sent live
        refine congrArg Host.Outcome.next ((if_pos (.inr (kept.symm ▸ early))).trans ?_)
        rw [receiveBytes_live (s := sent) (List.cons_ne_nil _ _) on live, takeLineBytes, takeLineBytes]
        have ends : takeByte b (updateRx (fun r => { r with lastByte := sent.now }) sent) = hunt (updateRx
            (fun r => { r with lastByte := now }) sent) := by
          rcases last with ⟨phase, first⟩ | ⟨phase, outside⟩
          · exact takeByte_lastCheck_early (s := updateRx (fun r => { r with lastByte := sent.now }) sent) phase first early
          · exact (takeByte_badLength (s := updateRx (fun r => { r with lastByte := sent.now }) sent) phase outside).trans
              (endBad_early early)
        rw [ends]
        simp [hunt, updateRx, sent, resetRx]

end Sys2Proof.Machine
end
